-- ==== Sys2Proof/Word.lean ====
section
/-! DEFINITION. The byte, and the plain integer arithmetic of 00_scope.md ("Arithmetic"): clamps and magnitudes.
Quantities of the part are integers in their own unit, so they are `Nat` or `Int`; only what the links, the service
line and the store carry as bytes is a bit vector. -/

namespace Sys2Proof

/-- One byte of a frame or of the calibration store. -/
abbrev Byte := BitVec 8

/-- A clamp to a range: the lower bound first, then the upper one (00_scope.md, "Arithmetic"). -/
def clamp (lo hi x : Nat) : Nat := if x < lo then lo else if hi < x then hi else x

/-- A clamp of a signed value (00_scope.md, "Arithmetic"). -/
def clampZ (lo hi x : Int) : Int := if x < lo then lo else if hi < x then hi else x

/-- The magnitude of a difference. -/
def dist (a b : Nat) : Nat := (a - b) + (b - a)

end Sys2Proof
end

