-- ==== Sys2Proof/Syntax.lean ====
section
/-! DEFINITION. The commands of the part: one constructor of `Instr` per row of spec/opcode_table.json, with the time
since the previous command (`dt`, ms) and what the step reads from the outside. The name types an operand needs stand
before it, and the records that hold one value per clutch, channel, pickup, function or gate. -/

namespace Sys2Proof

/-- The four pickups of R2. -/
inductive Pickup where
  | input | output | front | radar
  deriving DecidableEq, Repr

/-- The two CAN links of section 10.1. -/
inductive Link where
  | vehicle | implement
  deriving DecidableEq, Repr

/-- The six functions of R16, in the order of its table. -/
inductive Func where
  | gear | speed | axle | hitchSet | hitchLift | calib
  deriving DecidableEq, Repr

/-- The nine clutches, in channel order (R69). -/
inductive Clutch where
  | cf | cv | c1 | c2 | c3 | c4 | cl | cm | ch
  deriving DecidableEq, Repr

/-- The sixteen solenoid channels of R69. -/
inductive Chan where
  | clutch (c : Clutch)
  | fwdRelease | diffLock | hitchRaise | hitchLower | trailerControl | trailerSupply | spare
  deriving DecidableEq, Repr

/-- The 22 fault codes of R157, in ascending order. -/
inductive FaultCode where
  | clutchChannel | clutchSlip | vehicleLinkLost | trailerSupplyLost | valveSupplyLow | hitchPositionSensor
  | hitchRunaway | brakePressureSensor
  | radarImplausible | engineReportLost | shiftTimeout | axleReleaseFailed | axleNotTransmitting
  | brakeSwitchDisagree | trailerPressureDeviation | trailerSupplyNotCharged | draftSensor | auxChannel
  | oilTemperature | storeWrite | speedSensor | parkAtSpeed
  deriving DecidableEq, Repr

/-- The position of a fender switch (R136). -/
inductive FenderSwitch where
  | up | down | released
  deriving DecidableEq, Repr

/-- One value per clutch. -/
structure PerClutch (α : Type) where
  cf : α
  cv : α
  c1 : α
  c2 : α
  c3 : α
  c4 : α
  cl : α
  cm : α
  ch : α
  deriving DecidableEq, Repr

/-- One value per channel. -/
structure PerChan (α : Type) where
  clutch : PerClutch α
  fwdRelease : α
  diffLock : α
  hitchRaise : α
  hitchLower : α
  trailerControl : α
  trailerSupply : α
  spare : α
  deriving DecidableEq, Repr

/-- What a read-back of a program or of an erase finds (R102, R103): the bytes meant, or others, given from the first
byte of the slot or page on (a byte not given reads 0xFF). -/
inductive ReadBack where
  | asMeant
  | other (bytes : List Byte)
  deriving DecidableEq, Repr

/-- One of the 50 readings of the strap window (R71); true is a low level. -/
structure StrapReading where
  trailerLow : Bool
  draftLow : Bool
  radarLow : Bool
  diffLockLow : Bool
  serviceLow : Bool
  deriving DecidableEq, Repr

/-- The hardwired inputs a hitch step reads (R120): the 12-bit position reading, the draft pins in counts, the fender
switches and the clutch pedal. -/
structure HitchInputs where
  adc : Nat
  pinLeft : Int
  pinRight : Int
  fenderLeft : FenderSwitch
  fenderRight : FenderSwitch
  pedal : Nat
  deriving DecidableEq, Repr

/-- The hardwired inputs a brake step reads (R142). `supplyClosed` is the trailer supply pressure switch. -/
structure BrakeInputs where
  pedalLeft : Bool
  pedalRight : Bool
  rawBrake : Nat
  rawLine : Nat
  parkApplied : Bool
  supplyClosed : Bool
  deriving DecidableEq, Repr

/-- The commands: one constructor per row of spec/opcode_table.json, in its order. -/
inductive Instr where
  | speedSample (dt pedal : Nat)
  | pickupEdge (dt : Nat) (p : Pickup) (us : Nat)
  | authorityReview (dt : Nat)
  | implAuthorityRequest (dt : Nat)
  | implAuthorityKeep (dt : Nat)
  | implAuthorityRelease (dt : Nat)
  | pendingTimeout (dt : Nat) (f : Func)
  | leaseLapse (dt : Nat) (f : Func)
  | shiftStep (dt pedal : Nat)
  | cabCommandGearUp (dt : Nat)
  | cabCommandGearDown (dt : Nat)
  | cabCommandDirection (dt : Nat)
  | cabCommandAck (dt : Nat)
  | implSpeed (dt : Nat)
  | channelStep (dt : Nat) (amps : PerChan Nat) (volts : Nat)
  | oilTimer (dt : Nat) (temp : Int)
  | runStep (dt pedal : Nat)
  | slotProgramComplete (dt : Nat) (rb : ReadBack)
  | voidProgramComplete (dt : Nat)
  | pageEraseComplete (dt : Nat) (rb : ReadBack)
  | headerProgramComplete (dt : Nat) (rb : ReadBack)
  | storeDrained (dt : Nat)
  | axleStep (dt : Nat) (switchClosed : Bool)
  | implAxle (dt : Nat)
  | hitchStep (dt : Nat) (inp : HitchInputs)
  | implHitchSetpoint (dt : Nat)
  | implHitchRaise (dt : Nat)
  | implHitchWork (dt : Nat)
  | hitchStatus (dt : Nat)
  | brakeStep (dt : Nat) (inp : BrakeInputs)
  | trailerStatus (dt : Nat)
  | entryRemoval (dt : Nat) (code : FaultCode)
  | powerStep (dt : Nat) (ignition : Bool) (rbs : List ReadBack)
  | supplyApplied (dt : Nat) (ignition : Bool)
  | strapWindowEnd (dt : Nat) (readings : List StrapReading)
  | linkCheck (dt : Nat)
  | engineReport (dt : Nat) (data : List Byte)
  | operatorDemandA (dt : Nat) (data : List Byte)
  | operatorDemandB (dt : Nat) (data : List Byte)
  | eventFrameReceived (dt : Nat) (l : Link) (ident : Nat) (data : List Byte)
  | frameSent (dt : Nat) (l : Link)
  | reportTimer (dt : Nat)
  | busOff (dt : Nat) (l : Link)
  | linkRejoin (dt : Nat) (l : Link)
  | serviceByte (dt : Nat) (b : Byte)
  | serviceGapExpiry (dt : Nat)
  | answerStart (dt : Nat)
  | answerSent (dt : Nat) (rbs : List ReadBack)
  | sync (dt : Nat)
  | key (dt : Nat)
  | cancel (dt : Nat)
  | lock (dt : Nat)
  | readItem (dt : Nat)
  | writeItem (dt : Nat)
  | take (dt : Nat)
  | release (dt : Nat)
  | calRun (dt pedal : Nat)
  | calAbort (dt : Nat)
  | storeNow (dt : Nat)
  | restart (dt : Nat)
  | silenceExpiry (dt : Nat)
  | syncBlockExpiry (dt : Nat)
  | lossOfSupply (dt : Nat) (untouched : List Byte)
  | serviceLineFirstRise (dt : Nat)
  deriving DecidableEq, Repr

end Sys2Proof
end

