-- ==== Sys2Proof/Decode.lean ====
section
/-! DEFINITION. The command that a word spells. The part takes commands, not words: spec/opcode_table.json gives bits to none
of its rows, so no word spells a command. -/

namespace Sys2Proof

/-- The command a word of the opcode table spells; none, as the table gives no row any bits. -/
def decodeTableWord (_nbits _w : Nat) : Option Instr := none

end Sys2Proof
end

