-- ==== Sys2Proof/Config.lean ====
section
/-! DEFINITION. The values the spec leaves open and the machine goes on with: opaque constants without a body, so that no
proof can rest on a number for them (log 6). Each is applied to the counter `State.free` or to the operands it depends
on. -/

namespace Sys2Proof

/-- ENG at a speed sample that judges the Engine Report fresh while its mailbox has held no copy (R6 takes "the engine
speed field of the latest copy", and there is none). DESIGN CHOICE: free, safe (log 6). -/
opaque Config.engineSpeedWithoutCopy : Nat → Nat

/-- The reading of a span of 0 µs, from the pulses in it (R3, R4 divide by the span). DESIGN CHOICE: free, safe (log 6). -/
opaque Config.readingOfZeroSpan : Nat → Nat

/-- P_kiss of a clutch whose entry in the calibration in use is absent, where R57 to R59 read it. DESIGN CHOICE: free, safe
(log 6). -/
opaque Config.kissPressureWithoutRecord : Clutch → Nat

/-- D_act from the sum of the two pin readings while DRAFT_FITTED is present and the HITCH entry, which holds D_fs, is absent
(R122). DESIGN CHOICE: free, safe (log 6). -/
opaque Config.draftWithoutRecord : Int → Int

/-- P_set, D_set and M where R126 names a setpoint that is absent. DESIGN CHOICE: free, safe (log 6). -/
opaque Config.setpointWithoutSource : Nat → Nat × Nat × Nat

end Sys2Proof
end

