-- ==== Sys2Proof/Machine/State.lean ====
section
/-! DEFINITION. The state of the part, block by block (00_scope.md, "The blocks"), the two reason types of a stop, and the
state after reset. Every field is plain data. Default values are the values of a Power-on start (R14, R36, R68, R86,
R105, R119, R140, R154, R170, R180, R189); those the spec does not give are DESIGN CHOICEs named in logs 10 to 15. -/

namespace Sys2Proof.Machine

/-! ### Names and small records -/

/-- The holders of R16. -/
inductive Holder where
  | cab | impl | svc | part | fender
  deriving DecidableEq, Repr

/-- The enable states of R19. -/
inductive Enable where
  | off | armed | spent
  deriving DecidableEq, Repr

/-- The refusal reasons of R179. -/
inductive Reason where
  | notHolder | notDelegated | busy | inhibited | notPermitted | locked | uncalibrated | unknown | timeout
  deriving DecidableEq, Repr

/-- The shuttle lever as OPERATOR_DEMAND_A reports it (R181). -/
inductive Lever where
  | neutral | forward | reverse
  deriving DecidableEq, Repr

/-- A selector setting OFF, ON or AUTO (R108, R171). -/
inductive Mode where
  | off | on | auto
  deriving DecidableEq, Repr

/-- The rocker, in the order R124 lists it. -/
inductive Rocker where
  | raise | hold | work
  deriving DecidableEq, Repr

/-- The direction a request names (R171). -/
inductive DirRequest where
  | neutral | forward | reverse
  deriving DecidableEq, Repr

/-- A direction of travel. -/
inductive Dir where
  | fwd | rev
  deriving DecidableEq, Repr

/-- N, Fn or Vn (00_scope.md, "Gears"). -/
inductive Gear where
  | neutral
  | fwd (n : Nat)
  | rev (n : Nat)
  deriving DecidableEq, Repr

/-- The direction field of Gear State (R39). -/
inductive Direction where
  | fwd | rev | neutral
  deriving DecidableEq, Repr

/-- The kind of a shift in flight (R39, R44). -/
inductive ShiftKind where
  | simple | compound | shuttle
  deriving DecidableEq, Repr

/-- The phases of R45 to R55. -/
inductive Phase where
  | prefill | overlap | dirDown | swapFill | dirRelease | dirFill | reversal | dirRamp | finish
  deriving DecidableEq, Repr

/-- The group gates of R164. -/
inductive Group where
  | trans | axle | hitch | trailer
  deriving DecidableEq, Repr

/-- The blocks that raise faults, coded as in FAULT_NOTICE (R181). -/
inductive Block where
  | speedCapture | shiftSequencer | solenoidChannels | fillStore | axleEngagement | hitchController
  | trailerBrake | linkInterface
  deriving DecidableEq, Repr

/-- One value per gate. -/
structure PerGroup (α : Type) where
  trans : α
  axle : α
  hitch : α
  trailer : α
  deriving DecidableEq, Repr

/-- One value per function. -/
structure PerFunc (α : Type) where
  gear : α
  speed : α
  axle : α
  hitchSet : α
  hitchLift : α
  calib : α
  deriving DecidableEq, Repr

/-! ### Build Record (R71) -/

/-- The Build Record. -/
structure BuildRecord where
  trailerFitted : Bool := false
  draftFitted : Bool := false
  radarFitted : Bool := false
  diffLockFitted : Bool := false
  serviceStrap : Bool := false
  deriving DecidableEq, Repr

/-! ### Speed Capture -/

/-- A capture record (R2) and the reading of the previous speed sample (R3). Edge times in µs. -/
structure Capture where
  ref : Option Nat := none
  count : Nat := 0
  latest : Option Nat := none
  reading : Nat := 0
  deriving DecidableEq, Repr

/-- The Speed Set. -/
structure SpeedSet where
  tin : Nat := 0
  tout : Nat := 0
  fax : Nat := 0
  eng : Nat := 0
  vWheel : Nat := 0
  vGround : Nat := 0
  slipF : Nat := 0
  slipValid : Bool := false
  radarValid : Bool := false
  engFresh : Bool := false
  deriving DecidableEq, Repr

/-- The radar check state (R8), with the doubt time and the recovery time. -/
inductive RadarCheck where
  | absent
  | ok
  | doubt (since : Nat)
  | failed (recovery : Option Nat)
  deriving DecidableEq, Repr

/-- The two shafts of the speed sensor check (R12). -/
inductive Shaft where
  | input | output
  deriving DecidableEq, Repr

/-- The records of Speed Capture. -/
structure SpeedState where
  capInput : Capture := { ref := none }
  capOutput : Capture := { ref := none }
  capFront : Capture := { ref := none }
  capRadar : Capture := { ref := none }
  set : SpeedSet := { tin := 0 }
  radar : RadarCheck := .absent
  /-- the noted silent pickup and the condition time of R12 -/
  condition : Option (Shaft × Nat) := none
  /-- the recorded silent pickup of R12 -/
  silent : Option Shaft := none
  /-- while fault 29 is active: the first sample of the run in which both shafts read nonzero (R12) -/
  turningSince : Option Nat := none
  /-- the previous sample judged the Engine Report stale (R6) -/
  stale : Bool := false
  deriving DecidableEq, Repr

/-! ### Function Arbiter -/

/-- The values just read at a review (R18). -/
structure Seen where
  flagSpeed : Bool
  flagAxle : Bool
  flagHitchSet : Bool
  flagHitchLift : Bool
  lever : Lever
  autoMode : Bool
  fwdMode : Mode
  dlMode : Mode
  pLever : Nat
  rocker : Rocker
  deriving DecidableEq, Repr

/-- A reclaim reference: the values R17 lists for the function. -/
inductive Reference where
  | speed (lever : Lever) (autoMode : Bool)
  | axle (fwdMode dlMode : Mode)
  | hitchSet (pLever : Nat)
  | hitchLift (rocker : Rocker)
  deriving DecidableEq, Repr

/-- An entry of the Function Authority Table (R16). -/
structure AuthEntry where
  holder : Holder := .cab
  leaseEnd : Option Nat := none
  pendingSince : Option Nat := none
  reference : Option Reference := none
  deriving DecidableEq, Repr

/-- The records of the Function Arbiter. -/
structure AuthState where
  table : PerFunc AuthEntry
  enable : PerFunc Enable
  seen : Option Seen
  statusDue : Bool
  lastStatus : Nat
  deriving DecidableEq, Repr

/-! ### Shift Sequencer -/

/-- The clutch states of R38. -/
inductive ClutchState where
  | vented | filling | ramping | applied | releasing
  deriving DecidableEq, Repr

/-- A clutch record (R38). `pressure` is what the state or phase calls for, `commanded` what the pedal limit leaves of it
(R57); `fillTime` is the effective fill time read when FILLING was entered. -/
structure ClutchRec where
  state : ClutchState := .vented
  pressure : Nat := 0
  commanded : Nat := 0
  entered : Nat := 0
  fillTime : Nat := 0
  deriving DecidableEq, Repr

/-- Gear State (R39). -/
structure GearState where
  gear : Gear := .neutral
  direction : Direction := .neutral
  shiftKind : Option ShiftKind := none
  shiftPhase : Option Phase := none
  target : Gear := .neutral
  pendingTarget : Option Gear := none
  autoMode : Bool := false
  neutralStartOk : Bool := false
  draftHold : Bool := false
  shuttleDecel : Bool := false
  deriving DecidableEq, Repr

/-- The torque part of a shift while it runs (R56). -/
structure Torque where
  t0 : Nat
  /-- TORQUE_LIMIT is sent for this shift -/
  asked : Bool
  acked : Bool
  nextSend : Nat
  deriving DecidableEq, Repr

/-- The shift record of a shift in flight (R44). -/
structure ShiftRec where
  kind : ShiftKind
  phase : Phase
  start : Nat
  onComing : List Clutch
  offGoing : List Clutch
  /-- a SHUTTLE that reverses the direction engaged or last engaged (R51, R53) -/
  reversing : Bool
  /-- a SIMPLE or COMPOUND shift to a higher gear number (R43) -/
  upshift : Bool
  lockCount : Nat := 0
  torque : Option Torque := none
  torqueBegun : Bool := false
  degraded : Bool := false
  declutched : Bool := false
  eligible : Bool := false
  timedOut : Bool := false
  /-- shift steps of DIR_DOWN taken, and the pressure at its start (R48) -/
  downSteps : Nat := 0
  p0 : Nat := 0
  /-- when the ramped clutch first reached P_full (R47, R50) -/
  fullAt : Option Nat := none
  deriving DecidableEq, Repr

/-- The causes of the neutral reaction as read at a shift step (R60). -/
structure Causes where
  gateClosed : Bool := false
  linkLostSlow : Bool := false
  shutdown : Bool := false
  partHolds : Bool := false
  deriving DecidableEq, Repr

/-- The records of the Shift Sequencer. `gear` to `shuttleDecel` are its own Gear State, `published` the copy readers take
(R39); direction follows the gear. -/
structure SeqState where
  clutches : PerClutch ClutchRec
  gear : Gear := .neutral
  target : Gear := .neutral
  pendingTarget : Option Gear := none
  autoMode : Bool := false
  neutralStartOk : Bool := false
  draftHold : Bool := false
  shuttleDecel : Bool := false
  shift : Option ShiftRec := none
  preselect : Option Nat := none
  neutralNumber : Nat := 1
  lastDir : Option Dir := none
  nUp : Nat := 2050
  nDn : Nat := 1500
  gMin : Nat := 1
  gMax : Nat := 12
  vTarget : Option Nat := none
  upSince : Option Nat := none
  downSince : Option Nat := none
  choiceSince : Option Nat := none
  slipSince : Option Nat := none
  armed : Bool := false
  /-- when the latest shift that had begun its torque part ended (R54) -/
  draftEnd : Option Nat := none
  /-- the engaged direction clutch follows the pedal by the slow rise of R59 -/
  reengaged : Bool := false
  causes : Causes := { gateClosed := false }
  published : GearState := { gear := .neutral }
  deriving DecidableEq, Repr

/-! ### Solenoid Channels -/

/-- The channel states of R70, in its order. -/
inductive ChanState where
  | off | driving | pullIn | hold | parked | faulted
  deriving DecidableEq, Repr

/-- A channel record (R70). `demand` is in the unit R69 gives, 0 or 1 for a switched channel; `conditionPresent` is the
fault condition R80 clears, `raised` what R79 keeps. -/
structure Channel where
  fitted : Bool := false
  demand : Nat := 0
  commanded : Nat := 0
  measured : Nat := 0
  faultTimer : Option Nat := none
  state : ChanState := .off
  since : Nat := 0
  ackSeen : Bool := false
  conditionPresent : Bool := false
  raised : Option (FaultCode × Nat) := none
  deriving DecidableEq, Repr

/-- The supply monitor (R82) with the dip time and the settle time. -/
inductive Monitor where
  | normal
  | dipping (since : Nat)
  | low
  | recovering (since : Nat)
  deriving DecidableEq, Repr

/-- The records of the Solenoid Channels block; `snapshot` is every record as of the latest channel step (R70). -/
structure ChanBlock where
  channels : PerChan Channel
  snapshot : PerChan Channel
  monitor : Monitor
  deriving DecidableEq, Repr

/-! ### Fill Adaptation and Calibration Store -/

/-- The fields of a clutch key (R87). -/
structure ClutchCal where
  tFill : Nat
  pKiss : Nat
  i0 : Nat
  iFull : Nat
  adapt : Int
  deriving DecidableEq, Repr

/-- The fields of HITCH (R87). -/
structure HitchCal where
  adcLow : Nat
  adcHigh : Nat
  dFs : Nat
  iThr : Nat
  iMax : Nat
  deriving DecidableEq, Repr

/-- The fields of TRAILER with the built-in default (R87). -/
structure TrailerCal where
  kTb : Nat := 48
  pLead : Nat := 50
  pAssist : Nat := 150
  iLo : Nat := 260
  iHi : Nat := 1120
  deriving DecidableEq, Repr

/-- The fields of SPEED with the built-in default (R5, R87). -/
structure SpeedCal where
  w : Nat := 1562
  ppm : Nat := 130
  teethInput : Nat := 48
  teethOutput : Nat := 60
  teethFront : Nat := 40
  kFr : Nat := 256
  limitPct : Nat := 60
  deriving DecidableEq, Repr

/-- The five words of SERVICE_KEY with the built-in default (R87). -/
structure ServiceKey where
  w0 : Nat := 0xFFFF
  w1 : Nat := 0xFFFF
  w2 : Nat := 0xFFFF
  w3 : Nat := 0xFFFF
  w4 : Nat := 0xFFFF
  deriving DecidableEq, Repr

/-- The thirteen record keys (R87). -/
inductive Key where
  | clutch (c : Clutch)
  | hitch | trailer | speed | serviceKey
  deriving DecidableEq, Repr

/-- A key with its payload (R87). -/
inductive CalRecord where
  | clutch (c : Clutch) (v : ClutchCal)
  | hitch (v : HitchCal)
  | trailer (v : TrailerCal)
  | speed (v : SpeedCal)
  | serviceKey (v : ServiceKey)
  deriving DecidableEq, Repr

/-- A payload in use with the sequence number of its record. -/
structure Stored (α : Type) where
  val : α
  seq : Nat
  deriving DecidableEq, Repr

/-- The records in use, by key (R87); absent where the key is at its default or has none. -/
structure CalInUse where
  clutches : PerClutch (Option (Stored ClutchCal))
  hitch : Option (Stored HitchCal)
  trailer : Option (Stored TrailerCal)
  speed : Option (Stored SpeedCal)
  serviceKey : Option (Stored ServiceKey)
  deriving DecidableEq, Repr

/-- The two pages of R99. -/
inductive Page where
  | p0 | p1
  deriving DecidableEq, Repr

/-- A write handed to the store (R101); `fromRun` marks the write of a calibration run (R97). -/
structure Write where
  record : CalRecord
  fromRun : Bool
  deriving DecidableEq, Repr

/-- The programming operation under way (R100, R102, R103). `second` is a second attempt. A void operation of the write
in flight says whether a retry follows; one of a compaction's copies is followed by its retry, or by nothing when the
compaction has been abandoned. -/
inductive StoreOp where
  | writeSlot (page : Page) (slot : Nat) (bytes : List Byte) (second : Bool)
  | writeVoid (page : Page) (slot : Nat) (retry : Bool)
  | compactErase (page : Page) (second : Bool)
  | compactReceiving (page : Page) (second : Bool)
  | compactCopy (page : Page) (slot : Nat) (bytes : List Byte) (rest : List (CalRecord × Nat)) (second : Bool)
  | compactVoid (page : Page) (slot : Nat) (retry : Option (List Byte)) (rest : List (CalRecord × Nat))
  | compactActive (page : Page) (next : Nat) (second : Bool)
  | compactSpent (page : Page) (second : Bool)
  | prepareSpent (page : Page) (second : Bool)
  | formatErase (second : Bool)
  | formatReceiving (second : Bool)
  | formatActive (second : Bool)
  deriving DecidableEq, Repr

/-- A bite watch (R91). -/
structure BiteWatch where
  clutch : Clutch
  fillEnd : Nat
  refTin : Nat
  bite : Option Nat
  /-- the change of the working offset the result calls for, once formed (R92) -/
  result : Option Int
  deriving DecidableEq, Repr

/-- The records of the store and of adaptation. -/
structure StoreState where
  mem : List Host.Cell
  cal : CalInUse
  working : PerClutch Int
  saved : PerClutch Int
  inUse : Option Page
  nextSeq : Nat
  /-- the next free slot of the in-use page; 64 when it has none -/
  nextFree : Nat
  queue : List Write
  /-- the write in flight, and whether its second attempt is due -/
  inFlight : Option (Write × Bool)
  op : Option StoreOp
  opEnd : Nat
  oil : Option Int
  oilBadSince : Option Nat
  oilGoodSince : Option Nat
  watch : Option BiteWatch
  deriving DecidableEq, Repr

/-- The states of a calibration run (R94 to R98), in the order of R184. -/
inductive RunPhase where
  | idle | prepare | kissSearch | fillSearch | write | done | failed
  deriving DecidableEq, Repr

/-- The failure reasons of R95 to R98, in the order of R184. -/
inductive RunReason where
  | drag | kissNotFound | fillNotFound | store
  | parkReleased | moving | engineLow | pedal | gateClosed | shutdown | calibLost | aborted
  deriving DecidableEq, Repr

/-- The parts of FILL_SEARCH (R96): the first vent, then the three parts of a trial. -/
inductive TrialPart where
  | recover | pulse | hold | vent
  deriving DecidableEq, Repr

/-- The run record (R94). -/
structure Run where
  phase : RunPhase := .idle
  clutch : Option Clutch := none
  entered : Nat := 0
  startTin : Nat := 0
  /-- pressure named for the clutch under test, and for the two others of the test gear -/
  named : Nat := 0
  namedOthers : Nat := 0
  lastChange : Nat := 0
  part : TrialPart := .recover
  partStart : Nat := 0
  pulse : Nat := 0
  trialRef : Nat := 0
  kiss : Option Nat := none
  fill : Option Nat := none
  reason : Option RunReason := none
  deriving DecidableEq, Repr

/-! ### Axle Engagement -/

/-- fwd_state (R106). -/
inductive FwdState where
  | engaged | releasing | released | applying
  deriving DecidableEq, Repr

/-- The Axle State (R106); `dlEngaged` is dl_state. -/
structure AxleRec where
  fwd : FwdState := .engaged
  fwdEntry : Nat := 0
  transition : Bool := false
  dlEngaged : Bool := false
  fwdMode : Option Mode := none
  dlMode : Option Mode := none
  releaseBlock : Bool := false
  dlCancel : Bool := false
  deriving DecidableEq, Repr

/-- A check that raises after its condition has held for a time and clears after it has been absent for a time: the first
step of each run. -/
structure HoldCheck where
  bad : Option Nat := none
  good : Option Nat := none
  deriving DecidableEq, Repr

/-- The records of the Axle Engagement block. -/
structure AxleState where
  own : AxleRec
  published : AxleRec
  implModes : Option (Mode × Mode) := none
  appliedEngaged : Bool := true
  lastChange : Option Nat := none
  autoCond : Bool := false
  brakeEngagement : Bool := false
  /-- the publication of Brake Demand that made brake_active false during a brake engagement (R110) -/
  brakeOffAt : Option Nat := none
  faultEngagement : Bool := false
  switchOpenSince : Option Nat := none
  /-- an acknowledgement of 20 or 0 has been taken since the latest raise of fault 20 (R114) -/
  ackSeen : Bool := false
  deviation : HoldCheck := { bad := none }
  deriving DecidableEq, Repr

/-! ### Hitch Controller -/

/-- The Hitch Lift State (R129), coded as in R181. -/
inductive LiftState where
  | unmatched | work | raising | raised | lowering | fender | stopped
  deriving DecidableEq, Repr

/-- A setpoint (section 7.2). -/
structure Setpoint where
  p : Nat
  d : Nat
  m : Nat
  deriving DecidableEq, Repr

/-- The cab values of R124, at the values before the first copy. -/
structure CabValues where
  pLever : Option Nat := none
  dSet : Nat := 0
  mix : Nat := 0
  qDrop : Nat := 200
  uLim : Nat := 1000
  lLim : Nat := 0
  sLim : Nat := 0
  gS : Nat := 0
  lock : Bool := true
  rocker : Rocker := .hold
  deriving DecidableEq, Repr

/-- A lift command (R130). -/
inductive LiftCmd where
  | raise | work
  deriving DecidableEq, Repr

/-- Whence the setpoint in use comes (R139). -/
inductive SetpointSource where
  | cab | impl | frozen
  deriving DecidableEq, Repr

/-- The values reported as of the latest hitch step (R139, R184); `lift` is the Hitch Lift State that it published. -/
structure HitchReport where
  lift : LiftState := .unmatched
  dUsed : Int := 0
  pSetUsed : Nat := 0
  dSet : Nat := 0
  mUsed : Nat := 0
  eSlip : Int := 0
  q : Int := 0
  source : SetpointSource := .frozen
  lock : Bool := true
  rawAdc : Nat := 0
  rawLeft : Int := 0
  rawRight : Int := 0
  deriving DecidableEq, Repr

/-- The records of the Hitch Controller. -/
structure HitchState where
  lift : LiftState := .unmatched
  entered : Nat := 0
  pAct : Option Nat := none
  dAct : Int := 0
  /-- consecutive steps with an out-of-range position reading, and the run in range while fault 6 is active (R121) -/
  adcBad : Nat := 0
  adcGoodSince : Option Nat := none
  /-- the same for the draft pins (R122) -/
  pinBad : Nat := 0
  pinGoodSince : Option Nat := none
  latch : Option Int := none
  cab : CabValues := { pLever := none }
  storedRocker : Rocker := .hold
  gain : Nat := 40
  deadband : Nat := 10
  shadow : Option Setpoint := none
  impl : Option Setpoint := none
  frozen : Option Setpoint := none
  inUse : Option Setpoint := none
  /-- the frozen setpoint is to be set at the next step at which P_act is present (R126) -/
  freezeDue : Bool := true
  prevHolder : Holder := .part
  pendingLift : Option LiftCmd := none
  fenderArm : Bool := false
  /-- a fender switch has been held since a step at which the fender conditions did not hold (R136) -/
  fenderHeld : Bool := false
  /-- P_act and limited flow of up to eleven steps, the latest first (R138) -/
  history : List (Nat × Int) := []
  runaway : HoldCheck := { bad := none }
  report : HitchReport := { dUsed := 0 }
  deriving DecidableEq, Repr

/-! ### Trailer Brake Controller -/

/-- Brake Demand (R144); a pedal is true when closed. -/
structure BrakeDemand where
  pedalLeft : Bool := false
  pedalRight : Bool := false
  pBrk : Nat := 0
  sensorFailed : Bool := false
  brakeActive : Bool := false
  parkApplied : Bool := false
  deriving DecidableEq, Repr

/-- The supply-line states (R146). -/
inductive SupplyLine where
  | notFitted | supplyOff | charging | ready | lost
  deriving DecidableEq, Repr

/-- The Trailer State (R146). supply_latch is `line = lost`. -/
structure TrailerRec where
  line : SupplyLine := .notFitted
  entered : Nat := 0
  pMap : Nat := 0
  assist : Bool := false
  pTc : Nat := 0
  pTcMeas : Option Nat := none
  chargeStart : Option Nat := none
  openSince : Option Nat := none
  closedSince : Option Nat := none
  ackSeen : Bool := false
  deriving DecidableEq, Repr

/-- The records of the Trailer Brake Controller. -/
structure BrakeState where
  demand : BrakeDemand := { pBrk := 0 }
  trailer : TrailerRec
  /-- the Trailer State as the latest brake step left it, which TRAILER_STATUS carries (R155) -/
  report : TrailerRec
  /-- the recharge of R151 was reached at the latest brake step -/
  recharged : Bool := false
  rawBad : Nat := 0
  rawGoodSince : Option Nat := none
  switchCheck : HoldCheck := { bad := none }
  parkAtSpeed : Bool := false
  deviation : HoldCheck := { bad := none }
  rawBrake : Nat := 0
  rawLine : Nat := 0
  supplyClosed : Bool := false
  deriving DecidableEq, Repr

/-! ### Fault Manager -/

/-- An entry of the Fault List (R158); class follows from the code. -/
structure FaultEntry where
  code : FaultCode
  source : Block
  firstTime : Nat
  count : Nat
  active : Bool
  acked : Bool
  noticePending : Bool
  replaced : Option FaultCode
  removalDue : Option Nat
  deriving DecidableEq, Repr

/-- A closing record of a gate (R164). -/
structure Closing where
  code : FaultCode
  active : Bool
  acked : Bool
  deriving DecidableEq, Repr

/-- The power states (R167): SHUTDOWN in its two phases. -/
inductive Power where
  | run | settle | flush | off
  deriving DecidableEq, Repr

/-- The records of the Fault Manager: faults. `active` keeps ascending code order. -/
structure FaultState where
  active : List FaultCode := []
  list : List FaultEntry := []
  listFull : Bool := false
  gates : PerGroup (List Closing)
  deriving DecidableEq, Repr

/-- The records of the Fault Manager: power. -/
structure PowerState where
  power : Power := .run
  ignitionOn : Bool := true
  lowSince : Option Nat := none
  highSince : Option Nat := none
  settleStart : Nat := 0
  flushStart : Nat := 0
  restartWanted : Bool := false
  hold : Bool := true
  deriving DecidableEq, Repr

/-! ### Link Interface -/

/-- An event frame in an inbound event queue (R171, R175, R181). -/
inductive EventFrame where
  | gearUp
  | gearDown
  | direction (d : DirRequest)
  | ack (code : Nat)
  | authRequest (func : Nat)
  | authKeep (func : Nat)
  | authRelease (func : Nat)
  | implHitch (setpoint : Option Setpoint) (quick : Option LiftCmd)
  | implSpeed (v : Nat)
  | implAxle (fwd dl : Nat)
  deriving DecidableEq, Repr

/-- The kinds of frame an event transmit queue takes (R178). -/
inductive OutKind where
  | refusal | reply | notice
  deriving DecidableEq, Repr

/-- A frame of an event transmit queue. -/
structure OutEvent where
  kind : OutKind
  data : List Byte
  deriving DecidableEq, Repr

/-- A copy in an outbound mailbox, with the identifier of its kind (R176). -/
structure Mail where
  ident : Nat
  data : List Byte
  deriving DecidableEq, Repr

/-- The frame in transmission: the head of the event transmit queue, or a copy taken from its mailbox (R176). -/
inductive InTransmission where
  | event
  | mail (m : Mail)
  deriving DecidableEq, Repr

/-- The state of one link: BUS_OFF while `rejoin` is present (R172). `mail` holds the filled mailboxes by rising
identifier. -/
structure LinkState where
  rejoin : Option Nat := none
  inbox : List EventFrame := []
  outbox : List OutEvent := []
  mail : List Mail := []
  tx : Option InTransmission := none
  deriving DecidableEq, Repr

/-- A mailbox copy and its arrival time (R173). -/
structure Copy (α : Type) where
  val : α
  arrived : Nat
  deriving DecidableEq, Repr

/-- ENGINE_REPORT (R181). -/
structure EngineReport where
  eng : Nat
  load : Nat
  limitAck : Bool
  deriving DecidableEq, Repr

/-- OPERATOR_DEMAND_A (R181). -/
structure DemandA where
  lever : Lever
  autoMode : Bool
  fwdMode : Mode
  dlMode : Mode
  enSpeed : Bool
  enAxle : Bool
  enHitchSet : Bool
  enHitchLift : Bool
  gMin : Nat
  gMax : Nat
  nUp : Nat
  nDn : Nat
  deriving DecidableEq, Repr

/-- OPERATOR_DEMAND_B (R181), in the units of the quantities (not of the frame). -/
structure DemandB where
  pLever : Nat
  dSet : Nat
  qDrop : Nat
  lock : Bool
  uLim : Nat
  lLim : Nat
  sLim : Nat
  rocker : Rocker
  mix : Nat
  gS : Nat
  deriving DecidableEq, Repr

/-- The inbound mailboxes, the two links and the parity of the report timer (R177). -/
structure LinkBlock where
  vehicle : LinkState := { rejoin := none }
  implement : LinkState := { rejoin := none }
  engine : Option (Copy EngineReport) := none
  demandA : Option (Copy DemandA) := none
  demandB : Option (Copy DemandB) := none
  secondReport : Bool := false
  deriving DecidableEq, Repr

/-! ### Service Port -/

/-- The receiver states of R182. -/
inductive Receiver where
  | idle | receiving | answering
  deriving DecidableEq, Repr

/-- The unlock states of R185; the words taken of KEYING(k) are the list `words`, of length k. -/
inductive Unlock where
  | locked | synced | keying | unlocked
  deriving DecidableEq, Repr

/-- A complete, well-formed service frame that waits for its judging step (R182, log 5). -/
inductive SvcFrame where
  | sync (word : Nat)
  | key (word : Nat)
  | cancel
  | lock
  | readItem (item : Nat)
  | writeItem (item : Nat) (value : List Byte)
  | take (func : Nat)
  | release (func : Nat)
  | calRun (clutch : Nat)
  | calAbort
  | storeNow
  | restart
  deriving DecidableEq, Repr

/-- The records of the Service Port. -/
structure SvcState where
  rx : Receiver := .idle
  buf : List Byte := []
  lastByte : Nat := 0
  frame : Option SvcFrame := none
  /-- the bytes of the answer, and whether its transmission has begun -/
  answer : Option (List Byte) := none
  sending : Bool := false
  unlock : Unlock := .locked
  words : List Nat := []
  syncBlock : Option Nat := none
  silence : Option Nat := none
  lastAnswer : Option Nat := none
  restartAfter : Bool := false
  lineRisen : Bool := true
  deriving DecidableEq, Repr

/-! ### The state -/

/-- Whether the part is supplied, and whether it has taken its Power-on start (R71, R93, R168). -/
inductive Life where
  | unpowered | supplyNoIgnition | strapWindow | on
  deriving DecidableEq, Repr

/-- The state of the part, with the queue of commands that wait. -/
structure State where
  pending : List Instr
  life : Life
  now : Nat
  start : Nat
  free : Nat
  build : BuildRecord
  speed : SpeedState
  auth : AuthState
  seq : SeqState
  chan : ChanBlock
  store : StoreState
  run : Run
  axle : AxleState
  hitch : HitchState
  brake : BrakeState
  fault : FaultState
  power : PowerState
  link : LinkBlock
  svc : SvcState
  deriving DecidableEq, Repr

/-- No command stops the machine with a fault: the spec gives every row an effect, and an expiry or an end that finds
nothing to act on changes nothing. The type has no constructor; the fault codes of R157 are data of `FaultState`. -/
inductive Fault
  deriving DecidableEq, Repr

/-- The refusals of the model. -/
inductive Refusal where
  /-- raised by an arm of `exec` whose command has no meaning in the model; no arm does. Safe: the machine stops. -/
  | notModelled (mnemonic : String)
  deriving DecidableEq, Repr

/-! ### Reset -/

/-- The same value for every clutch. -/
def everyClutch {α : Type} (a : α) : PerClutch α :=
  { cf := a, cv := a, c1 := a, c2 := a, c3 := a, c4 := a, cl := a, cm := a, ch := a }

/-- The channel records after a Power-on start or a Soft restart (R86): a channel that is not fitted (R69) is PARKED. What R79
keeps of an earlier raise is absent (DESIGN CHOICE, log 32). -/
def initialChannels (b : BuildRecord) (start : Nat) : PerChan Channel :=
  { clutch := everyClutch { fitted := true, since := start }
    fwdRelease := { fitted := true, since := start }
    diffLock := { fitted := b.diffLockFitted, state := if b.diffLockFitted then .off else .parked, since := start }
    hitchRaise := { fitted := true, since := start }
    hitchLower := { fitted := true, since := start }
    trailerControl := { fitted := b.trailerFitted, state := if b.trailerFitted then .off else .parked, since := start }
    trailerSupply := { fitted := b.trailerFitted, state := if b.trailerFitted then .off else .parked, since := start }
    spare := { fitted := false, state := .parked, since := start } }

/-- The Function Authority Table after a restart (R17, R36), `gear` being the holder of GEAR. -/
def initialAuth (gear : Holder) (start : Nat) : AuthState :=
  { table := { gear := { holder := gear }, speed := { holder := .cab }, axle := { holder := .cab }, hitchSet := { holder := .part }, hitchLift := { holder := .part }, calib := { holder := .part } }
    enable := { gear := .off, speed := .off, axle := .off, hitchSet := .off, hitchLift := .off, calib := .off }
    seen := none
    statusDue := true
    lastStatus := start }

/-- The Trailer State after a restart (R154). -/
def initialTrailer (b : BuildRecord) (start : Nat) : TrailerRec :=
  { line := if b.trailerFitted then .supplyOff else .notFitted, entered := start }

/-- The calibration in use of a store without records (R87). -/
def emptyCal : CalInUse :=
  { clutches := everyClutch none, hitch := none, trailer := none, speed := none, serviceKey := none }

/-- Every record of every block but the store, the run and the Build Record as a restart leaves it. Before the first channel
step a channel's item reads the values of the start (R70; DESIGN CHOICE, log 32). -/
def State.fresh (pending : List Instr) (free now : Nat) (b : BuildRecord) (gear : Holder) (store : StoreState)
    (lineRisen : Bool) : State :=
  { pending := pending
    life := .on
    now := now
    start := now
    free := free
    build := b
    speed := { radar := if b.radarFitted then .ok else .absent }
    auth := initialAuth gear now
    seq := { clutches := everyClutch { state := .vented } }
    chan := { channels := initialChannels b now, snapshot := initialChannels b now, monitor := .normal }
    store := store
    run := { phase := .idle }
    axle := { own := { fwdEntry := now }, published := { fwdEntry := now } }
    hitch := { entered := now }
    brake := { trailer := initialTrailer b now, report := initialTrailer b now }
    fault := { gates := { trans := [], axle := [], hitch := [], trailer := [] } }
    power := { power := .run }
    link := { secondReport := false }
    svc := { unlock := if b.serviceStrap then .unlocked else .locked, lineRisen := lineRisen } }

/-- The store right after the scan of an erased memory (R100): no page in use, every key absent or at its default, and
page 0 being erased by the first preparing operation. -/
def StoreState.erased (now : Nat) : StoreState :=
  { mem := []
    cal := emptyCal
    working := everyClutch 0
    saved := everyClutch 0
    inUse := none
    nextSeq := 1
    nextFree := 64
    queue := []
    inFlight := none
    op := some (.formatErase false)
    opEnd := now + 40
    oil := none
    oilBadSince := none
    oilGoodSince := none
    watch := none }

/-- The machine right after reset: a Power-on start at time 0 with no strap connected and an erased store
(DESIGN CHOICE, unsafe, logs 1 and 2), so that the part is Uncalibrated and PART holds GEAR (R17, R104). -/
def State.reset : State :=
  State.fresh [] 0 0 { trailerFitted := false } .part (StoreState.erased 0) true

end Sys2Proof.Machine
end

