-- ==== Sys2Proof/Machine/Flags.lean ====
section
/-! DEFINITION. Conditions that must hold for a time (00_scope.md, "Time and events": "For 200 ms" means continuously for at
least 200 ms, measured by the block that owns the condition): the first step of the present run, and the checks that
raise after one such run and clear after another. -/

namespace Sys2Proof.Machine

/-- The start of the present run of a condition: `now` when it begins at this step, absent when it fails. -/
def holdSince (now : Nat) (cond : Bool) (since : Option Nat) : Option Nat :=
  if cond then some (since.getD now) else none

/-- `d` ms have passed since a moment that is present. -/
def passed (now d : Nat) (since : Option Nat) : Bool :=
  match since with
  | some t => decide (t + d ≤ now)
  | none => false

/-- What a check asks of its block at a step. -/
inductive Verdict where
  | quiet | raise | clear
  deriving DecidableEq, Repr

/-- One step of a check (R116, R138, R145, R153): while its fault is inactive the raise count runs on `bad`, and while it is
active the clear count runs on `good`; each count restarts when its condition fails. -/
def holdCheck (now : Nat) (active bad good : Bool) (dRaise dClear : Nat) (h : HoldCheck) : HoldCheck × Verdict :=
  if active then
    let g := holdSince now good h.good
    if passed now dClear g then ({ bad := none, good := none }, .clear) else ({ bad := none, good := g }, .quiet)
  else
    let b := holdSince now bad h.bad
    if passed now dRaise b then ({ bad := none, good := none }, .raise) else ({ bad := b, good := none }, .quiet)

end Sys2Proof.Machine
end

