-- ==== Sys2Proof/Machine/Ops.lean ====
section
/-! DEFINITION. The operations every block shares: one value per clutch, channel, function and gate; the step that lets
time pass and takes an event; who may command; the clutch records; the calibration in use; the fault codes' table. -/

namespace Sys2Proof

/-! ### One value per name -/

/-- The nine clutches in key order (R87). -/
def allClutches : List Clutch := [.cf, .cv, .c1, .c2, .c3, .c4, .cl, .cm, .ch]

/-- The value of a clutch. -/
def PerClutch.get {α : Type} (p : PerClutch α) (c : Clutch) : α :=
  match c with
  | .cf => p.cf | .cv => p.cv | .c1 => p.c1 | .c2 => p.c2 | .c3 => p.c3 | .c4 => p.c4
  | .cl => p.cl | .cm => p.cm | .ch => p.ch

/-- The values with one clutch's replaced. -/
def PerClutch.set {α : Type} (p : PerClutch α) (c : Clutch) (a : α) : PerClutch α :=
  match c with
  | .cf => { p with cf := a } | .cv => { p with cv := a } | .c1 => { p with c1 := a }
  | .c2 => { p with c2 := a } | .c3 => { p with c3 := a } | .c4 => { p with c4 := a }
  | .cl => { p with cl := a } | .cm => { p with cm := a } | .ch => { p with ch := a }

/-- A function of clutch and value applied to each. -/
def PerClutch.mapWith {α β : Type} (p : PerClutch α) (f : Clutch → α → β) : PerClutch β :=
  { cf := f .cf p.cf, cv := f .cv p.cv, c1 := f .c1 p.c1, c2 := f .c2 p.c2, c3 := f .c3 p.c3, c4 := f .c4 p.c4
    cl := f .cl p.cl, cm := f .cm p.cm, ch := f .ch p.ch }

/-- The sixteen channels in order of number (R69). -/
def allChans : List Chan :=
  allClutches.map .clutch ++ [.fwdRelease, .diffLock, .hitchRaise, .hitchLower, .trailerControl, .trailerSupply, .spare]

/-- The value of a channel. -/
def PerChan.get {α : Type} (p : PerChan α) (i : Chan) : α :=
  match i with
  | .clutch c => p.clutch.get c
  | .fwdRelease => p.fwdRelease | .diffLock => p.diffLock | .hitchRaise => p.hitchRaise
  | .hitchLower => p.hitchLower | .trailerControl => p.trailerControl | .trailerSupply => p.trailerSupply
  | .spare => p.spare

/-- The values with one channel's replaced. -/
def PerChan.set {α : Type} (p : PerChan α) (i : Chan) (a : α) : PerChan α :=
  match i with
  | .clutch c => { p with clutch := p.clutch.set c a }
  | .fwdRelease => { p with fwdRelease := a } | .diffLock => { p with diffLock := a }
  | .hitchRaise => { p with hitchRaise := a } | .hitchLower => { p with hitchLower := a }
  | .trailerControl => { p with trailerControl := a } | .trailerSupply => { p with trailerSupply := a }
  | .spare => { p with spare := a }

/-- A function of channel and value applied to each. -/
def PerChan.mapWith {α β : Type} (p : PerChan α) (f : Chan → α → β) : PerChan β :=
  { clutch := p.clutch.mapWith (fun c a => f (.clutch c) a)
    fwdRelease := f .fwdRelease p.fwdRelease, diffLock := f .diffLock p.diffLock
    hitchRaise := f .hitchRaise p.hitchRaise, hitchLower := f .hitchLower p.hitchLower
    trailerControl := f .trailerControl p.trailerControl, trailerSupply := f .trailerSupply p.trailerSupply
    spare := f .spare p.spare }

/-- Every fault code, ascending (R157). -/
def allCodes : List FaultCode :=
  [.clutchChannel, .clutchSlip, .vehicleLinkLost, .trailerSupplyLost, .valveSupplyLow, .hitchPositionSensor,
   .hitchRunaway, .brakePressureSensor, .radarImplausible, .engineReportLost, .shiftTimeout, .axleReleaseFailed,
   .axleNotTransmitting, .brakeSwitchDisagree, .trailerPressureDeviation, .trailerSupplyNotCharged, .draftSensor,
   .auxChannel, .oilTemperature, .storeWrite, .speedSensor, .parkAtSpeed]

/-- The number of a fault code (R157). -/
def FaultCode.num (c : FaultCode) : Nat :=
  match c with
  | .clutchChannel => 1 | .clutchSlip => 2 | .vehicleLinkLost => 3 | .trailerSupplyLost => 4 | .valveSupplyLow => 5
  | .hitchPositionSensor => 6 | .hitchRunaway => 7 | .brakePressureSensor => 8 | .radarImplausible => 17
  | .engineReportLost => 18 | .shiftTimeout => 19 | .axleReleaseFailed => 20 | .axleNotTransmitting => 21
  | .brakeSwitchDisagree => 22 | .trailerPressureDeviation => 23 | .trailerSupplyNotCharged => 24 | .draftSensor => 25
  | .auxChannel => 26 | .oilTemperature => 27 | .storeWrite => 28 | .speedSensor => 29 | .parkAtSpeed => 30

/-- The code of a number, when it is one of the 22 (R161). -/
def FaultCode.ofNum (n : Nat) : Option FaultCode := allCodes.find? (fun c => decide (c.num = n))

/-- Class A (R157). -/
def FaultCode.classA (c : FaultCode) : Bool := decide (c.num ≤ 8)

namespace Machine

/-- The block that raises a code (R157). -/
def sourceOf (c : FaultCode) : Block :=
  match c with
  | .clutchChannel | .valveSupplyLow | .auxChannel => .solenoidChannels
  | .clutchSlip | .shiftTimeout => .shiftSequencer
  | .vehicleLinkLost => .linkInterface
  | .trailerSupplyLost | .brakePressureSensor | .brakeSwitchDisagree | .trailerPressureDeviation
  | .trailerSupplyNotCharged | .parkAtSpeed => .trailerBrake
  | .hitchPositionSensor | .hitchRunaway | .draftSensor => .hitchController
  | .radarImplausible | .engineReportLost | .speedSensor => .speedCapture
  | .axleReleaseFailed | .axleNotTransmitting => .axleEngagement
  | .oilTemperature | .storeWrite => .fillStore

/-- The gates a raise closes (R157, R164); `named` is the group a raise of code 26 names. -/
def gatesOf (c : FaultCode) (named : Option Group) : List Group :=
  match c with
  | .clutchChannel | .clutchSlip => [.trans]
  | .valveSupplyLow => [.trans, .axle, .hitch, .trailer]
  | .hitchPositionSensor | .hitchRunaway => [.hitch]
  | .auxChannel => named.toList
  | _ => []

/-- The four groups in the order of R163. -/
def allGroups : List Group := [.trans, .axle, .hitch, .trailer]

/-- The value of a gate. -/
def PerGroup.get {α : Type} (p : PerGroup α) (g : Group) : α :=
  match g with
  | .trans => p.trans | .axle => p.axle | .hitch => p.hitch | .trailer => p.trailer

/-- The values with one gate's replaced. -/
def PerGroup.set {α : Type} (p : PerGroup α) (g : Group) (a : α) : PerGroup α :=
  match g with
  | .trans => { p with trans := a } | .axle => { p with axle := a } | .hitch => { p with hitch := a }
  | .trailer => { p with trailer := a }

/-- The six functions in the order of R17. -/
def allFuncs : List Func := [.gear, .speed, .axle, .hitchSet, .hitchLift, .calib]

/-- The four delegable functions (R17). -/
def delegableFuncs : List Func := [.speed, .axle, .hitchSet, .hitchLift]

/-- The value of a function. -/
def PerFunc.get {α : Type} (p : PerFunc α) (f : Func) : α :=
  match f with
  | .gear => p.gear | .speed => p.speed | .axle => p.axle | .hitchSet => p.hitchSet | .hitchLift => p.hitchLift
  | .calib => p.calib

/-- The values with one function's replaced. -/
def PerFunc.set {α : Type} (p : PerFunc α) (f : Func) (a : α) : PerFunc α :=
  match f with
  | .gear => { p with gear := a } | .speed => { p with speed := a } | .axle => { p with axle := a }
  | .hitchSet => { p with hitchSet := a } | .hitchLift => { p with hitchLift := a } | .calib => { p with calib := a }

/-! ### Time and events -/

/-- Time passes before an event (DESIGN CHOICE, log 3). -/
def State.advance (s : State) (dt : Nat) : State := { s with now := s.now + dt }

/-- The blocks take events: after the strap window (R71) and until the power state is OFF (R168). -/
def State.running (s : State) : Bool := decide (s.life = .on) && decide (s.power.power ≠ .off)

/-- An event of a block: time passes, and while the blocks take events (R71, R168) the event has its effect. -/
def State.event (s : State) (dt : Nat) (f : State → State) : State :=
  if (s.advance dt).running then f (s.advance dt) else s.advance dt

/-! ### What blocks ask each other -/

/-- A fault code is active (R158). -/
def State.active (s : State) (c : FaultCode) : Bool := decide (c ∈ s.fault.active)

/-- A class A fault is active (R158). -/
def State.classAActive (s : State) : Bool := s.fault.active.any FaultCode.classA

/-- A group gate is open (R164). -/
def State.gateOpen (s : State) (g : Group) : Bool := (s.fault.gates.get g).isEmpty

/-- valve_supply_ok (R82). -/
def State.valveSupplyOk (s : State) : Bool :=
  match s.chan.monitor with
  | .normal | .dipping _ => true
  | .low | .recovering _ => false

/-- The holder of a function (R20). -/
def State.holder (s : State) (f : Func) : Holder := (s.auth.table.get f).holder

/-- The SPEED entry of the calibration in use (R5, R87). -/
def State.speedCal (s : State) : SpeedCal :=
  match s.store.cal.speed with
  | some r => r.val
  | none => { w := 1562 }

/-- The TRAILER entry of the calibration in use (R87). -/
def State.trailerCal (s : State) : TrailerCal :=
  match s.store.cal.trailer with
  | some r => r.val
  | none => { kTb := 48 }

/-- The SERVICE_KEY entry of the calibration in use (R87). -/
def State.serviceKey (s : State) : ServiceKey :=
  match s.store.cal.serviceKey with
  | some r => r.val
  | none => { w0 := 0xFFFF }

/-- The HITCH entry of the calibration in use, when present (R87). -/
def State.hitchCal (s : State) : Option HitchCal := s.store.cal.hitch.map Stored.val

/-- A clutch's entry of the calibration in use, when present (R87). -/
def State.clutchCal (s : State) (c : Clutch) : Option ClutchCal := (s.store.cal.clutches.get c).map Stored.val

/-- P_kiss of a clutch (R38, R57). -/
def State.kiss (s : State) (c : Clutch) : Nat :=
  match s.clutchCal c with
  | some v => v.pKiss
  | none => Config.kissPressureWithoutRecord c

/-- The part is Uncalibrated: a clutch key has no entry (R62, R104). -/
def State.uncalibrated (s : State) : Bool := allClutches.any (fun c => (s.store.cal.clutches.get c).isNone)

/-- A calibration run is in progress, from PREPARE to WRITE (R94). -/
def State.runInProgress (s : State) : Bool :=
  match s.run.phase with
  | .prepare | .kissSearch | .fillSearch | .write => true
  | .idle | .done | .failed => false

/-! ### Clutch records (R38) -/

/-- Set RELEASING: a VENTED clutch stays VENTED, and one already RELEASING keeps its entry time (R38). -/
def releaseClutch (now : Nat) (c : ClutchRec) : ClutchRec :=
  match c.state with
  | .vented | .releasing => c
  | _ => { c with state := .releasing, pressure := 0, entered := now }

/-- Set APPLIED at a pressure (R38). -/
def applyClutch (now p : Nat) (c : ClutchRec) : ClutchRec :=
  { c with state := .applied, pressure := p, entered := if c.state = .applied then c.entered else now }

/-- One clutch record changed. -/
def SeqState.onClutch (q : SeqState) (c : Clutch) (f : ClutchRec → ClutchRec) : SeqState :=
  { q with clutches := q.clutches.set c (f (q.clutches.get c)) }

/-- Every clutch out of VENTED set RELEASING. -/
def SeqState.releaseAll (q : SeqState) (now : Nat) : SeqState :=
  { q with clutches := q.clutches.mapWith (fun _ c => releaseClutch now c) }

/-- The three clutches of a gear number: its range clutch and speed clutch (R37). -/
def speedClutch (n : Nat) : Clutch :=
  match (n - 1) % 4 with
  | 0 => .c1
  | 1 => .c2
  | 2 => .c3
  | _ => .c4

/-- The range clutch of a gear number (R37). -/
def rangeClutch (n : Nat) : Clutch := if n ≤ 4 then .cl else if n ≤ 8 then .cm else .ch

/-- The elements of a gear (R37); N has none. -/
def elements (g : Gear) : List Clutch :=
  match g with
  | .neutral => []
  | .fwd n => [.cf, speedClutch n, rangeClutch n]
  | .rev n => [.cv, speedClutch n, rangeClutch n]

/-- The ratio r_g of a gear number, in units of 1/256 (R37). -/
def ratio (n : Nat) : Nat :=
  match n with
  | 1 => 3277 | 2 => 2546 | 3 => 1979 | 4 => 1538 | 5 => 1196 | 6 => 929 | 7 => 722 | 8 => 561 | 9 => 436
  | 10 => 339 | 11 => 263 | _ => 205

/-- The number of a gear (00_scope.md, "Gears"); 0 for N. -/
def Gear.num (g : Gear) : Nat :=
  match g with
  | .neutral => 0
  | .fwd n => n
  | .rev n => n

/-- The direction that goes with a gear (R39). -/
def Gear.direction (g : Gear) : Direction :=
  match g with
  | .neutral => .neutral
  | .fwd _ => .fwd
  | .rev _ => .rev

/-- The direction of travel of a gear, absent in N. -/
def Gear.dir (g : Gear) : Option Dir :=
  match g with
  | .neutral => none
  | .fwd _ => some .fwd
  | .rev _ => some .rev

/-- The direction clutch of a direction (R37). -/
def dirClutch (d : Dir) : Clutch :=
  match d with
  | .fwd => .cf
  | .rev => .cv

/-- The test gear of a clutch under test (R94). -/
def testGear (c : Clutch) : Gear :=
  match c with
  | .cf | .c1 | .cl => .fwd 1
  | .c2 => .fwd 2
  | .c3 => .fwd 3
  | .c4 => .fwd 4
  | .cm => .fwd 5
  | .ch => .fwd 9
  | .cv => .rev 1

/-! ### The end of a calibration run -/

/-- A run ends DONE or FAILED: nothing is named any longer, and the Shift Sequencer vents the clutches (R62, R97, R98). L and
the results found stay in the run record (DESIGN CHOICE, log 53). -/
def State.endRun (s : State) (reason : Option RunReason) : State :=
  { s with
    run := { s.run with
      phase := if reason.isSome then .failed else .done
      reason := reason
      named := 0
      namedOthers := 0
      entered := s.now }
    seq := s.seq.releaseAll s.now }

/-- An abort of a run that is not yet in WRITE (R98): the kiss result is discarded; L stays (DESIGN CHOICE, log 53). -/
def State.abortRun (s : State) (reason : RunReason) : State :=
  match s.run.phase with
  | .prepare | .kissSearch | .fillSearch => ({ s with run := { s.run with kiss := none } }).endRun (some reason)
  | _ => s

end Machine
end Sys2Proof
end

