-- ==== Sys2Proof/Machine/Operands.lean ====
section
/-! DEFINITION. Bytes and fields, and the inbound frames: how the bytes a link partner sends become a copy of a mailbox or
an event (R171, R173, R181). Bit 0 is the least significant bit of the first byte (R181). -/

namespace Sys2Proof.Machine

/-! ### Bytes -/

/-- The number a run of bytes spells, least significant byte first (R181). -/
def leNat (bs : List Byte) : Nat :=
  match bs with
  | [] => 0
  | b :: rest => b.toNat + 256 * leNat rest

/-- A number as `k` bytes, least significant byte first (R181). -/
def leBytes (k n : Nat) : List Byte :=
  match k with
  | 0 => []
  | k + 1 => BitVec.ofNat 8 n :: leBytes k (n / 256)

/-- A field of a number: `width` bits from bit `lo` (R181). -/
def field (n lo width : Nat) : Nat := n / 2 ^ lo % 2 ^ width

/-- A signed value in two's complement of a width (R181). -/
def twos (width : Nat) (i : Int) : Nat := (i % (2 ^ width : Int)).toNat

/-- The value two's complement of a width spells (R181). -/
def ofTwos (width n : Nat) : Int := if n < 2 ^ (width - 1) then (n : Int) else (n : Int) - (2 ^ width : Nat)

/-- Fields packed from bit 0 on: each value with its width (R181). -/
def pack (fields : List (Nat × Nat)) : Nat :=
  match fields with
  | [] => 0
  | (v, w) :: rest => v % 2 ^ w + 2 ^ w * pack rest

/-- A flag as a bit. -/
def bit (b : Bool) : Nat := if b then 1 else 0

/-! ### Coded fields -/

/-- The lever coding of R181. -/
def leverOf (n : Nat) : Option Lever :=
  match n with
  | 0 => some .neutral
  | 1 => some .forward
  | 2 => some .reverse
  | _ => none

/-- The mode coding OFF 0, ON 1, AUTO 2 (R171). -/
def modeOf (n : Nat) : Option Mode :=
  match n with
  | 0 => some .off
  | 1 => some .on
  | 2 => some .auto
  | _ => none

/-- The rocker coding HOLD 0, RAISE 1, WORK 2 (R181). -/
def rockerOf (n : Nat) : Option Rocker :=
  match n with
  | 0 => some .hold
  | 1 => some .raise
  | 2 => some .work
  | _ => none

/-- The function coding of IMPL_AUTHORITY (R181). -/
def funcOf (n : Nat) : Option Func :=
  match n with
  | 1 => some .gear
  | 2 => some .speed
  | 3 => some .axle
  | 4 => some .hitchSet
  | 5 => some .hitchLift
  | 6 => some .calib
  | _ => none

/-- The code of a function in IMPL_AUTHORITY (R181). -/
def funcCode (f : Func) : Nat :=
  match f with
  | .gear => 1 | .speed => 2 | .axle => 3 | .hitchSet => 4 | .hitchLift => 5 | .calib => 6

/-- The code of a refusal reason (R179). -/
def reasonCode (r : Reason) : Nat :=
  match r with
  | .notHolder => 1 | .notDelegated => 2 | .busy => 4 | .inhibited => 5 | .notPermitted => 6 | .locked => 7
  | .uncalibrated => 8 | .unknown => 9 | .timeout => 10

/-! ### Periodic frames (R173, R181) -/

/-- ENGINE_REPORT: four bytes, every field value allowed. -/
def decodeEngineReport (data : List Byte) : Option EngineReport :=
  let n := leNat data
  if data.length = 4 then
    some { eng := field n 0 16, load := field n 16 8, limitAck := decide (field n 24 1 = 1) }
  else none

/-- OPERATOR_DEMAND_A: eight bytes, the lever and the two modes inside their lists. -/
def decodeDemandA (data : List Byte) : Option DemandA :=
  let n := leNat data
  if data.length = 8 then
    match leverOf (field n 0 2), modeOf (field n 3 2), modeOf (field n 5 2) with
    | some l, some m4, some dl =>
      some
        { lever := l
          autoMode := decide (field n 2 1 = 1)
          fwdMode := m4
          dlMode := dl
          enSpeed := decide (field n 8 1 = 1)
          enAxle := decide (field n 9 1 = 1)
          enHitchSet := decide (field n 10 1 = 1)
          enHitchLift := decide (field n 11 1 = 1)
          gMin := field n 16 8
          gMax := field n 24 8
          nUp := field n 32 16
          nDn := field n 48 16 }
    | _, _, _ => none
  else none

/-- OPERATOR_DEMAND_B: eight bytes, the rocker inside its list; the values in the units of the quantities. -/
def decodeDemandB (data : List Byte) : Option DemandB :=
  let n := leNat data
  if data.length = 8 then
    match rockerOf (field n 46 2) with
    | some r =>
      some
        { pLever := 5 * field n 0 8
          dSet := 5 * field n 8 8
          qDrop := 10 * field n 16 7
          lock := decide (field n 23 1 = 1)
          uLim := 5 * field n 24 8
          lLim := 5 * field n 32 8
          sLim := 10 * field n 40 6
          rocker := r
          mix := field n 48 8
          gS := field n 56 8 }
    | none => none
  else none

/-! ### Event frames (R171, R173, R181) -/

/-- The inbound event kinds with the message code of REFUSAL (R181). -/
inductive EventKind where
  | cabCommand | implAuthority | implHitch | implSpeed | implAxle
  deriving DecidableEq, Repr

/-- The event kind an identifier names on a link (section 10.1); any other identifier is ignored (R173). -/
def eventKind (l : Link) (ident : Nat) : Option EventKind :=
  match l with
  | .vehicle => if ident = 0x218 then some .cabCommand else none
  | .implement =>
    if ident = 0x120 then some .implAuthority
    else if ident = 0x128 then some .implHitch
    else if ident = 0x130 then some .implSpeed
    else if ident = 0x138 then some .implAxle
    else none

/-- The message code of a kind in REFUSAL (R181). -/
def EventKind.message (k : EventKind) : Nat :=
  match k with
  | .cabCommand => 1 | .implAuthority => 2 | .implHitch => 3 | .implSpeed => 4 | .implAxle => 5

/-- CAB_COMMAND (R171): byte 0 the command, byte 1 the argument (DEDUCED, log 54); absent where R173 refuses the frame
UNKNOWN. -/
def decodeCabCommand (data : List Byte) : Option EventFrame :=
  let n := leNat data
  if data.length = 2 then
    match field n 0 8, field n 8 8 with
    | 1, _ => some .gearUp
    | 2, _ => some .gearDown
    | 3, 0 => some (.direction .neutral)
    | 3, 1 => some (.direction .forward)
    | 3, 2 => some (.direction .reverse)
    | 4, a => some (.ack a)
    | _, _ => none
  else none

/-- IMPL_AUTHORITY (R181). -/
def decodeImplAuthority (data : List Byte) : Option EventFrame :=
  let n := leNat data
  if data.length = 2 then
    match field n 8 8 with
    | 1 => some (.authRequest (field n 0 8))
    | 2 => some (.authKeep (field n 0 8))
    | 3 => some (.authRelease (field n 0 8))
    | _ => none
  else none

/-- IMPL_HITCH (R181). -/
def decodeImplHitch (data : List Byte) : Option EventFrame :=
  let n := leNat data
  if data.length = 6 then
    let set : Option Setpoint :=
      if field n 0 1 = 1 then some { p := field n 8 16, d := field n 24 16, m := field n 40 8 } else none
    match field n 1 2 with
    | 0 => some (.implHitch set none)
    | 1 => some (.implHitch set (some .raise))
    | 2 => some (.implHitch set (some .work))
    | _ => none
  else none

/-- An event frame of a kind (R173). IMPL_AXLE has the 4WD mode in byte 0 and the diff lock mode in byte 1 (R171; DEDUCED,
log 54). -/
def decodeEvent (k : EventKind) (data : List Byte) : Option EventFrame :=
  match k with
  | .cabCommand => decodeCabCommand data
  | .implAuthority => decodeImplAuthority data
  | .implHitch => decodeImplHitch data
  | .implSpeed => if data.length = 2 then some (.implSpeed (leNat data)) else none
  | .implAxle => if data.length = 2 then some (.implAxle (field (leNat data) 0 8) (field (leNat data) 8 8)) else none

/-- The part byte of a REFUSAL for a frame the Link Interface refuses whole: the command of a CAB_COMMAND, the quick
command when it is what is wrong with an IMPL_HITCH, otherwise 0 (R179, R181; DESIGN CHOICE, log 17). -/
def refusedPart (k : EventKind) (data : List Byte) : Nat :=
  match k with
  | .cabCommand => field (leNat data) 0 8
  | .implHitch => if data.length = 6 ∧ field (leNat data) 1 2 = 3 then 2 else 0
  | _ => 0

end Sys2Proof.Machine
end

