-- ==== Sys2Proof/Machine/Transmit.lean ====
section
/-! DEFINITION. The outbound side of the links (R176, R178, R179, R34): mailboxes, event transmit queues, the transmitter's
choice, REFUSAL and AUTHORITY_REPLY. -/

namespace Sys2Proof.Machine

/-- The state of a link. -/
def LinkBlock.get (b : LinkBlock) (l : Link) : LinkState :=
  match l with
  | .vehicle => b.vehicle
  | .implement => b.implement

/-- A link changed. -/
def State.onLink (s : State) (l : Link) (f : LinkState → LinkState) : State :=
  match l with
  | .vehicle => { s with link := { s.link with vehicle := f s.link.vehicle } }
  | .implement => { s with link := { s.link with implement := f s.link.implement } }

/-- The identifier of a frame of an event transmit queue (section 10.1). -/
def outIdent (l : Link) (k : OutKind) : Nat :=
  match l, k with
  | .vehicle, .notice => 0x2A8
  | .vehicle, _ => 0x2A0
  | .implement, .reply => 0x1A0
  | .implement, _ => 0x1A8

/-- A copy placed in its mailbox replaces an unsent one (R176). -/
def insertMail (m : Mail) (ms : List Mail) : List Mail :=
  match ms with
  | [] => [m]
  | x :: rest =>
    if m.ident < x.ident then m :: x :: rest
    else if m.ident = x.ident then m :: rest
    else x :: insertMail m rest

/-- The transmitter's choice: on an ACTIVE link with no frame in transmission, the lowest identifier among the mailboxes and
the head of the event transmit queue (R176). A chosen copy leaves its mailbox, the head stays in the queue. -/
def transmit (l : Link) (k : LinkState) : LinkState :=
  if k.rejoin.isSome || k.tx.isSome then k
  else
    match k.mail, k.outbox with
    | [], [] => k
    | [], _ :: _ => { k with tx := some .event }
    | m :: rest, [] => { k with mail := rest, tx := some (.mail m) }
    | m :: rest, e :: _ =>
      if m.ident < outIdent l e.kind then { k with mail := rest, tx := some (.mail m) } else { k with tx := some .event }

/-- A producer places a periodic copy (R176). -/
def State.placeMail (s : State) (l : Link) (ident : Nat) (data : List Byte) : State :=
  s.onLink l (fun k => transmit l { k with mail := insertMail { ident := ident, data := data } k.mail })

/-- A mailbox is emptied (R56). -/
def State.emptyMail (s : State) (l : Link) (ident : Nat) : State :=
  s.onLink l (fun k => { k with mail := k.mail.filter (fun m => decide (m.ident ≠ ident)) })

/-- A frame joins the tail of an event transmit queue when the link is ACTIVE and the queue holds fewer than 8 frames; in
any other case it is not sent (R178). -/
def State.pushOut (s : State) (l : Link) (e : OutEvent) : State :=
  s.onLink l (fun k =>
    if k.rejoin.isNone && decide (k.outbox.length < 8) then transmit l { k with outbox := k.outbox ++ [e] } else k)

/-- REFUSAL: message kind, part, function (0 when none) and reason (R179, R181). -/
def State.refuse (s : State) (l : Link) (message part func : Nat) (r : Reason) : State :=
  s.pushOut l
    { kind := .refusal, data := leBytes 4 (pack [(message, 8), (part, 8), (func, 8), (reasonCode r, 8)]) }

/-- The results of AUTHORITY_REPLY (R34). -/
inductive ReplyResult where
  | granted | pending | refused (r : Reason) | lapsed
  deriving DecidableEq, Repr

/-- AUTHORITY_REPLY on the implement link (R34, R181): the lease remaining is 50 at a grant. -/
def State.reply (s : State) (func : Nat) (r : ReplyResult) : State :=
  let fields : List (Nat × Nat) :=
    match r with
    | .granted => [(func, 8), (1, 8), (0, 8), (50, 8)]
    | .pending => [(func, 8), (2, 8), (0, 8), (0, 8)]
    | .refused q => [(func, 8), (3, 8), (reasonCode q, 8), (0, 8)]
    | .lapsed => [(func, 8), (4, 8), (0, 8), (0, 8)]
  s.pushOut .implement { kind := .reply, data := leBytes 4 (pack fields) }

end Sys2Proof.Machine
end

