-- ==== Sys2Proof/Machine/Frames.lean ====
section
/-! DEFINITION. The outbound frames the part lays out from its records (R33, R139, R155, R163, R177, R181). -/

namespace Sys2Proof.Machine

/-- Gear coding N 0, F1 to F12 as 1 to 12, V1 to V8 as 17 to 24 (R181). -/
def gearCode (g : Gear) : Nat :=
  match g with
  | .neutral => 0
  | .fwd n => n
  | .rev n => 16 + n

/-- Direction coding of DRIVE_STATUS (R181). -/
def directionCode (d : Direction) : Nat :=
  match d with
  | .neutral => 0
  | .fwd => 1
  | .rev => 2

/-- shift_kind coding (R181). -/
def kindCode (k : Option ShiftKind) : Nat :=
  match k with
  | none => 0
  | some .simple => 1
  | some .compound => 2
  | some .shuttle => 3

/-- shift_phase coding (R181). -/
def phaseCode (p : Option Phase) : Nat :=
  match p with
  | none => 0
  | some .prefill => 1
  | some .overlap => 2
  | some .dirDown => 3
  | some .swapFill => 4
  | some .dirRelease => 5
  | some .dirFill => 6
  | some .reversal => 7
  | some .dirRamp => 8
  | some .finish => 9

/-- fwd_state coding (R181). -/
def fwdCode (f : FwdState) : Nat :=
  match f with
  | .engaged => 0
  | .releasing => 1
  | .released => 2
  | .applying => 3

/-- A mode in use, 3 when absent (R181). -/
def modeCode (m : Option Mode) : Nat :=
  match m with
  | some .off => 0
  | some .on => 1
  | some .auto => 2
  | none => 3

/-- Power state coding (R181); OFF sends nothing. -/
def powerCode (p : Power) : Nat :=
  match p with
  | .run => 0
  | .settle => 1
  | .flush => 2
  | .off => 3

/-- Holder coding (R181). -/
def holderCode (h : Holder) : Nat :=
  match h with
  | .cab => 0
  | .impl => 1
  | .svc => 2
  | .part => 3
  | .fender => 4

/-- Enable coding (R181). -/
def enableCode (e : Enable) : Nat :=
  match e with
  | .off => 0
  | .armed => 1
  | .spent => 2

/-- Hitch Lift State coding (R181). -/
def liftCode (l : LiftState) : Nat :=
  match l with
  | .unmatched => 0
  | .work => 1
  | .raising => 2
  | .raised => 3
  | .lowering => 4
  | .fender => 5
  | .stopped => 6

/-- Setpoint source coding (R181). -/
def sourceCode (c : SetpointSource) : Nat :=
  match c with
  | .cab => 0
  | .impl => 1
  | .frozen => 2

/-- Supply-line state coding (R181). -/
def supplyCode (l : SupplyLine) : Nat :=
  match l with
  | .notFitted => 0
  | .supplyOff => 1
  | .charging => 2
  | .ready => 3
  | .lost => 4

/-- The coding of the raising block in FAULT_NOTICE (R181). -/
def blockCode (b : Block) : Nat :=
  match b with
  | .speedCapture => 0
  | .shiftSequencer => 1
  | .solenoidChannels => 2
  | .fillStore => 3
  | .axleEngagement => 4
  | .hitchController => 5
  | .trailerBrake => 6
  | .linkInterface => 7

/-- DRIVE_STATUS (R177, R181), with the fault summary of R163. -/
def driveStatus (s : State) : List Byte :=
  let g := s.seq.published
  let a := s.axle.published
  let l := s.fault.list
  leBytes 8 (pack
    [ (gearCode g.gear, 8), (gearCode g.target, 8)
    , ((match g.pendingTarget with | some p => gearCode p | none => 255), 8)
    , (directionCode g.direction, 2), (kindCode g.shiftKind, 2), (phaseCode g.shiftPhase, 4)
    , (bit g.autoMode, 1), (bit g.neutralStartOk, 1), (bit g.draftHold, 1), (bit g.shuttleDecel, 1)
    , (fwdCode a.fwd, 2), (bit a.transition, 1), (bit a.releaseBlock, 1)
    , (modeCode a.fwdMode, 2), (modeCode (if a.dlCancel then some .off else a.dlMode), 2)
    , (bit a.dlEngaged, 1), (bit s.uncalibrated, 1), (powerCode s.power.power, 2)
    , (l.length, 5), (bit s.fault.listFull, 1), (bit (l.any (fun e => e.code.classA && e.active)), 1)
    , (bit (l.any (fun e => !e.acked)), 1)
    , (bit (!s.gateOpen .trans), 1), (bit (!s.gateOpen .axle), 1), (bit (!s.gateOpen .hitch), 1)
    , (bit (!s.gateOpen .trailer), 1) ])

/-- Lease remaining in units of 10 ms: lease_end minus now, truncated, for a function IMPL holds; 0 otherwise (R33). -/
def leaseRemaining (s : State) (f : Func) : Nat :=
  let e := s.auth.table.get f
  match e.holder, e.leaseEnd with
  | .impl, some t => (t - s.now) / 10
  | _, _ => 0

/-- AUTHORITY_STATUS, the same on both links (R33, R181). -/
def authorityStatus (s : State) : List Byte :=
  let h (f : Func) : Nat := holderCode (s.holder f)
  let p (f : Func) : Nat := bit (s.auth.table.get f).pendingSince.isSome
  let e (f : Func) : Nat := enableCode (s.auth.enable.get f)
  leBytes 8 (pack
    [ (h .gear, 3), (h .speed, 3), (bit s.classAActive, 1), (0, 1)
    , (h .axle, 3), (h .hitchSet, 3), (e .speed, 2)
    , (h .hitchLift, 3), (h .calib, 3), (e .axle, 2)
    , (p .speed, 1), (p .axle, 1), (p .hitchSet, 1), (p .hitchLift, 1), (e .hitchSet, 2), (e .hitchLift, 2)
    , (leaseRemaining s .speed, 8), (leaseRemaining s .axle, 8), (leaseRemaining s .hitchSet, 8)
    , (leaseRemaining s .hitchLift, 8) ])

/-- HITCH_STATUS, the values published at the latest hitch step (R139, R181); P_act, D_act and the draft latch move at no other
event. P_act is sent as 0 while it is absent (DESIGN CHOICE, log 39). -/
def hitchStatusFrame (s : State) : List Byte :=
  let t := s.hitch
  leBytes 8 (pack
    [ (liftCode t.report.lift, 3), (sourceCode t.report.source, 2), (bit t.report.lock, 1)
    , (bit (decide (t.report.lift = .unmatched)), 1), (bit t.pAct.isNone, 1)
    , (t.pAct.getD 0, 10), (twos 11 t.dAct, 11), (twos 11 t.report.dUsed, 11), (bit t.latch.isSome, 1)
    , (t.report.pSetUsed, 10), (twos 11 t.report.q, 11) ])

/-- TRAILER_STATUS, the values of the latest brake step (R155, R181); P_tc_meas is sent as 0 while it is absent (DESIGN CHOICE,
log 39). -/
def trailerStatusFrame (s : State) : List Byte :=
  let d := s.brake.demand
  let t := s.brake.report
  leBytes 8 (pack
    [ (supplyCode t.line, 3), (bit (decide (t.line = .lost)), 1), (bit t.ackSeen, 1), (bit t.assist, 1)
    , (bit d.brakeActive, 1), (bit d.parkApplied, 1)
    , (bit t.pTcMeas.isNone, 1), (bit d.sensorFailed, 1), (bit s.brake.supplyClosed, 1), (0, 5)
    , (t.pMap, 11), (t.pTc, 11), (t.pTcMeas.getD 0, 11), (d.pBrk, 11) ])

/-- IMPL_STATUS (R177, R181); P_act is sent as 0 while it is absent (DESIGN CHOICE, log 39). -/
def implStatus (s : State) : List Byte :=
  let g := s.seq.published
  let a := s.axle.published
  leBytes 8 (pack
    [ (gearCode g.gear, 8), (directionCode g.direction, 2), (kindCode g.shiftKind, 2)
    , (bit s.speed.set.radarValid, 1), (bit a.dlEngaged, 1), (bit s.classAActive, 1), (bit s.hitch.pAct.isNone, 1)
    , (s.speed.set.vGround, 16), (s.hitch.pAct.getD 0, 16)
    , (liftCode s.hitch.lift, 3), (fwdCode a.fwd, 2), (powerCode s.power.power, 2) ])

/-- FAULT_NOTICE of an entry as it stands (R163, R181); replaced_code is sent as 0 while it is absent (DESIGN CHOICE,
log 39). -/
def faultNotice (s : State) (e : FaultEntry) : List Byte :=
  leBytes 8 (pack
    [ (e.code.num, 8)
    , (bit (!e.code.classA), 1), (bit e.active, 1), (bit e.acked, 1), (bit s.fault.listFull, 1), (bit e.replaced.isNone, 1)
    , (blockCode e.source, 3), (e.count, 8), ((match e.replaced with | some c => c.num | none => 0), 8)
    , (e.firstTime, 32) ])

end Sys2Proof.Machine
end

