-- ==== Sys2Proof/Machine/Authority.lean ====
section
/-! DEFINITION. The Function Arbiter (02_function_authority.md): the Function Authority Table, the authority review, the
implement's requests, leases, reclaim and revocation, and what a change of holder does at its own event. -/

namespace Sys2Proof.Machine

/-! ### The table -/

/-- The values of the reclaim reference of a function, taken from the seen values (R17). -/
def referenceOf (f : Func) (v : Seen) : Option Reference :=
  match f with
  | .speed => some (.speed v.lever v.autoMode)
  | .axle => some (.axle v.fwdMode v.dlMode)
  | .hitchSet => some (.hitchSet v.pLever)
  | .hitchLift => some (.hitchLift v.rocker)
  | .gear => none
  | .calib => none

/-- The target of a function (R17). -/
def State.target (s : State) (f : Func) : Holder :=
  match f with
  | .gear => if s.uncalibrated || s.build.serviceStrap then .part else .cab
  | .speed => .cab
  | .axle => .cab
  | .hitchSet => .part
  | .hitchLift => .part
  | .calib => .part

/-- An entry changed. -/
def State.onEntry (s : State) (f : Func) (g : AuthEntry → AuthEntry) : State :=
  { s with auth := { s.auth with table := s.auth.table.set f (g (s.auth.table.get f)) } }

/-- What other blocks hold that falls with a change of holder at the same event: the implement modes and dl_cancel (R108,
R117), the implement setpoint (R125), a calibration run (R98). -/
def State.holderMoved (s : State) (f : Func) (before after : Holder) : State :=
  match f with
  | .axle =>
    { s with axle := { s.axle with
        own := { s.axle.own with dlCancel := false }
        implModes := if before = .impl then none else s.axle.implModes } }
  | .hitchSet => if after = .impl then { s with hitch := { s.hitch with impl := s.hitch.inUse } } else s
  | .calib => if before = .svc then s.abortRun .calibLost else s
  | _ => s

/-- A change of holder at one event (R16): lease and reference are brought into line, and AUTHORITY_STATUS becomes due
(R33). The holder a function already has is no change. -/
def State.setHolder (s : State) (f : Func) (h : Holder) : State :=
  let e := s.auth.table.get f
  if e.holder = h then s
  else
    let ref :=
      if h = .cab then none
      else if e.holder = .cab ∨ h = .impl then s.auth.seen.bind (referenceOf f)
      else e.reference
    let t := s.onEntry f (fun e =>
      { e with holder := h, leaseEnd := if h = .impl then some (s.now + 500) else none, reference := ref })
    ({ t with auth := { t.auth with statusDue := true } }).holderMoved f e.holder h

/-- A pending request is removed with no answer (R23). -/
def State.dropPending (s : State) (f : Func) : State :=
  if (s.auth.table.get f).pendingSince.isSome then
    let t := s.onEntry f (fun e => { e with pendingSince := none })
    { t with auth := { t.auth with statusDue := true } }
  else s

/-- A pending request is removed and answered REFUSED (R23). -/
def State.refusePending (s : State) (f : Func) (r : Reason) : State :=
  if (s.auth.table.get f).pendingSince.isSome then (s.dropPending f).reply (funcCode f) (.refused r) else s

/-- A function moves to a holder, and the implement is told LAPSED when it held it (R34). -/
def State.moveAway (s : State) (f : Func) (h : Holder) : State :=
  if s.holder f = .impl ∧ h ≠ .impl then (s.setHolder f h).reply (funcCode f) .lapsed else s.setHolder f h

/-- The Arbiter renews a lease (R24). -/
def State.renew (s : State) (f : Func) : State :=
  s.onEntry f (fun e => { e with leaseEnd := some (s.now + 500) })

/-- The effects of a reclaim (R26): the function to CAB, its request refused NOT_DELEGATED, ARMED to SPENT. -/
def State.reclaim (s : State) (f : Func) : State :=
  let t := (s.refusePending f .notDelegated).moveAway f .cab
  if t.auth.enable.get f = .armed then
    { t with auth := { t.auth with enable := t.auth.enable.set f .spent, statusDue := true } }
  else t

/-- A tap or direction request reclaims SPEED from IMPL or PART (R27). -/
def State.reclaimByCommand (s : State) : State :=
  if s.holder .speed = .impl ∨ s.holder .speed = .part then s.reclaim .speed else s

/-- The implement-enable flag of a function as read at a review (R18). -/
def flagOf (f : Func) (v : Seen) : Bool :=
  match f with
  | .speed => v.flagSpeed
  | .axle => v.flagAxle
  | .hitchSet => v.flagHitchSet
  | .hitchLift => v.flagHitchLift
  | .gear => false
  | .calib => false

/-- The reason for refusing the implement a command for a function it does not hold (R20): the flag at the latest review,
taken as off before the first review that reads it (DEDUCED, log 45). -/
def State.implRefusal (s : State) (f : Func) : Reason :=
  match s.auth.seen with
  | some v => if flagOf f v then .notHolder else .notDelegated
  | none => .notDelegated

/-- The safe point of a function (R22). The Arbiter reads the records as their owners hold them (DEDUCED,
log 22). -/
def State.safePoint (s : State) (f : Func) : Bool :=
  match f with
  | .speed => s.seq.shift.isNone
  | .axle => decide (s.axle.own.fwd = .engaged) || decide (s.axle.own.fwd = .released)
  | .hitchSet => decide (s.hitch.lift = .work)
  | .hitchLift => decide (s.hitch.lift ≠ .raising) && decide (s.hitch.lift ≠ .lowering)
  | .gear => false
  | .calib => false

/-- A function is granted to the implement (R21 step 9). -/
def State.grant (s : State) (f : Func) : State :=
  ((s.dropPending f).setHolder f .impl).reply (funcCode f) .granted

/-! ### The implement's messages -/

/-- The event at the head of a link's inbound queue (R175). -/
def State.head (s : State) (l : Link) : Option EventFrame := (s.link.get l).inbox.head?

/-- The delivered entry leaves the queue (R175). -/
def State.popEvent (s : State) (l : Link) : State := s.onLink l (fun k => { k with inbox := k.inbox.tail })

/-- IMPL_AUTHORITY REQUEST, judged by the first condition that holds (R21). The reply to a code outside the six carries that
code (DESIGN CHOICE, log 55). -/
def judgeRequest (s : State) (code : Nat) : State :=
  match funcOf code with
  | none => s.reply code (.refused .unknown)
  | some f =>
    if f = .gear ∨ f = .calib then s.reply code (.refused .notPermitted)
    else if s.power.power ≠ .run then s.reply code (.refused .notPermitted)
    else if s.auth.enable.get f ≠ .armed then s.reply code (.refused .notDelegated)
    else if s.classAActive then s.reply code (.refused .inhibited)
    else if s.holder f = .svc ∨ s.holder f = .fender then s.reply code (.refused .notPermitted)
    else if s.holder f = .impl then (s.renew f).reply code .granted
    else if (s.auth.table.get f).pendingSince.isSome then s.reply code .pending
    else if s.safePoint f then s.grant f
    else
      let t := s.onEntry f (fun e => { e with pendingSince := some s.now })
      ({ t with auth := { t.auth with statusDue := true } }).reply code .pending

/-- IMPL_AUTHORITY KEEP (R24). The reply to a code outside the six carries that code (DESIGN CHOICE, log 55). -/
def judgeKeep (s : State) (code : Nat) : State :=
  match funcOf code with
  | none => s.reply code (.refused .unknown)
  | some f =>
    if f = .gear ∨ f = .calib then s.reply code (.refused .notPermitted)
    else if s.holder f = .impl then s.renew f
    else if s.auth.enable.get f = .armed then s.reply code (.refused .notHolder)
    else s.reply code (.refused .notDelegated)

/-- IMPL_AUTHORITY RELEASE (R25). The reply to a code outside the six carries that code (DESIGN CHOICE, log 55). -/
def judgeRelease (s : State) (code : Nat) : State :=
  match funcOf code with
  | none => s.reply code (.refused .unknown)
  | some f =>
    if f = .gear ∨ f = .calib then s.reply code (.refused .notPermitted)
    else if s.holder f = .impl then (s.dropPending f).setHolder f (s.target f)
    else if (s.auth.table.get f).pendingSince.isSome then s.dropPending f
    else s.reply code (.refused .notHolder)

/-- The Arbiter takes the REQUEST at the head of the implement link's queue. -/
def takeRequest (s : State) : State :=
  match s.head .implement with
  | some (.authRequest code) => judgeRequest (s.popEvent .implement) code
  | _ => s

/-- The Arbiter takes the KEEP at the head of the implement link's queue. -/
def takeKeep (s : State) : State :=
  match s.head .implement with
  | some (.authKeep code) => judgeKeep (s.popEvent .implement) code
  | _ => s

/-- The Arbiter takes the RELEASE at the head of the implement link's queue. -/
def takeRelease (s : State) : State :=
  match s.head .implement with
  | some (.authRelease code) => judgeRelease (s.popEvent .implement) code
  | _ => s

/-! ### The authority review (R18) -/

/-- Stage 1: the values read, absent when nothing is read (R18). P_lever within 0 to 1000 (DEDUCED, log 18). -/
def State.readControls (s : State) : Option Seen :=
  if s.active .vehicleLinkLost then none
  else
    match s.link.demandA, s.link.demandB with
    | some a, some b =>
      some
        { flagSpeed := a.val.enSpeed
          flagAxle := a.val.enAxle
          flagHitchSet := a.val.enHitchSet
          flagHitchLift := a.val.enHitchLift
          lever := a.val.lever
          autoMode := a.val.autoMode
          fwdMode := a.val.fwdMode
          dlMode := a.val.dlMode
          pLever := clamp 0 1000 b.val.pLever
          rocker := b.val.rocker }
    | _, _ => none

/-- Stage 2 for one function: the enable state moves on the flag read, and ARMED to OFF revokes (R19). -/
def applyFlag (v : Seen) (s : State) (f : Func) : State :=
  let setEnable (t : State) (e : Enable) : State :=
    { t with auth := { t.auth with enable := t.auth.enable.set f e, statusDue := true } }
  match s.auth.enable.get f, flagOf f v with
  | .off, true => setEnable s .armed
  | .armed, false =>
    let t := (setEnable s .off).refusePending f .notDelegated
    if t.holder f = .impl then t.moveAway f (t.target f) else t
  | .spent, false => setEnable s .off
  | _, _ => s

/-- Stage 3 for one function: the values just read show a reclaim (R26, R28). -/
def reclaimShown (s : State) (v : Seen) (f : Func) : Bool :=
  let e := s.auth.table.get f
  match f, e.holder, e.reference with
  | .speed, .impl, some r => decide (r ≠ .speed v.lever v.autoMode)
  | .speed, .part, some r => decide (r ≠ .speed v.lever v.autoMode)
  | .axle, .impl, some r => decide (r ≠ .axle v.fwdMode v.dlMode)
  | .axle, .part, some r => decide (r ≠ .axle v.fwdMode v.dlMode)
  | .hitchLift, .impl, some r => decide (r ≠ .hitchLift v.rocker)
  | .hitchLift, .part, some r => decide (r ≠ .hitchLift v.rocker)
  | .hitchSet, .impl, some (.hitchSet p) => decide (30 < dist v.pLever p)
  | .hitchSet, .part, _ =>
    match s.hitch.pAct with
    | some p => decide (dist v.pLever p ≤ 20)
    | none => false
  | _, _, _ => false

/-- Stage 3 (R18, R26, R28): reclaims in the order of the table, then the seen values. At the first review that reads, no
reclaim is judged and the absent references of functions that CAB does not hold are set. -/
def judgeReclaims (s : State) (v : Seen) : State :=
  match s.auth.seen with
  | some _ =>
    let t := delegableFuncs.foldl (fun s f => if reclaimShown s v f then s.reclaim f else s) s
    { t with auth := { t.auth with seen := some v } }
  | none =>
    let t := allFuncs.foldl
      (fun s f =>
        s.onEntry f (fun e =>
          if e.holder ≠ .cab ∧ e.reference = none then { e with reference := referenceOf f v } else e)) s
    { t with auth := { t.auth with seen := some v } }

/-- Stage 4 for one function: a waiting request is settled (R23). -/
def settleRequest (s : State) (f : Func) : State :=
  if (s.auth.table.get f).pendingSince.isSome then
    if s.classAActive then s.refusePending f .inhibited
    else if s.holder f = .svc ∨ s.holder f = .fender then s.refusePending f .notPermitted
    else if s.safePoint f then s.grant f
    else s
  else s

/-- Stage 5: AUTHORITY_STATUS on both links when due or 500 ms after the previous one (R33). -/
def sendAuthorityStatus (s : State) : State :=
  if s.auth.statusDue || decide (s.auth.lastStatus + 500 ≤ s.now) then
    let t := { s with auth := { s.auth with statusDue := false, lastStatus := s.now } }
    (t.placeMail .vehicle 0x318 (authorityStatus t)).placeMail .implement 0x1B0 (authorityStatus t)
  else s

/-- The five stages of a review (R18). -/
def authorityReview (s : State) : State :=
  let t :=
    match s.readControls with
    | some v => judgeReclaims (delegableFuncs.foldl (applyFlag v) s) v
    | none => s
  sendAuthorityStatus (delegableFuncs.foldl settleRequest t)

/-! ### Timeouts, lapses, and returns -/

/-- The pending timeout, 2000 ms after the arrival time (R23). -/
def pendingTimeout (f : Func) (s : State) : State :=
  if passed s.now 2000 (s.auth.table.get f).pendingSince then s.refusePending f .timeout else s

/-- The lapse of a lease: now has reached lease_end while IMPL holds the function (R25). -/
def leaseLapse (f : Func) (s : State) : State :=
  if s.holder f = .impl ∧ passed s.now 0 (s.auth.table.get f).leaseEnd then s.moveAway f (s.target f) else s

/-- Bus-off of the implement link: its functions lapse and its requests go, with no answer (R25). -/
def lapseAllSilently (s : State) : State :=
  delegableFuncs.foldl
    (fun s f =>
      let t := s.dropPending f
      if t.holder f = .impl then t.setHolder f (t.target f) else t) s

/-- The start of SHUTDOWN: the implement's functions to their targets with LAPSED, requests refused NOT_PERMITTED (R36).
The replies go function by function in the order of R17, a request's REFUSED before the LAPSED (DESIGN CHOICE, log 29). -/
def returnAtShutdown (s : State) : State :=
  delegableFuncs.foldl
    (fun s f =>
      let t := s.refusePending f .notPermitted
      if t.holder f = .impl then t.moveAway f (t.target f) else t) s

/-- Fault 3 recorded active: SPEED, HITCH_SET and HITCH_LIFT to their targets where CAB or IMPL holds them, their requests
refused INHIBITED (R35). The replies go in the order of these names, a request's REFUSED before the LAPSED (DESIGN CHOICE,
log 29). -/
def returnAtLinkLoss (s : State) : State :=
  [Func.speed, .hitchSet, .hitchLift].foldl
    (fun s f =>
      let t := s.refusePending f .inhibited
      if t.holder f = .cab ∨ t.holder f = .impl then t.moveAway f (t.target f) else t) s

/-- The end of UNLOCKED: every function SVC holds to its target (R30). -/
def returnFromService (s : State) : State :=
  allFuncs.foldl (fun s f => if s.holder f = .svc then s.setHolder f (s.target f) else s) s

/-- A function passes to SVC or FENDER: its request is refused NOT_PERMITTED, and the implement is told LAPSED (R30, R31). -/
def State.seize (s : State) (f : Func) (h : Holder) : State := (s.refusePending f .notPermitted).moveAway f h

/-! ### The commands of the arbiter -/

/-- AUTHORITY_REVIEW (R18). -/
def execAuthorityReview (dt : Nat) (s : State) : Host.Outcome State Fault Refusal :=
  .next (s.event dt authorityReview)

/-- IMPL_AUTHORITY_REQUEST (R21). -/
def execImplAuthorityRequest (dt : Nat) (s : State) : Host.Outcome State Fault Refusal :=
  .next (s.event dt takeRequest)

/-- IMPL_AUTHORITY_KEEP (R24). -/
def execImplAuthorityKeep (dt : Nat) (s : State) : Host.Outcome State Fault Refusal :=
  .next (s.event dt takeKeep)

/-- IMPL_AUTHORITY_RELEASE (R25). -/
def execImplAuthorityRelease (dt : Nat) (s : State) : Host.Outcome State Fault Refusal :=
  .next (s.event dt takeRelease)

/-- PENDING_TIMEOUT (R23). -/
def execPendingTimeout (dt : Nat) (f : Func) (s : State) : Host.Outcome State Fault Refusal :=
  .next (s.event dt (pendingTimeout f))

/-- LEASE_LAPSE (R25). -/
def execLeaseLapse (dt : Nat) (f : Func) (s : State) : Host.Outcome State Fault Refusal :=
  .next (s.event dt (leaseLapse f))

end Sys2Proof.Machine
end

