-- ==== Sys2Proof/Machine/Outputs.lean ====
section
/-! DEFINITION. Demands, gates and the output rule of the sixteen channels (04, R69 to R77), apart from the channel step. -/

namespace Sys2Proof.Machine

/-- The group of a channel (R69); the spare has none. -/
def chanGroup (i : Chan) : Option Group :=
  match i with
  | .clutch _ => some .trans
  | .fwdRelease | .diffLock => some .axle
  | .hitchRaise | .hitchLower => some .hitch
  | .trailerControl | .trailerSupply => some .trailer
  | .spare => none

/-- A SWITCHED channel (R69). -/
def switched (i : Chan) : Bool :=
  match i with
  | .fwdRelease | .diffLock | .trailerSupply => true
  | _ => false

/-- The current of a clutch pressure (R75); the nominal pair where the key has no valid record. -/
def clutchCurrent (v : Option ClutchCal) (p : Nat) : Nat :=
  let i0 := match v with | some c => c.i0 | none => 300
  let iFull := match v with | some c => c.iFull | none => 900
  if p = 0 then 0 else i0 + (p * (iFull - i0) + 1000) / 2000

/-- The current of a trailer pressure (R76). -/
def trailerCurrent (t : TrailerCal) (p : Nat) : Nat :=
  if p = 0 then 0
  else (clampZ 0 1600 ((t.iLo : Int) + (((p : Int) - 100) * ((t.iHi : Int) - t.iLo)).tdiv 1400)).toNat

/-- The current of a proportional channel's demand (R75, R76). -/
def demandCurrent (s : State) (i : Chan) (d : Nat) : Nat :=
  match i with
  | .clutch c => clutchCurrent (s.clutchCal c) d
  | .trailerControl => trailerCurrent s.trailerCal d
  | _ => d

/-- The state the output rule gives (R74). -/
def ruleState (i : Chan) (gateOpen : Bool) (c : Channel) : ChanState :=
  if !c.fitted then .parked
  else if c.state = .faulted then .faulted
  else if !gateOpen || decide (c.demand = 0) then .off
  else if switched i then (if c.state = .pullIn ∨ c.state = .hold then c.state else .pullIn)
  else .driving

/-- A gate of a channel is open; the spare has no gate and is never fitted. -/
def State.chanGate (s : State) (i : Chan) : Bool :=
  match chanGroup i with
  | some g => s.gateOpen g
  | none => false

/-- The commanded current of a state (R70, R74). -/
def stateCurrent (s : State) (i : Chan) (st : ChanState) (demand : Nat) : Nat :=
  match st with
  | .driving => demandCurrent s i demand
  | .pullIn => 1000
  | .hold => 500
  | .off | .parked | .faulted => 0

/-- The output rule applied to a channel record (R74). -/
def applyRule (s : State) (i : Chan) (c : Channel) : Channel :=
  let st := ruleState i (s.chanGate i) c
  { c with
    state := st
    commanded := stateCurrent s i st c.demand
    since := if st = c.state then c.since else s.now }

/-- A channel record changed. -/
def State.onChan (s : State) (i : Chan) (f : Channel → Channel) : State :=
  { s with chan := { s.chan with channels := s.chan.channels.set i (f (s.chan.channels.get i)) } }

/-- A demand arrives on a channel (R73): an equal one changes nothing, a hitch current is clamped to 0 to 1600. -/
def State.demand (s : State) (i : Chan) (d : Nat) : State :=
  let d := if i = .hitchRaise ∨ i = .hitchLower then clamp 0 1600 d else d
  if (s.chan.channels.get i).demand = d then s
  else s.onChan i (fun c => applyRule s i { c with demand := d })

/-- The output rule on every channel of a group, at an opening or closing of its gate (R74). -/
def State.ruleOnGroup (s : State) (g : Group) : State :=
  { s with chan := { s.chan with
      channels := s.chan.channels.mapWith (fun i c => if chanGroup i = some g then applyRule s i c else c) } }

/-- New conversion values are applied to a channel that is DRIVING (R75). -/
def State.reconvert (s : State) (i : Chan) : State :=
  s.onChan i (fun c => if c.state = .driving then applyRule s i c else c)

/-- The power state becomes OFF: every channel that is not PARKED is OFF with 0 mA (R85). -/
def State.channelsOff (s : State) : State :=
  { s with chan := { s.chan with
      channels := s.chan.channels.mapWith (fun _ c =>
        if c.state = .parked then c
        else { c with state := .off, commanded := 0, since := if c.state = .off then c.since else s.now }) } }

end Sys2Proof.Machine
end

