-- ==== Sys2Proof/Machine/Reactions.lean ====
section
/-! DEFINITION. What the owning blocks do at the event of a gate closure or of the recording of a fault, outside their own
steps: the axle (R110, R115, R117), the hitch (R131, R138), the trailer (R152). -/

namespace Sys2Proof.Machine

/-! ### Axle -/

/-- The Axle State is published (R106). -/
def State.publishAxle (s : State) : State := { s with axle := { s.axle with published := s.axle.own } }

/-- fwd_state entered: fwd_entry is now, and axle_transition begins with RELEASING and APPLYING (R106, R113). -/
def enterFwd (now : Nat) (f : FwdState) (a : AxleRec) : AxleRec :=
  { a with
    fwd := f
    fwdEntry := now
    transition := if f = .releasing ∨ f = .applying then true else a.transition }

/-- RELEASING or RELEASED turns to APPLYING at once (R110, R115). -/
def applyFwd (now : Nat) (a : AxleRec) : AxleRec :=
  if a.fwd = .releasing ∨ a.fwd = .released then enterFwd now .applying a else a

/-- A brake or fault engagement begins (R110). -/
def State.engageAxle (s : State) : State :=
  let t := s.demand .fwdRelease 0
  ({ t with axle := { t.axle with
      own := applyFwd t.now t.axle.own
      appliedEngaged := true
      lastChange := some t.now } }).publishAxle

/-- The fault engagement begins as the Fault Manager records fault 3 or 4; one that is in force goes on (R110; DEDUCED,
log 16). -/
def State.faultEngage (s : State) : State :=
  if s.axle.faultEngagement then s else ({ s with axle := { s.axle with faultEngagement := true } }).engageAxle

/-- The brake engagement is judged: brake_active with v_ground of 200 or more (R110). -/
def State.judgeBrakeEngagement (s : State) : State :=
  if !s.axle.brakeEngagement && s.brake.demand.brakeActive && decide (200 ≤ s.speed.set.vGround) then
    ({ s with axle := { s.axle with brakeEngagement := true, brakeOffAt := none } }).engageAxle
  else s

/-- A drop cause of the diff lock: either pedal switch, or v_ground above 1500 (R117). -/
def State.dropCause (s : State) : Bool :=
  s.brake.demand.pedalLeft || s.brake.demand.pedalRight || decide (1500 < s.speed.set.vGround)

/-- The drop of the diff lock at the event at which a drop cause holds (R117). -/
def State.judgeDrop (s : State) : State :=
  if s.dropCause then
    let t :=
      if s.axle.own.dlMode = some .on then
        { s with axle := { s.axle with own := { s.axle.own with dlCancel := true } } }
      else s
    if t.axle.own.dlEngaged then
      let u := { t with axle := { t.axle with own := { t.axle.own with dlEngaged := false } } }
      (u.demand .diffLock 0).publishAxle
    else t
  else s

/-- The AXLE gate closes (R115). -/
def State.axleGateClosed (s : State) : State :=
  let t := (s.demand .fwdRelease 0).demand .diffLock 0
  ({ t with axle := { t.axle with
      own := { applyFwd t.now t.axle.own with dlEngaged := false }
      appliedEngaged := true
      lastChange := some t.now } }).publishAxle

/-! ### Hitch -/

/-- The lift state is entered, with its time (R129). -/
def State.enterLift (s : State) (l : LiftState) : State :=
  if s.hitch.lift = l then s else { s with hitch := { s.hitch with lift := l, entered := s.now } }

/-- STOPPED is entered (R131); a FENDER that ends so gives HITCH_LIFT to PART (R137). -/
def State.stopLift (s : State) : State :=
  let t := if s.hitch.lift = .fender then s.setHolder .hitchLift .part else s
  t.enterLift .stopped

/-- STOPPED outside the flow computation: entered, with 0 mA on both pilots (R131, R138). -/
def State.hitchStop (s : State) : State := (s.stopLift.demand .hitchRaise 0).demand .hitchLower 0

/-! ### Trailer -/

/-- The supply-line state is entered, with its time (R146); charge_start and open_since stay as they were where no rule names
them (DESIGN CHOICE, log 51). -/
def enterLine (now : Nat) (l : SupplyLine) (t : TrailerRec) : TrailerRec := { t with line := l, entered := now }

/-- The TRAILER gate closes: READY falls back to CHARGING (R152). -/
def State.trailerGateClosed (s : State) : State :=
  if s.brake.trailer.line = .ready then
    { s with brake := { s.brake with
        trailer := { enterLine s.now .charging s.brake.trailer with chargeStart := none } } }
  else s

end Sys2Proof.Machine
end

