-- ==== Sys2Proof/Machine/Faults.lean ====
section
/-! DEFINITION. The Fault Manager's faults (09, R157 to R166): raises, reports of inactivity, acknowledgement, notices, group
gates, and the removal of entries. -/

namespace Sys2Proof.Machine

/-! ### Notices (R162) -/

/-- The entry whose notice is offered next: class A in ascending code order, then class B in ascending code order while no
class A entry has acknowledged clear. -/
def nextNotice (l : List FaultEntry) : Option FaultEntry :=
  let find (p : FaultEntry → Bool) : Option FaultEntry :=
    allCodes.findSome? (fun c => l.find? (fun e => decide (e.code = c) && p e))
  match find (fun e => e.code.classA && e.noticePending) with
  | some e => some e
  | none =>
    if l.any (fun e => e.code.classA && !e.acked) then none else find (fun e => !e.code.classA && e.noticePending)

/-- The list without the entry of a code (R160). -/
def removeCode (c : FaultCode) (l : List FaultEntry) : List FaultEntry := l.filter (fun e => decide (e.code ≠ c))

/-- An entry changed by code. -/
def mapCode (c : FaultCode) (f : FaultEntry → FaultEntry) (l : List FaultEntry) : List FaultEntry :=
  l.map (fun e => if e.code = c then f e else e)

/-- An entry leaves the list by R160; list_full is cleared when the list then holds 15 entries (R159). -/
def State.removeEntry (s : State) (c : FaultCode) : State :=
  let l := removeCode c s.fault.list
  { s with fault := { s.fault with list := l, listFull := if l.length = 15 then false else s.fault.listFull } }

/-- One notice is placed in the event transmit queue of the vehicle link; an entry that only waited for it leaves (R160,
R162). -/
def State.placeNotice (s : State) (e : FaultEntry) : State :=
  let t := s.pushOut .vehicle { kind := .notice, data := faultNotice s e }
  let u :=
    { t with fault := { t.fault with list := mapCode e.code (fun e => { e with noticePending := false }) t.fault.list } }
  if passed u.now 0 e.removalDue then u.removeEntry e.code else u

/-- The Fault Manager offers notices while the queue has a free place, the link is ACTIVE and an entry is eligible; at most
one per entry of the list. -/
def offerNoticesUpTo (n : Nat) (s : State) : State :=
  match n with
  | 0 => s
  | n + 1 =>
    if s.link.vehicle.rejoin.isNone && decide (s.link.vehicle.outbox.length < 8) then
      match nextNotice s.fault.list with
      | some e => offerNoticesUpTo n (s.placeNotice e)
      | none => s
    else s

/-- Notices are offered (R162). -/
def State.offerNotices (s : State) : State := offerNoticesUpTo 16 s

/-! ### Gates (R164, R165) -/

/-- The closing records of a gate after a raise of a code: added, or set active and not acknowledged. -/
def closeRecord (c : FaultCode) (r : List Closing) : List Closing :=
  if r.any (fun k => decide (k.code = c)) then
    r.map (fun k => if k.code = c then { k with active := true, acked := false } else k)
  else r ++ [{ code := c, active := true, acked := false }]

/-- The owner of a group is told that its gate closed (R164); the Shift Sequencer reads the TRANS gate at its steps. -/
def State.tellClosed (s : State) (g : Group) : State :=
  match g with
  | .trans => s
  | .axle => s.axleGateClosed
  | .hitch => s.hitchStop
  | .trailer => s.trailerGateClosed

/-- A gate is brought up to date at a raise; where it passes to closed, its channels are set OFF and its owner is told. -/
def State.closeGate (s : State) (c : FaultCode) (g : Group) : State :=
  let wasOpen := s.gateOpen g
  let t := { s with fault := { s.fault with gates := s.fault.gates.set g (closeRecord c (s.fault.gates.get g)) } }
  if wasOpen then (t.ruleOnGroup g).tellClosed g else t

/-- The records of a gate change, and records inactive and acknowledged leave; a gate whose last record leaves reopens, and
its channels take their held demands (R165). -/
def State.updateGate (s : State) (f : Closing → Closing) (g : Group) : State :=
  let before := s.fault.gates.get g
  let after := (before.map f).filter (fun k => k.active || !k.acked)
  let t := { s with fault := { s.fault with gates := s.fault.gates.set g after } }
  if !before.isEmpty && after.isEmpty then t.ruleOnGroup g else t

/-! ### Raise (R159) -/

/-- A new entry (R159 case 2). -/
def newEntry (now : Nat) (c : FaultCode) (replaced : Option FaultCode) : FaultEntry :=
  { code := c, source := sourceOf c, firstTime := now, count := 1, active := true, acked := false
    noticePending := true, replaced := replaced, removalDue := none }

/-- The older of two entries: the earlier first_time, then the lower code (R158). -/
def older (a b : FaultEntry) : Bool :=
  decide (a.firstTime < b.firstTime) || (decide (a.firstTime = b.firstTime) && decide (a.code.num < b.code.num))

/-- The oldest of some entries (R158). -/
def oldest (l : List FaultEntry) : Option FaultEntry :=
  match l with
  | [] => none
  | e :: rest =>
    match oldest rest with
    | none => some e
    | some d => if older d e then some d else some e

/-- The entry a class A raise displaces from a full list (R159 case 4). -/
def displaced (l : List FaultEntry) : Option FaultEntry :=
  match oldest (l.filter (fun e => !e.active)) with
  | some e => some e
  | none => oldest (l.filter (fun e => !e.code.classA))

/-- A raise merged into the entry of its code (R159 case 1). -/
def mergeRaise (c : FaultCode) (e : FaultEntry) : FaultEntry :=
  { e with
    active := true
    acked := false
    count := min 255 (e.count + 1)
    noticePending := true
    source := sourceOf c
    removalDue := none }

/-- The four cases of recording a raise (R159): the list and list_full. -/
def record (now : Nat) (c : FaultCode) (f : FaultState) : FaultState :=
  if f.list.any (fun e => decide (e.code = c)) then
    { f with list := mapCode c (mergeRaise c) f.list }
  else if f.list.length < 16 then { f with list := f.list ++ [newEntry now c none] }
  else if !c.classA then { f with listFull := true }
  else
    match displaced f.list with
    | some d => { f with list := removeCode d.code f.list ++ [newEntry now c (some d.code)] }
    | none => f

/-- The set of active codes with a code added or taken away, in ascending order. -/
def setActive (c : FaultCode) (on : Bool) (l : List FaultCode) : List FaultCode :=
  allCodes.filter (fun d => if d = c then on else decide (d ∈ l))

/-- Fault 3 and fault 4 are told to the blocks that react at the event of the recording (R110, R166). -/
def State.tellRaised (s : State) (c : FaultCode) : State :=
  match c with
  | .vehicleLinkLost => (returnAtLinkLoss s).faultEngage
  | .trailerSupplyLost => s.faultEngage
  | _ => s

/-- The Fault Manager takes a raise (R159, R164, R166, R162); `named` is the group a raise of code 26 names. -/
def State.raise (s : State) (c : FaultCode) (named : Option Group) : State :=
  let t := { s with fault := record s.now c { s.fault with active := setActive c true s.fault.active } }
  (((gatesOf c named).foldl (fun s g => s.closeGate c g) t).tellRaised c).offerNotices

/-! ### Inactivity (R160) and acknowledgement (R161) -/

/-- removal_due is set at the event at which an entry first is inactive and acknowledged (R160). -/
def startRemoval (now : Nat) (e : FaultEntry) : FaultEntry :=
  if !e.active && e.acked && e.removalDue.isNone then { e with removalDue := some (now + 500) } else e

/-- The Fault Manager takes a report that a code is inactive (R160, R164, R165). -/
def State.inactive (s : State) (c : FaultCode) : State :=
  let t :=
    { s with fault := { s.fault with
        active := setActive c false s.fault.active
        list := mapCode c (fun e => startRemoval s.now { e with active := false, noticePending := true }) s.fault.list } }
  (allGroups.foldl
    (fun s g => s.updateGate (fun k => if k.code = c then { k with active := false } else k) g) t).offerNotices

/-- A block reports a code inactive where it is active. -/
def State.reportInactive (s : State) (c : FaultCode) : State := if s.active c then s.inactive c else s

/-- The latch of LOST clears (R151): READY, and fault 4 is inactive. ack_seen and closed_since, which R146 gives a meaning in
LOST alone, are cleared with it (DESIGN CHOICE, log 40). -/
def State.clearLatch (s : State) : State :=
  ({ s with brake := { s.brake with
      trailer := { enterLine s.now .ready s.brake.trailer with openSince := none, closedSince := none, ackSeen := false }
      recharged := false } }).reportInactive .trailerSupplyLost

/-- The channels' codes (R79). -/
def chanCode (i : Chan) : FaultCode :=
  match i with
  | .clutch _ => .clutchChannel
  | _ => .auxChannel

/-- An acknowledgement reaches the blocks (R161): ack_seen of FAULTED channels (R81), release_block (R114), the trailer
(R151). `c` is absent for all codes. -/
def State.tellAcked (s : State) (c : Option FaultCode) : State :=
  let names (d : FaultCode) : Bool := decide (c = none) || decide (c = some d)
  let t :=
    { s with
      chan := { s.chan with channels := s.chan.channels.mapWith (fun i k =>
        if k.state = .faulted ∧ names (chanCode i) then { k with ackSeen := true } else k) }
      axle := { s.axle with ackSeen := s.axle.ackSeen || names .axleReleaseFailed } }
  if names .trailerSupplyLost ∧ t.brake.trailer.line = .lost then
    let u := { t with brake := { t.brake with trailer := { t.brake.trailer with ackSeen := true } } }
    if u.brake.recharged then u.clearLatch else u
  else t

/-- An acknowledgement of one code, or of all, in its effects on list, gates and blocks (R161). -/
def State.acknowledge (s : State) (c : Option FaultCode) : State :=
  let names (d : FaultCode) : Bool := decide (c = none) || decide (c = some d)
  let t :=
    { s with fault := { s.fault with
        list := s.fault.list.map (fun (e : FaultEntry) => if names e.code then startRemoval s.now { e with acked := true } else e) } }
  let u := allGroups.foldl (fun s g => s.updateGate (fun k => if names k.code then { k with acked := true } else k) g) t
  (u.tellAcked c).offerNotices

/-- CAB_COMMAND ACK at the head of the vehicle link's queue (R161): a code outside the 22, other than 0, is refused
UNKNOWN. -/
def takeAck (s : State) : State :=
  match s.head .vehicle with
  | some (.ack n) =>
    let t := s.popEvent .vehicle
    if n = 0 then t.acknowledge none
    else
      match FaultCode.ofNum n with
      | some c => t.acknowledge (some c)
      | none => t.refuse .vehicle 1 4 0 .unknown
  | _ => s

/-- now reaches removal_due: the entry leaves when its notice is not pending (R160). -/
def entryRemoval (c : FaultCode) (s : State) : State :=
  match s.fault.list.find? (fun e => decide (e.code = c)) with
  | some e => if passed s.now 0 e.removalDue && !e.noticePending then (s.removeEntry c).offerNotices else s
  | none => s

/-- CAB_COMMAND_ACK (R161). -/
def execCabCommandAck (dt : Nat) (s : State) : Host.Outcome State Fault Refusal :=
  .next (s.event dt takeAck)

/-- ENTRY_REMOVAL (R160). -/
def execEntryRemoval (dt : Nat) (code : FaultCode) (s : State) : Host.Outcome State Fault Refusal :=
  .next (s.event dt (entryRemoval code))

end Sys2Proof.Machine
end

