-- ==== Sys2Proof/Machine/Links.lean ====
section
/-! DEFINITION. The Link Interface (10): reception, the link check, the event queues, the end of a transmission, the reports,
bus-off and rejoin. -/

namespace Sys2Proof.Machine

/-- A link receives while it is ACTIVE (R172). -/
def State.receives (s : State) (l : Link) : Bool := (s.link.get l).rejoin.isNone

/-- A received ENGINE_REPORT replaces the mailbox copy, or is discarded (R173). -/
def receiveEngineReport (data : List Byte) (s : State) : State :=
  if s.receives .vehicle then
    match decodeEngineReport data with
    | some v => { s with link := { s.link with engine := some { val := v, arrived := s.now } } }
    | none => s
  else s

/-- A received OPERATOR_DEMAND_A replaces the mailbox copy, or is discarded (R173). -/
def receiveDemandA (data : List Byte) (s : State) : State :=
  if s.receives .vehicle then
    match decodeDemandA data with
    | some v => { s with link := { s.link with demandA := some { val := v, arrived := s.now } } }
    | none => s
  else s

/-- A received OPERATOR_DEMAND_B replaces the mailbox copy, or is discarded (R173). -/
def receiveDemandB (data : List Byte) (s : State) : State :=
  if s.receives .vehicle then
    match decodeDemandB data with
    | some v => { s with link := { s.link with demandB := some { val := v, arrived := s.now } } }
    | none => s
  else s

/-- A received event frame (R173, R175): ignored, refused UNKNOWN, refused BUSY, or queued. -/
def receiveEvent (l : Link) (ident : Nat) (data : List Byte) (s : State) : State :=
  if s.receives l then
    match eventKind l ident with
    | none => s
    | some k =>
      match decodeEvent k data with
      | none => s.refuse l k.message (refusedPart k data) 0 .unknown
      | some e =>
        if (s.link.get l).inbox.length < 8 then s.onLink l (fun b => { b with inbox := b.inbox ++ [e] })
        else s.refuse l k.message (refusedPart k data) 0 .busy
  else s

/-- A demand copy is fresh: no more than 200 ms old, or none yet in the first 200 ms after the restart (R174;
DEDUCED, log 19). -/
def demandFresh {α : Type} (now start : Nat) (c : Option (Copy α)) : Bool :=
  match c with
  | some v => decide (now ≤ v.arrived + 200)
  | none => decide (now < start + 200)

/-- The link check (R174). -/
def linkCheck (s : State) : State :=
  let fresh :=
    s.receives .vehicle && demandFresh s.now s.start s.link.demandA && demandFresh s.now s.start s.link.demandB
  if fresh then s.reportInactive .vehicleLinkLost
  else if s.active .vehicleLinkLost then s
  else s.raise .vehicleLinkLost none

/-- The transmitter has sent its frame (R176): a sent event frame leaves its queue, the Fault Manager is told of a frame of
the vehicle link (R178) and places its notice, and the transmitter then chooses again (the order: DESIGN CHOICE, log 44). -/
def frameSent (l : Link) (s : State) : State :=
  match (s.link.get l).tx with
  | none => s
  | some x =>
    let t := s.onLink l (fun k =>
      { k with tx := none, outbox := match x with | .event => k.outbox.tail | .mail _ => k.outbox })
    let u := match l with
      | .vehicle => t.offerNotices
      | .implement => t
    u.onLink l (transmit l)

/-- The report timer (R177): DRIVE_STATUS, and at every second expiry IMPL_STATUS. -/
def reportTimer (s : State) : State :=
  let t := s.placeMail .vehicle 0x300 (driveStatus s)
  let u := if s.link.secondReport then t.placeMail .implement 0x1B8 (implStatus t) else t
  { u with link := { u.link with secondReport := !s.link.secondReport } }

/-- The copy whose transmission bus-off cuts short returns to its mailbox, unless a newer one stands there or its torque part
has ended (R172). A torque part that asks places a copy at the step where it begins (R56), so that while one runs a
TORQUE_LIMIT with no newer copy is its own; one that does not ask has none. -/
def returnMail (s : State) (k : LinkState) : List Mail :=
  match k.tx with
  | some (.mail m) =>
    let torqueOver := match s.seq.shift with
      | some r => !r.torque.any Torque.asked
      | none => true
    if k.mail.any (fun x => decide (x.ident = m.ident)) || (decide (m.ident = 0x0C0) && torqueOver) then k.mail
    else insertMail m k.mail
  | _ => k.mail

/-- A link goes bus-off (R172). -/
def goBusOff (l : Link) (s : State) : State :=
  if s.receives l then
    let t := s.onLink l (fun k =>
      { rejoin := some (s.now + 200)
        inbox := []
        outbox := k.outbox.filter (fun e => decide (e.kind = .notice))
        mail := returnMail s k
        tx := none })
    match l with
    | .vehicle => t
    | .implement => lapseAllSilently t
  else s

/-- The rejoin time expires (R172); the Fault Manager is told of the vehicle link's rejoin (R178) and places its notice before
the transmitter chooses (DESIGN CHOICE, log 44). -/
def linkRejoin (l : Link) (s : State) : State :=
  if passed s.now 0 (s.link.get l).rejoin then
    let t := s.onLink l (fun k => { k with rejoin := none })
    let u := match l with
      | .vehicle => t.offerNotices
      | .implement => t
    u.onLink l (transmit l)
  else s

/-- LINK_CHECK (R174). -/
def execLinkCheck (dt : Nat) (s : State) : Host.Outcome State Fault Refusal := .next (s.event dt linkCheck)

/-- ENGINE_REPORT (R173). -/
def execEngineReport (dt : Nat) (data : List Byte) (s : State) : Host.Outcome State Fault Refusal :=
  .next (s.event dt (receiveEngineReport data))

/-- OPERATOR_DEMAND_A (R173). -/
def execOperatorDemandA (dt : Nat) (data : List Byte) (s : State) : Host.Outcome State Fault Refusal :=
  .next (s.event dt (receiveDemandA data))

/-- OPERATOR_DEMAND_B (R173). -/
def execOperatorDemandB (dt : Nat) (data : List Byte) (s : State) : Host.Outcome State Fault Refusal :=
  .next (s.event dt (receiveDemandB data))

/-- EVENT_FRAME_RECEIVED (R175). -/
def execEventFrameReceived (dt : Nat) (l : Link) (ident : Nat) (data : List Byte) (s : State) :
    Host.Outcome State Fault Refusal :=
  .next (s.event dt (receiveEvent l ident data))

/-- FRAME_SENT (R176). -/
def execFrameSent (dt : Nat) (l : Link) (s : State) : Host.Outcome State Fault Refusal :=
  .next (s.event dt (frameSent l))

/-- REPORT_TIMER (R177). -/
def execReportTimer (dt : Nat) (s : State) : Host.Outcome State Fault Refusal := .next (s.event dt reportTimer)

/-- BUS_OFF (R172). -/
def execBusOff (dt : Nat) (l : Link) (s : State) : Host.Outcome State Fault Refusal := .next (s.event dt (goBusOff l))

/-- LINK_REJOIN (R172). -/
def execLinkRejoin (dt : Nat) (l : Link) (s : State) : Host.Outcome State Fault Refusal :=
  .next (s.event dt (linkRejoin l))

/-- HITCH_STATUS: a copy in its vehicle-link mailbox (R139). -/
def execHitchStatus (dt : Nat) (s : State) : Host.Outcome State Fault Refusal :=
  .next (s.event dt (fun s => s.placeMail .vehicle 0x308 (hitchStatusFrame s)))

/-- TRAILER_STATUS: a copy in its vehicle-link mailbox (R155). -/
def execTrailerStatus (dt : Nat) (s : State) : Host.Outcome State Fault Refusal :=
  .next (s.event dt (fun s => s.placeMail .vehicle 0x310 (trailerStatusFrame s)))

end Sys2Proof.Machine
end

