-- ==== Sys2Proof/Machine/Speed.lean ====
section
/-! DEFINITION. Speed Capture (01): pickup edges and the speed sample. -/

namespace Sys2Proof.Machine

/-! ### Capture records -/

/-- A rising edge at a time in µs (R2). -/
def captureEdge (us : Nat) (c : Capture) : Capture :=
  match c.ref with
  | none => { c with ref := some us, count := 0, latest := some us }
  | some _ => { c with count := c.count + 1, latest := some us }

/-- The edge of a pickup line (R2). The radar pickup is not read without RADAR_FITTED (R4). -/
def pickupEdge (p : Pickup) (us : Nat) (s : State) : State :=
  let at_ := 1000 * s.now + us
  match p with
  | .input => { s with speed := { s.speed with capInput := captureEdge at_ s.speed.capInput } }
  | .output => { s with speed := { s.speed with capOutput := captureEdge at_ s.speed.capOutput } }
  | .front => { s with speed := { s.speed with capFront := captureEdge at_ s.speed.capFront } }
  | .radar =>
    if s.build.radarFitted then { s with speed := { s.speed with capRadar := captureEdge at_ s.speed.capRadar } } else s

/-- The reading of a span: scale × pulses / (per × span), truncated and clamped (R3, R4); a span of 0 µs gives a free value
(log 6). -/
def spanReading (scale per top pulses span : Nat) : Nat :=
  if span = 0 then clamp 0 top (Config.readingOfZeroSpan pulses) else clamp 0 top (scale * pulses / (per * span))

/-- A pickup's reading at a speed sample, kept in the record (R3, R4): a new span, a repeat of the previous reading within
250 ms of the latest edge, or silence. -/
def readCapture (now scale per top : Nat) (c : Capture) : Capture :=
  match c.latest with
  | none => { c with ref := none, reading := 0 }
  | some l =>
    if 1 ≤ c.count then
      { c with ref := some l, count := 0, reading := spanReading scale per top c.count (l - c.ref.getD l) }
    else if 1000 * now ≤ l + 250000 then c
    else { c with ref := none, reading := 0 }

/-! ### Engine speed (R6) -/

/-- The Engine Report is judged fresh (R6; DEDUCED, log 19). -/
def reportFresh (s : State) : Bool :=
  s.receives .vehicle &&
    match s.link.engine with
    | some c => decide (s.now ≤ c.arrived + 100)
    | none => decide (s.now < s.start + 100)

/-- ENG of a fresh sample: the latest copy's, clamped; free where no copy has arrived (log 6). -/
def engineSpeed (s : State) : Nat :=
  match s.link.engine with
  | some c => clamp 0 4000 c.val.eng
  | none => clamp 0 4000 (Config.engineSpeedWithoutCopy s.free)

/-! ### The radar check (R8) -/

/-- The radar check moves; the flags say that fault 17 is raised, or reported inactive. -/
def moveRadar (now r vWheel : Nat) (c : RadarCheck) : RadarCheck × Verdict :=
  match c with
  | .absent => (.absent, .quiet)
  | .ok => if r = 0 ∧ 300 < vWheel then (.doubt now, .quiet) else (.ok, .quiet)
  | .doubt t =>
    if 0 < r ∨ vWheel ≤ 300 then (.ok, .quiet)
    else if t + 2000 ≤ now then (.failed none, .raise)
    else (.doubt t, .quiet)
  | .failed t =>
    if r = 0 then (.failed none, .quiet)
    else
      match t with
      | none => (.failed (some now), .quiet)
      | some u => if u + 1000 ≤ now then (.ok, .clear) else (.failed (some u), .quiet)

/-! ### The speed sensor check (R12, R13) -/

/-- The condition of R12: exactly one of the measured shafts is 0 while the other is 150 rpm or more. -/
def silentShaft (tin tout : Nat) : Option Shaft :=
  if tin = 0 ∧ 150 ≤ tout then some .input
  else if tout = 0 ∧ 150 ≤ tin then some .output
  else none

/-- The speed sensor check of a sample (R12), on the measured shafts. -/
def sensorCheck (s : State) (pedal tin tout : Nat) : SpeedState × Verdict :=
  if s.active .speedSensor then
    let since := holdSince s.now (decide (tin ≠ 0) && decide (tout ≠ 0)) s.speed.turningSince
    if passed s.now 500 since then
      ({ s.speed with silent := none, condition := none, turningSince := none }, .clear)
    else ({ s.speed with turningSince := since }, .quiet)
  else
    let armed := decide (s.seq.gear ≠ .neutral) && s.seq.shift.isNone && decide (pedal < 100)
    let cond := if armed then silentShaft tin tout else none
    match cond with
    | none => ({ s.speed with condition := none, turningSince := none }, .quiet)
    | some sh =>
      let since := match s.speed.condition with
        | some (sh', t) => if sh' = sh then t else s.now
        | none => s.now
      if since + 500 ≤ s.now then
        ({ s.speed with condition := none, silent := some sh, turningSince := none }, .raise)
      else ({ s.speed with condition := some (sh, since), turningSince := none }, .quiet)

/-- The substitute of R13, with fault 29 taken as `active`: the shafts this sample publishes. -/
def substitute (g : Gear) (active : Bool) (silent : Option Shaft) (tin tout : Nat) : Nat × Nat :=
  if active && decide (g ≠ .neutral) then
    match silent with
    | some .output => if tout = 0 then (tin, clamp 0 4000 (tin * 256 / ratio g.num)) else (tin, tout)
    | some .input => if tin = 0 then (clamp 0 4000 (tout * ratio g.num / 256), tout) else (tin, tout)
    | none => (tin, tout)
  else (tin, tout)

/-! ### Slip (R10, R11) -/

/-- The raw slip of a valid sample (R10). -/
def rawSlip (vWheel vGround : Nat) : Nat :=
  if vGround < vWheel then (vWheel - vGround) * 1000 / vWheel else 0

/-- slip_f of this sample (R11). -/
def filterSlip (valid frozen : Bool) (slipF slip : Nat) : Nat :=
  if !valid then 0
  else if frozen then slipF
  else ((slipF : Int) + ((slip : Int) - slipF).tdiv 8).toNat

/-! ### The speed sample (R1) -/

/-- A check's verdict on a fault of Speed Capture. -/
def State.report (s : State) (c : FaultCode) (v : Verdict) : State :=
  match v with
  | .quiet => s
  | .raise => s.raise c none
  | .clear => s.reportInactive c

/-- What a publication of the Speed Set brings about at its event: the brake engagement (R110) and the drop of the diff lock
(R117) are judged, and then movement locks an unlocked service line (R186); the order is the model's (DESIGN CHOICE,
log 49). -/
def publishSpeed (s : State) : State :=
  let t := s.judgeBrakeEngagement.judgeDrop
  if t.svc.unlock = .unlocked ∧ t.build.serviceStrap = false ∧ 100 ≤ t.speed.set.vGround then
    returnFromService { t with svc := { t.svc with unlock := .locked, words := [] } }
  else t

/-- The speed sample: the stages of R1. The speed sensor check works on the measured shafts alone, so its outcome is formed
first, and v_wheel is computed from the TOUT the sample publishes (R7); the faults are reported in the order of the
stages. -/
def speedSample (pedal : Nat) (s : State) : State :=
  let c := s.speedCal
  let ci := readCapture s.now 60000000 c.teethInput 4000 s.speed.capInput
  let co := readCapture s.now 60000000 c.teethOutput 4000 s.speed.capOutput
  let cf := readCapture s.now 60000000 c.teethFront 4000 s.speed.capFront
  let cr := if s.build.radarFitted then readCapture s.now 360000000 c.ppm 6000 s.speed.capRadar else s.speed.capRadar
  let r := if s.build.radarFitted then cr.reading else 0
  let fresh := reportFresh s
  let (sens, vSens) := sensorCheck s pedal ci.reading co.reading
  let active29 := match vSens with
    | .raise => true
    | .clear => false
    | .quiet => s.active .speedSensor
  let (tin, tout) := substitute s.seq.gear active29 sens.silent ci.reading co.reading
  let vWheel := clamp 0 6000 (tout * c.w / 1024)
  let (radar, vRadar) := moveRadar s.now r vWheel s.speed.radar
  let radarValid := decide (radar = .ok)
  let vGround := if radarValid then r else vWheel
  let slipValid := s.build.radarFitted && radarValid && decide (100 ≤ vWheel)
  let slipF := filterSlip slipValid s.axle.own.transition s.speed.set.slipF (rawSlip vWheel vGround)
  let t :=
    { s with
      free := if fresh && s.link.engine.isNone then s.free + 1 else s.free
      speed := { sens with
        capInput := ci
        capOutput := co
        capFront := cf
        capRadar := cr
        radar := radar
        stale := !fresh
        set :=
          { tin := tin, tout := tout, fax := cf.reading, eng := if fresh then engineSpeed s else 0
            vWheel := vWheel, vGround := vGround, slipF := slipF, slipValid := slipValid, radarValid := radarValid
            engFresh := fresh } } }
  let u :=
    if fresh then t.reportInactive .engineReportLost
    else if s.speed.stale then t
    else t.raise .engineReportLost none
  publishSpeed ((u.report .radarImplausible vRadar).report .speedSensor vSens)

/-- SPEED_SAMPLE (R1). -/
def execSpeedSample (dt pedal : Nat) (s : State) : Host.Outcome State Fault Refusal :=
  .next (s.event dt (speedSample pedal))

/-- PICKUP_EDGE (R2). -/
def execPickupEdge (dt : Nat) (p : Pickup) (us : Nat) (s : State) : Host.Outcome State Fault Refusal :=
  .next (s.event dt (pickupEdge p us))

end Sys2Proof.Machine
end

