-- ==== Sys2Proof/Machine/Channels.lean ====
section
/-! DEFINITION. The channel step (04, R77 to R84): the sampled currents, the supply monitor, pull-in to hold, the current
check, the idle check, and leaving FAULTED. -/

namespace Sys2Proof.Machine

/-- Every channel record changed. -/
def State.onChans (s : State) (f : Chan → Channel → Channel) : State :=
  { s with chan := { s.chan with channels := s.chan.channels.mapWith f } }

/-- The monitor is NORMAL: the current check and the idle check run (R78, R80). -/
def State.supplyNormal (s : State) : Bool := decide (s.chan.monitor = .normal)

/-! ### The supply monitor (R82, R84) -/

/-- The monitor moves on the reading; the verdict is on fault 5. -/
def moveMonitor (now v : Nat) (m : Monitor) : Monitor × Verdict :=
  match m with
  | .normal => if v < 90 then (.dipping now, .quiet) else (.normal, .quiet)
  | .dipping t =>
    if 90 ≤ v then (.normal, .quiet)
    else if t + 50 ≤ now then (.low, .raise)
    else (.dipping t, .quiet)
  | .low => if 100 ≤ v then (.recovering now, .quiet) else (.low, .quiet)
  | .recovering t =>
    if v < 100 then (.low, .quiet)
    else if t + 500 ≤ now then (.normal, .clear)
    else (.recovering t, .quiet)

/-- A switched channel in HOLD is pulled in again when a dip ends (R84). -/
def repull (now : Nat) (c : Channel) : Channel :=
  if c.state = .hold then { c with state := .pullIn, commanded := 1000, since := now } else c

/-- The supply monitor's stage of the channel step (R78, R82, R84). -/
def monitorStage (volts : Nat) (s : State) : State :=
  let r := moveMonitor s.now (clamp 0 400 volts) s.chan.monitor
  let t := { s with chan := { s.chan with monitor := r.1 } }
  let u :=
    match s.chan.monitor, r.1 with
    | .normal, .dipping _ => t.onChans (fun _ c => { c with faultTimer := none })
    | .dipping _, .normal => t.onChans (fun _ c => repull s.now c)
    | _, _ => t
  u.report .valveSupplyLow r.2

/-! ### Pull-in to hold (R77) -/

/-- A channel in PULL_IN for 150 ms moves to HOLD. -/
def holdStage (now : Nat) (c : Channel) : Channel :=
  if c.state = .pullIn ∧ c.since + 150 ≤ now then { c with state := .hold, commanded := 500, since := now } else c

/-! ### The current check (R78, R79) -/

/-- The threshold of the current check: the larger of 50 mA and 15 % of the command, truncated (R78). -/
def currentThreshold (commanded : Nat) : Nat := max 50 (commanded * 15 / 100)

/-- A channel the current check covers (R78). -/
def currentChecked (c : Channel) : Bool :=
  match c.state with
  | .off | .driving | .pullIn | .hold => true
  | .parked | .faulted => false

/-- The deviation is above the threshold (R78). -/
def deviates (c : Channel) : Bool := decide (currentThreshold c.commanded < dist c.measured c.commanded)

/-- The deviation of a checked channel has lasted 200 ms (R78). -/
def channelFails (now : Nat) (c : Channel) : Bool := currentChecked c && deviates c && passed now 200 c.faultTimer

/-- The current check of one channel (R78, R79). -/
def checkCurrent (now : Nat) (i : Chan) (c : Channel) : Channel :=
  if channelFails now c then
    { c with
      state := .faulted
      commanded := 0
      since := now
      ackSeen := false
      faultTimer := some now
      conditionPresent := true
      raised := some (chanCode i, now) }
  else if currentChecked c then
    { c with faultTimer := if deviates c then some (c.faultTimer.getD now) else none }
  else c

/-- A raise is made for every channel that enters FAULTED (R79); code 26 names the channel's group. -/
def raiseChannel (s : State) (i : Chan) : State :=
  match i with
  | .clutch _ => s.raise .clutchChannel none
  | _ => s.raise .auxChannel (chanGroup i)

/-- The current check's stage: every channel is judged on what the step sampled, then the raises are made in the order of
the channels (R78, R79; DEDUCED, log 16). -/
def currentStage (s : State) : State :=
  if s.supplyNormal then
    let failing := allChans.filter (fun i => channelFails s.now (s.chan.channels.get i))
    failing.foldl raiseChannel (s.onChans (checkCurrent s.now))
  else s

/-! ### The idle check and leaving FAULTED (R80, R81) -/

/-- The idle check of one FAULTED channel (R80). The fault timer is absent only where the supply monitor has left NORMAL (R78),
so that an absent one marks the first step at which it is NORMAL again. A condition that has cleared stays cleared while the
channel waits for its acknowledgement, whatever current is measured then (DEDUCED, log 35). -/
def checkIdle (now : Nat) (c : Channel) : Channel :=
  if c.state = .faulted then
    let timer := if 50 < c.measured ∨ c.faultTimer = none then some now else c.faultTimer
    { c with faultTimer := timer, conditionPresent := c.conditionPresent && !passed now 200 timer }
  else c

/-- A channel of a code has its fault condition present (R80). -/
def conditionOf (code : FaultCode) (p : PerChan Channel) : Bool :=
  allChans.any (fun i => decide (chanCode i = code) && (p.get i).conditionPresent)

/-- The idle check's stage, with the reports that fault 1 or fault 26 is inactive (R80), fault 1 first (DESIGN CHOICE,
log 35). -/
def idleStage (s : State) : State :=
  if s.supplyNormal then
    let t := s.onChans (fun _ c => checkIdle s.now c)
    let u := if conditionOf .clutchChannel t.chan.channels then t else t.reportInactive .clutchChannel
    if conditionOf .auxChannel u.chan.channels then u else u.reportInactive .auxChannel
  else s

/-- A channel leaves FAULTED once its condition has cleared and ack_seen is set; its state follows the output rule (R81). Its
fault timer becomes absent, as no deviation has begun (R70; DEDUCED, log 32); ack_seen is cleared at the next entry (R79). -/
def leaveFaulted (s : State) (i : Chan) (c : Channel) : Channel :=
  if c.state = .faulted ∧ c.conditionPresent = false ∧ c.ackSeen then
    { applyRule s i { c with state := .off, faultTimer := none } with since := s.now }
  else c

/-! ### The channel step -/

/-- The channel step: the stages of R78; every record is then kept for the service line (R70). -/
def channelStep (amps : PerChan Nat) (volts : Nat) (s : State) : State :=
  let t := s.onChans (fun i c => { c with measured := clamp 0 1600 (amps.get i) })
  let u := currentStage ((monitorStage volts t).onChans (fun _ c => holdStage s.now c))
  let v := idleStage u
  let w := v.onChans (leaveFaulted v)
  { w with chan := { w.chan with snapshot := w.chan.channels } }

/-- CHANNEL_STEP (R78). -/
def execChannelStep (dt : Nat) (amps : PerChan Nat) (volts : Nat) (s : State) : Host.Outcome State Fault Refusal :=
  .next (s.event dt (channelStep amps volts))

end Sys2Proof.Machine
end

