-- ==== Sys2Proof/Machine/Memory.lean ====
section
/-! DEFINITION. The nonvolatile memory of the store (05, R87, R99): bytes and pages, the codes and payloads of records, the
headers, and what a scan reads. The memory is a list of cells in one canonical form: addresses strictly rising, no byte
that is erased. Byte `b` of slot `k` of page `p` has the address 1024 p + 16 k + b (DESIGN CHOICE, log 7). -/

namespace Sys2Proof.Machine

/-! ### Bytes of the memory -/

/-- What an erased byte reads as (R99). -/
def erasedByte : Byte := 0xFF

/-- The byte at an address; an unlisted one is erased. -/
def Memory.read (m : List Host.Cell) (a : Nat) : Byte :=
  match m with
  | [] => erasedByte
  | (k, b) :: rest => if k = a then b else Memory.read rest a

/-- One byte changed, in canonical form. -/
def Memory.write (m : List Host.Cell) (a : Nat) (b : Byte) : List Host.Cell :=
  match m with
  | [] => if b = erasedByte then [] else [(a, b)]
  | (k, c) :: rest =>
    if a < k then (if b = erasedByte then (k, c) :: rest else (a, b) :: (k, c) :: rest)
    else if a = k then (if b = erasedByte then rest else (a, b) :: rest)
    else (k, c) :: Memory.write rest a b

/-- Bytes written from an address on. -/
def Memory.writeBytes (m : List Host.Cell) (a : Nat) (bs : List Byte) : List Host.Cell :=
  match bs with
  | [] => m
  | b :: rest => Memory.writeBytes (Memory.write m a b) (a + 1) rest

/-- Bytes read from an address on. -/
def Memory.readBytes (m : List Host.Cell) (a k : Nat) : List Byte :=
  match k with
  | 0 => []
  | k + 1 => Memory.read m a :: Memory.readBytes m (a + 1) k

/-- Every listed address is above a bound, strictly rising, and no listed byte is erased. -/
def Memory.wfFrom (lo : Nat) (m : List Host.Cell) : Bool :=
  match m with
  | [] => true
  | (k, b) :: rest => decide (lo ≤ k) && decide (b ≠ erasedByte) && Memory.wfFrom (k + 1) rest

/-- The canonical form. -/
def Memory.wf (m : List Host.Cell) : Bool := Memory.wfFrom 0 m

/-- The first address of a page. -/
def pageBase (p : Page) : Nat :=
  match p with
  | .p0 => 0
  | .p1 => 1024

/-- The first address of a slot (R99). -/
def slotBase (p : Page) (slot : Nat) : Nat := pageBase p + 16 * slot

/-- The 16 bytes of a slot (R99). -/
def slotBytes (m : List Host.Cell) (p : Page) (slot : Nat) : List Byte := Memory.readBytes m (slotBase p slot) 16

/-- A page whose every byte is erased. -/
def Memory.erasePage (m : List Host.Cell) (p : Page) : List Host.Cell :=
  m.filter (fun c => decide (c.1 < pageBase p) || decide (pageBase p + 1024 ≤ c.1))

/-- The other page. -/
def Page.other (p : Page) : Page :=
  match p with
  | .p0 => .p1
  | .p1 => .p0

/-! ### Records (R87, R99) -/

/-- The key of a record. -/
def CalRecord.key (r : CalRecord) : Key :=
  match r with
  | .clutch c _ => .clutch c
  | .hitch _ => .hitch
  | .trailer _ => .trailer
  | .speed _ => .speed
  | .serviceKey _ => .serviceKey

/-- The code of a key (R87). -/
def Key.code (k : Key) : Nat :=
  match k with
  | .clutch .cf => 1 | .clutch .cv => 2 | .clutch .c1 => 3 | .clutch .c2 => 4 | .clutch .c3 => 5 | .clutch .c4 => 6
  | .clutch .cl => 7 | .clutch .cm => 8 | .clutch .ch => 9
  | .hitch => 10 | .trailer => 11 | .speed => 12 | .serviceKey => 13

/-- The thirteen keys in key order (R87). -/
def allKeys : List Key := allClutches.map .clutch ++ [.hitch, .trailer, .speed, .serviceKey]

/-- The ten bytes of a payload (R87, R99; the order and widths of the fields are a DESIGN CHOICE, log 7). -/
def payloadBytes (r : CalRecord) : List Byte :=
  match r with
  | .clutch _ v => leBytes 2 v.tFill ++ leBytes 2 v.pKiss ++ leBytes 2 v.i0 ++ leBytes 2 v.iFull ++ leBytes 2 (twos 16 v.adapt)
  | .hitch v => leBytes 2 v.adcLow ++ leBytes 2 v.adcHigh ++ leBytes 2 v.dFs ++ leBytes 2 v.iThr ++ leBytes 2 v.iMax
  | .trailer v => leBytes 2 v.kTb ++ leBytes 2 v.pLead ++ leBytes 2 v.pAssist ++ leBytes 2 v.iLo ++ leBytes 2 v.iHi
  | .speed v =>
    leBytes 2 v.w ++ leBytes 2 v.ppm ++ leBytes 1 v.teethInput ++ leBytes 1 v.teethOutput ++ leBytes 1 v.teethFront
      ++ leBytes 2 v.kFr ++ leBytes 1 v.limitPct
  | .serviceKey v => leBytes 2 v.w0 ++ leBytes 2 v.w1 ++ leBytes 2 v.w2 ++ leBytes 2 v.w3 ++ leBytes 2 v.w4

/-- The byte that brings the sum of some bytes to 0x5A modulo 256 (R99). -/
def checkByte (bs : List Byte) : Byte := 0x5A - bs.foldl (· + ·) 0

/-- Bytes followed by their check byte. -/
def withCheck (bs : List Byte) : List Byte := bs ++ [checkByte bs]

/-- The sum of some bytes is 0x5A modulo 256 (R99). -/
def checks (bs : List Byte) : Bool := decide (bs.foldl (· + ·) 0 = (0x5A : Byte))

/-- The 16 bytes of a record (R99). A sequence number past 0xFFFFFFFF is written modulo 2 ^ 32, while `nextSeq` counts on
(DESIGN CHOICE, log 36). -/
def recordBytes (r : CalRecord) (seq : Nat) : List Byte :=
  withCheck (leBytes 1 r.key.code ++ leBytes 4 seq ++ payloadBytes r)

/-- A value within a range. -/
def within (lo hi x : Nat) : Bool := decide (lo ≤ x) && decide (x ≤ hi)

/-- Every field of a payload within its range (R87). -/
def CalRecord.inRange (r : CalRecord) : Bool :=
  match r with
  | .clutch _ v =>
    within 40 400 v.tFill && within 100 800 v.pKiss && within 150 450 v.i0 && within 600 1200 v.iFull
      && decide (-40 ≤ v.adapt) && decide (v.adapt ≤ 40) && decide (v.adapt % 4 = 0)
  | .hitch v =>
    within 0 4095 v.adcLow && within (v.adcLow + 100) 4095 v.adcHigh && within 500 4095 v.dFs && within 200 600 v.iThr
      && within v.iThr 1500 v.iMax
  | .trailer v =>
    within 0 255 v.kTb && within 0 200 v.pLead && within 0 300 v.pAssist && within 100 600 v.iLo && within 700 1500 v.iHi
  | .speed v =>
    within 256 4095 v.w && within 20 2000 v.ppm && within 8 120 v.teethInput && within 8 120 v.teethOutput
      && within 8 120 v.teethFront && within 200 320 v.kFr && within 30 100 v.limitPct
  | .serviceKey _ => true

/-- The payload of a key as ten bytes spell it. -/
def decodePayload (k : Key) (bs : List Byte) : CalRecord :=
  let n := leNat bs
  let word (i : Nat) : Nat := field n (16 * i) 16
  match k with
  | .clutch c =>
    .clutch c { tFill := word 0, pKiss := word 1, i0 := word 2, iFull := word 3, adapt := ofTwos 16 (word 4) }
  | .hitch => .hitch { adcLow := word 0, adcHigh := word 1, dFs := word 2, iThr := word 3, iMax := word 4 }
  | .trailer => .trailer { kTb := word 0, pLead := word 1, pAssist := word 2, iLo := word 3, iHi := word 4 }
  | .speed =>
    .speed
      { w := word 0, ppm := word 1, teethInput := field n 32 8, teethOutput := field n 40 8, teethFront := field n 48 8
        kFr := field n 56 16, limitPct := field n 72 8 }
  | .serviceKey => .serviceKey { w0 := word 0, w1 := word 1, w2 := word 2, w3 := word 3, w4 := word 4 }

/-- The valid record a slot's bytes hold, with its sequence number (R99). -/
def decodeRecord (bs : List Byte) : Option (CalRecord × Nat) :=
  match allKeys.find? (fun k => decide (k.code = leNat (bs.take 1))) with
  | none => none
  | some k =>
    let r := decodePayload k ((bs.drop 5).take 10)
    if checks bs && r.inRange then some (r, leNat ((bs.drop 1).take 4)) else none

/-- A slot is used: a byte of it is not erased (R99). -/
def slotUsed (m : List Host.Cell) (p : Page) (slot : Nat) : Bool :=
  (slotBytes m p slot).any (fun b => decide (b ≠ erasedByte))

/-! ### Headers (R99; the places of the marks are a DESIGN CHOICE, log 7) -/

/-- The state of a page. -/
inductive PageState where
  | spent
  | active (seq : Nat)
  | receiving
  | erased
  deriving DecidableEq, Repr

/-- The bytes of slot 0 of a page: RECEIVING mark, ACTIVE mark, page sequence, check byte, SPENT mark, rest unused. -/
def headerState (h : List Byte) : PageState :=
  let mark (i : Nat) : Byte := h.getD i erasedByte
  if mark 7 ≠ erasedByte then .spent
  else if mark 1 = 0 ∧ checks ((h.drop 1).take 6) then .active (leNat ((h.drop 2).take 4))
  else if mark 0 ≠ erasedByte ∨ mark 1 ≠ erasedByte then .receiving
  else .erased

/-- The state of a page as its header reads (R99). -/
def pageState (m : List Host.Cell) (p : Page) : PageState := headerState (slotBytes m p 0)

/-- The page sequence of an ACTIVE page, 0 of another. -/
def pageSequence (m : List Host.Cell) (p : Page) : Nat :=
  match pageState m p with
  | .active n => n
  | _ => 0

/-- The in-use page (R99). -/
def chooseInUse (m : List Host.Cell) : Option Page :=
  match pageState m .p0, pageState m .p1 with
  | .active a, .active b => if a < b then some .p1 else some .p0
  | .active _, _ => some .p0
  | _, .active _ => some .p1
  | _, _ => none

/-- The header of a page with some of its bytes programmed. -/
def headerWith (m : List Host.Cell) (p : Page) (first : Nat) (bs : List Byte) : List Byte :=
  let h := slotBytes m p 0
  h.take first ++ bs ++ h.drop (first + bs.length)

/-- The header with the RECEIVING mark programmed. -/
def receivingHeader (m : List Host.Cell) (p : Page) : List Byte := headerWith m p 0 [0]

/-- The header with the ACTIVE mark, a page sequence (modulo 2 ^ 32; DESIGN CHOICE, log 36) and the check byte programmed. -/
def activeHeader (m : List Host.Cell) (p : Page) (seq : Nat) : List Byte := headerWith m p 1 (withCheck (0 :: leBytes 4 seq))

/-- The header with the SPENT mark programmed. -/
def spentHeader (m : List Host.Cell) (p : Page) : List Byte := headerWith m p 7 [0]

/-! ### What a scan reads (R100) -/

/-- The later of two records of one key: the higher sequence number; of equal ones the record of the later slot. -/
def laterRecord (best : Option (CalRecord × Nat)) (r : CalRecord × Nat) : Option (CalRecord × Nat) :=
  match best with
  | none => some r
  | some b => if b.2 ≤ r.2 then some r else some b

/-- The valid records of a page, in slot order. -/
def pageRecords (m : List Host.Cell) (p : Page) : List (CalRecord × Nat) :=
  ((List.range 63).map (· + 1)).filterMap (fun k => decodeRecord (slotBytes m p k))

/-- The record a scan takes for a key. -/
def latestRecord (l : List (CalRecord × Nat)) (k : Key) : Option (CalRecord × Nat) :=
  (l.filter (fun r => decide (r.1.key = k))).foldl laterRecord none

/-- The slot after the highest-numbered used slot, 64 when slot 63 is used (R99). -/
def firstFree (m : List Host.Cell) (p : Page) : Nat :=
  ((List.range 63).map (· + 1)).foldl (fun best k => if slotUsed m p k then k + 1 else best) 1

/-- A record becomes its key's entry of the calibration in use (R87, R102). -/
def CalInUse.put (c : CalInUse) (r : CalRecord) (seq : Nat) : CalInUse :=
  match r with
  | .clutch k v => { c with clutches := c.clutches.set k (some { val := v, seq := seq }) }
  | .hitch v => { c with hitch := some { val := v, seq := seq } }
  | .trailer v => { c with trailer := some { val := v, seq := seq } }
  | .speed v => { c with speed := some { val := v, seq := seq } }
  | .serviceKey v => { c with serviceKey := some { val := v, seq := seq } }

/-- The calibration in use that the records of a page give (R100). -/
def scanCal (l : List (CalRecord × Nat)) : CalInUse :=
  allKeys.foldl
    (fun c k =>
      match latestRecord l k with
      | some r => c.put r.1 r.2
      | none => c) emptyCal

/-- The preparing operation a scan calls for (R100). -/
def preparing (m : List Host.Cell) : Option StoreOp :=
  match pageState m .p0, pageState m .p1 with
  | .active a, .active b => some (.prepareSpent (if a < b then .p0 else .p1) false)
  | .active _, _ => none
  | _, .active _ => none
  | _, _ => some (.formatErase false)

/-- How long an operation takes (R102, R103), in ms. -/
def StoreOp.length (o : StoreOp) : Nat :=
  match o with
  | .compactErase _ _ | .formatErase _ => 40
  | .writeSlot _ _ _ _ | .writeVoid _ _ _ | .compactReceiving _ _ | .compactCopy _ _ _ _ _ | .compactVoid _ _ _ _
  | .compactActive _ _ _ | .compactSpent _ _ | .prepareSpent _ _ | .formatReceiving _ | .formatActive _ => 3

/-- The store as the scan of a memory leaves it at a start (R88, R100, R105). -/
def scanStore (now : Nat) (m : List Host.Cell) : StoreState :=
  let page := chooseInUse m
  let recs := match page with
    | some p => pageRecords m p
    | none => []
  let cal := scanCal recs
  let offsets : PerClutch Int :=
    cal.clutches.mapWith (fun _ (e : Option (Stored ClutchCal)) => match e with
      | some r => r.val.adapt
      | none => 0)
  let op := preparing m
  { mem := m
    cal := cal
    working := offsets
    saved := offsets
    inUse := page
    nextSeq := recs.foldl (fun n r => max n (r.2 + 1)) 1
    nextFree := match page with
      | some p => firstFree m p
      | none => 64
    queue := []
    inFlight := none
    op := op
    opEnd := match op with
      | some o => now + o.length
      | none => now
    oil := none
    oilBadSince := none
    oilGoodSince := none
    watch := none }

end Sys2Proof.Machine
end

