-- ==== Sys2Proof/Machine/Store.lean ====
section
/-! DEFINITION. The calibration store and adaptation (05, R87 to R93 and R99 to R105): handing and taking writes, the
programming operations and their ends, compaction, the preparing operations, the oil temperature, the bite watch and the
working offsets. -/

namespace Sys2Proof.Machine

/-- The store's records changed. -/
def State.onStore (s : State) (f : StoreState → StoreState) : State := { s with store := f s.store }

/-! ### Latest payloads and offsets (R88, R93, R101) -/

/-- The entry of a key in the calibration in use, its built-in default included (R87). -/
def State.calEntry (s : State) (k : Key) : Option CalRecord :=
  match k with
  | .clutch c => (s.clutchCal c).map (.clutch c)
  | .hitch => s.hitchCal.map .hitch
  | .trailer => some (.trailer s.trailerCal)
  | .speed => some (.speed s.speedCal)
  | .serviceKey => some (.serviceKey s.serviceKey)

/-- The latest payload of a key: its queued entry, its write in flight, its entry in use (R101). -/
def State.latestPayload (s : State) (k : Key) : Option CalRecord :=
  match s.store.queue.find? (fun w => decide (w.record.key = k)) with
  | some w => some w.record
  | none =>
    match s.store.inFlight with
    | some (w, _) => if w.record.key = k then some w.record else s.calEntry k
    | none => s.calEntry k

/-- The latest payload of a clutch key. -/
def State.latestClutch (s : State) (c : Clutch) : Option ClutchCal :=
  match s.latestPayload (.clutch c) with
  | some (.clutch _ v) => some v
  | _ => none

/-- The latest payload of HITCH. -/
def State.latestHitch (s : State) : Option HitchCal :=
  match s.latestPayload .hitch with
  | some (.hitch v) => some v
  | _ => none

/-- The effective fill time of a clutch (R88). -/
def State.effectiveFill (s : State) (c : Clutch) : Nat :=
  match s.clutchCal c with
  | some v => (clampZ 40 400 ((v.tFill : Int) + s.store.working.get c)).toNat
  | none => 400

/-! ### Ends of a write (R102) -/

/-- The saved offset follows a payload handed (R88). -/
def StoreState.savedFrom (r : CalRecord) (t : StoreState) : StoreState :=
  match r with
  | .clutch c v => { t with saved := t.saved.set c v.adapt }
  | _ => t

/-- A dropped clutch write returns the saved offset, and the working offset with it when a run handed the write (R102). -/
def restoreOffsets (w : Write) (s : State) : State :=
  match w.record with
  | .clutch c _ =>
    let a : Int := match s.latestClutch c with
      | some v => v.adapt
      | none => 0
    s.onStore (fun t =>
      { t with
        saved := t.saved.set c a
        working := if w.fromRun then t.working.set c a else t.working })
  | _ => s

/-- A run that waits in WRITE for this write ends (R97). -/
def endRunOf (w : Write) (reason : Option RunReason) (s : State) : State :=
  if w.fromRun ∧ s.run.phase = .write then s.endRun reason else s

/-- The write in flight is dropped: offsets return, fault 28 is raised, a waiting run fails with STORE (R102). -/
def dropWrite (s : State) : State :=
  match s.store.inFlight with
  | none => s
  | some (w, _) =>
    let t := restoreOffsets w (s.onStore (fun t => { t with inFlight := none }))
    endRunOf w (some .store) (t.raise .storeWrite none)

/-- New conversion values reach the channels that use a key (R75, R76). -/
def applyConversion (k : Key) (s : State) : State :=
  match k with
  | .clutch c => s.reconvert (.clutch c)
  | .trailer => s.reconvert .trailerControl
  | _ => s

/-- The Uncalibrated state has ended: GEAR moves from PART to its target (R17, R104). -/
def endUncalibrated (s : State) : State := if s.holder .gear = .part then s.setHolder .gear (s.target .gear) else s

/-- The write in flight completes (R97, R102, R104). -/
def completeWrite (seq : Nat) (s : State) : State :=
  match s.store.inFlight with
  | none => s
  | some (w, _) =>
    let t := s.onStore (fun t => { t with inFlight := none, cal := t.cal.put w.record seq })
    let u := endRunOf w none ((applyConversion w.record.key t).reportInactive .storeWrite)
    if s.uncalibrated && !u.uncalibrated then endUncalibrated u else u

/-! ### Starting operations (R100, R102, R103) -/

/-- An operation begins. -/
def State.startOp (s : State) (o : StoreOp) : State :=
  s.onStore (fun t => { t with op := some o, opEnd := s.now + o.length })

/-- No operation runs any longer. -/
def State.noOp (s : State) : State := s.onStore (fun t => { t with op := none })

/-- The write in flight goes to the next free slot, or first calls for a compaction; with no page in use it is dropped
(R100, R102). -/
def startWrite (s : State) : State :=
  match s.store.inFlight, s.store.inUse with
  | none, _ => s
  | some _, none => dropWrite s
  | some (w, second), some p =>
    if s.store.nextFree ≤ 63 then
      let slot := s.store.nextFree
      let seq := s.store.nextSeq
      (s.onStore (fun t => { t with nextFree := slot + 1, nextSeq := seq + 1 })).startOp
        (.writeSlot p slot (recordBytes w.record seq) second)
    else s.startOp (.compactErase p.other false)

/-- The idle store takes the entry at the head of the queue at once (R101); one dropped at once is followed by the next. -/
def takeNextUpTo (n : Nat) (s : State) : State :=
  match n with
  | 0 => s
  | n + 1 =>
    match s.store.op, s.store.inFlight, s.store.queue with
    | none, none, w :: rest =>
      takeNextUpTo n (startWrite (s.onStore (fun t => { t with queue := rest, inFlight := some (w, false) })))
    | _, _, _ => s

/-- The idle store takes queued entries. -/
def State.takeNext (s : State) : State := takeNextUpTo s.store.queue.length s

/-- A write joins the queue, or replaces in place the queued entry of its key (R101). An entry that a calibration run handed
stays the run's write when its payload is replaced (DESIGN CHOICE, log 47). -/
def enqueue (w : Write) (q : List Write) : List Write :=
  match q with
  | [] => [w]
  | x :: rest =>
    if x.record.key = w.record.key then { record := w.record, fromRun := x.fromRun || w.fromRun } :: rest
    else x :: enqueue w rest

/-- A write is handed to the store (R101). -/
def State.handWrite (s : State) (w : Write) : State :=
  (s.onStore (fun t => ({ t with queue := enqueue w t.queue }).savedFrom w.record)).takeNext

/-! ### Ends of operations -/

/-- The bytes a slot holds after a program that meant some bytes. -/
def programmed (meant : List Byte) (rb : ReadBack) : List Byte :=
  match rb with
  | .asMeant => meant
  | .other bs => (bs ++ List.replicate 16 erasedByte).take 16

/-- A program of a slot ends: the memory holds what the read-back finds, and whether that is what was meant (R102). -/
def programSlot (p : Page) (slot : Nat) (meant : List Byte) (rb : ReadBack) (s : State) : State × Bool :=
  (s.onStore (fun t => { t with mem := Memory.writeBytes t.mem (slotBase p slot) (programmed meant rb) }),
   decide (programmed meant rb = meant))

/-- An erase of a page ends: the memory holds what the read-back finds, and whether every byte is erased (R103). -/
def eraseEnds (p : Page) (rb : ReadBack) (s : State) : State × Bool :=
  match rb with
  | .asMeant => (s.onStore (fun t => { t with mem := Memory.erasePage t.mem p }), true)
  | .other bs =>
    (s.onStore (fun t => { t with mem := Memory.writeBytes (Memory.erasePage t.mem p) (pageBase p) (bs.take 1024) }),
     (bs.take 1024).all (fun b => decide (b = erasedByte)))

/-- A compaction is abandoned: fault 28, the write in flight dropped (R103). The operation that follows, if any, is the void
of a copy. -/
def abandon (next : Option StoreOp) (s : State) : State :=
  match next with
  | some o => (dropWrite s).startOp o
  | none => (dropWrite s.noOp).takeNext

/-- The records in use that a compaction copies, in key order (R103). -/
def recordsInUse (s : State) : List (CalRecord × Nat) :=
  let c := s.store.cal
  (allClutches.filterMap (fun k => (c.clutches.get k).map (fun r => (CalRecord.clutch k r.val, r.seq))))
    ++ (c.hitch.map (fun r => (CalRecord.hitch r.val, r.seq))).toList
    ++ (c.trailer.map (fun r => (CalRecord.trailer r.val, r.seq))).toList
    ++ (c.speed.map (fun r => (CalRecord.speed r.val, r.seq))).toList
    ++ (c.serviceKey.map (fun r => (CalRecord.serviceKey r.val, r.seq))).toList

/-- The next copy of a compaction, or its ACTIVE mark when all are made (R103). -/
def nextCopy (p : Page) (slot : Nat) (rest : List (CalRecord × Nat)) (s : State) : State :=
  match rest with
  | [] => s.startOp (.compactActive p slot false)
  | r :: more => s.startOp (.compactCopy p slot (recordBytes r.1 r.2) more false)

/-- The sequence number of a record's bytes (R99). -/
def recordSeq (bs : List Byte) : Nat := leNat ((bs.drop 1).take 4)

/-- A slot program ends (R102, R103). -/
def slotProgramEnds (rb : ReadBack) (s : State) : State :=
  match s.store.op with
  | some (.writeSlot p slot bytes second) =>
    match programSlot p slot bytes rb s with
    | (t, true) => (completeWrite (recordSeq bytes) t.noOp).takeNext
    | (t, false) =>
      if second then (dropWrite t).startOp (.writeVoid p slot false)
      else
        (t.onStore (fun u => { u with inFlight := u.inFlight.map (fun w => (w.1, true)) })).startOp (.writeVoid p slot true)
  | some (.compactCopy p slot bytes rest second) =>
    match programSlot p slot bytes rb s with
    | (t, true) => nextCopy p (slot + 1) rest t
    | (t, false) =>
      if second then abandon (some (.compactVoid p slot none rest)) t
      else t.startOp (.compactVoid p slot (some bytes) rest)
  | _ => s

/-- The key byte of a slot is programmed to 0x00 (R102). -/
def voidSlot (p : Page) (slot : Nat) (s : State) : State :=
  s.onStore (fun t => { t with mem := Memory.write t.mem (slotBase p slot) 0 })

/-- A void program ends: the retry goes to the next free slot (R102, R103). -/
def voidProgramEnds (s : State) : State :=
  match s.store.op with
  | some (.writeVoid p slot retry) =>
    let t := (voidSlot p slot s).noOp
    if retry then startWrite t else t.takeNext
  | some (.compactVoid p slot retry rest) =>
    let t := (voidSlot p slot s).noOp
    match retry with
    | some bytes => t.startOp (.compactCopy p (slot + 1) bytes rest true)
    | none => t.takeNext
  | _ => s

/-- Page 0 cannot be formatted: fault 28, and no page is in use until the next scan (R100). -/
def formatFails (s : State) : State := ((s.noOp.onStore (fun t => { t with inUse := none })).raise .storeWrite none).takeNext

/-- A page erase ends (R100, R103). -/
def pageEraseEnds (rb : ReadBack) (s : State) : State :=
  match s.store.op with
  | some (.compactErase p second) =>
    match eraseEnds p rb s with
    | (t, true) => t.startOp (.compactReceiving p false)
    | (t, false) => if second then abandon none t else t.startOp (.compactErase p true)
  | some (.formatErase second) =>
    match eraseEnds .p0 rb s with
    | (t, true) => t.startOp (.formatReceiving false)
    | (t, false) => if second then formatFails t else t.startOp (.formatErase true)
  | _ => s

/-- A header program ends: marks are made once more in place, and the operation that follows begins (R100, R103). What is
meant is the header as it reads when the program ends, with the mark set, at the second try as well (DESIGN CHOICE, log 37). -/
def headerProgramEnds (rb : ReadBack) (s : State) : State :=
  let m := s.store.mem
  match s.store.op with
  | some (.compactReceiving p second) =>
    match programSlot p 0 (receivingHeader m p) rb s with
    | (t, true) => nextCopy p 1 (recordsInUse t) t
    | (t, false) => if second then abandon none t else t.startOp (.compactReceiving p true)
  | some (.compactActive p next second) =>
    match programSlot p 0 (activeHeader m p (pageSequence m p.other + 1)) rb s with
    | (t, true) =>
      (t.onStore (fun u => { u with inUse := some p, nextFree := next })).startOp (.compactSpent p.other false)
    | (t, false) => if second then abandon none t else t.startOp (.compactActive p next true)
  | some (.compactSpent p second) =>
    match programSlot p 0 (spentHeader m p) rb s with
    | (t, true) => startWrite t.noOp
    | (t, false) => if second then startWrite (t.noOp.raise .storeWrite none) else t.startOp (.compactSpent p true)
  | some (.prepareSpent p second) =>
    match programSlot p 0 (spentHeader m p) rb s with
    | (t, true) => t.noOp.takeNext
    | (t, false) => if second then (t.noOp.raise .storeWrite none).takeNext else t.startOp (.prepareSpent p true)
  | some (.formatReceiving second) =>
    match programSlot .p0 0 (receivingHeader m .p0) rb s with
    | (t, true) => t.startOp (.formatActive false)
    | (t, false) => if second then formatFails t else t.startOp (.formatReceiving true)
  | some (.formatActive second) =>
    match programSlot .p0 0 (activeHeader m .p0 1) rb s with
    | (t, true) => (t.noOp.onStore (fun u => { u with inUse := some .p0, nextFree := 1 })).takeNext
    | (t, false) => if second then formatFails t else t.startOp (.formatActive true)
  | _ => s

/-- The end of an operation has come (R102, R103; DESIGN CHOICE, log 3). -/
def State.opDone (s : State) : Bool := decide (s.store.opEnd ≤ s.now)

/-- The operation under way ends, whichever it is. -/
def operationEnds (rb : ReadBack) (s : State) : State :=
  match s.store.op with
  | none => s
  | some o =>
    match o with
    | .writeSlot _ _ _ _ | .compactCopy _ _ _ _ _ => slotProgramEnds rb s
    | .writeVoid _ _ _ | .compactVoid _ _ _ _ => voidProgramEnds s
    | .compactErase _ _ | .formatErase _ => pageEraseEnds rb s
    | .compactReceiving _ _ | .compactActive _ _ _ | .compactSpent _ _ | .prepareSpent _ _ | .formatReceiving _
    | .formatActive _ => headerProgramEnds rb s

/-- The store is drained: no queued write, no write, compaction or preparing operation in flight (R105). -/
def State.drained (s : State) : Bool := s.store.queue.isEmpty && s.store.inFlight.isNone && s.store.op.isNone

/-- The store goes on until it is drained, before the scan of a Soft restart (R105); each operation takes the next read-back
given, and finds what it meant when none is left. -/
def drainUpTo (n : Nat) (rbs : List ReadBack) (s : State) : State :=
  match n with
  | 0 => s
  | n + 1 =>
    if s.drained then s
    else
      match rbs with
      | [] => drainUpTo n [] (operationEnds .asMeant s)
      | rb :: rest => drainUpTo n rest (operationEnds rb s)

/-- The drain of a Soft restart (R105). 4096 operations are more than 13 queued writes and their compactions can take. -/
def drain (rbs : List ReadBack) (s : State) : State := drainUpTo 4096 rbs s

/-! ### Working offsets (R92, R93) -/

/-- A write of a clutch key with adapt_offset replaced by the working offset (R93). -/
def handOffset (c : Clutch) (s : State) : State :=
  match s.latestClutch c with
  | some v => s.handWrite { record := .clutch c { v with adapt := s.store.working.get c }, fromRun := false }
  | none => s

/-- A write is handed for every clutch whose working offset differs from its saved offset, in key order (R93). -/
def handOffsets (s : State) : State :=
  allClutches.foldl (fun s c => if s.store.working.get c ≠ s.store.saved.get c then handOffset c s else s) s

/-- A working offset changes; 12 ms or more from the saved offset hands a write (R93). -/
def changeWorking (c : Clutch) (v : Int) (s : State) : State :=
  let t := s.onStore (fun t => { t with working := t.working.set c v })
  if t.store.working.get c ≠ s.store.working.get c ∧ 12 ≤ (v - t.store.saved.get c).natAbs then handOffset c t else t

/-! ### The oil temperature (R89) and adaptation (R90 to R92) -/

/-- The oil timer (R89). Both counts of 1000 ms begin at a sample, after a start as well (R105; DEDUCED, log 56). -/
def oilTimer (temp : Int) (s : State) : State :=
  let good := decide (-40 ≤ temp) && decide (temp ≤ 150)
  let r := holdCheck s.now (s.active .oilTemperature) (!good) good 1000 1000
    { bad := s.store.oilBadSince, good := s.store.oilGoodSince }
  let t := s.onStore (fun t =>
    { t with oil := if good then some temp else t.oil, oilBadSince := r.1.bad, oilGoodSince := r.1.good })
  t.report .oilTemperature r.2

/-- Adaptation is open (R90). -/
def State.adaptationOpen (s : State) : Bool :=
  (match s.store.oil with
   | some t => decide (40 ≤ t) && decide (t ≤ 90)
   | none => false) && !s.active .oilTemperature && !s.active .speedSensor && !s.runInProgress

/-- The bite watch starts at the fill-end step (R91). -/
def startWatch (c : Clutch) (fillEnd tin : Nat) (s : State) : State :=
  s.onStore (fun t => { t with watch := some { clutch := c, fillEnd := fillEnd, refTin := tin, bite := none, result := none } })

/-- A TIN handed to the watch: the first one 20 rpm or more below the reference is the bite (R91). -/
def feedWatch (tin : Nat) (s : State) : State :=
  s.onStore (fun t =>
    { t with watch := t.watch.map (fun w =>
        if w.bite.isNone && decide (tin + 20 ≤ w.refTin) then { w with bite := some (s.now - w.fillEnd) } else w) })

/-- The change of the working offset that a watch's result calls for (R91, R92). -/
def biteResult (lock fault29 : Bool) (bite : Option Nat) : Int :=
  if lock then
    match bite with
    | some t => if t ≤ 20 then -4 else if t ≤ 60 then 0 else 4
    | none => 4
  else if fault29 then 0 else 4

/-- The watch closes where OVERLAP ends (R91). -/
def closeWatch (lock : Bool) (s : State) : State :=
  s.onStore (fun t =>
    { t with watch := t.watch.map (fun w => { w with result := some (biteResult lock (s.active .speedSensor) w.bite) }) })

/-- The result of a watch is applied to an eligible shift at the end of FINISH, or discarded (R92). -/
def adaptationOutcome (eligible : Bool) (s : State) : State :=
  match s.store.watch with
  | none => s
  | some w =>
    let t := s.onStore (fun t => { t with watch := none })
    match w.result with
    | some d => if eligible then changeWorking w.clutch (clampZ (-40) 40 (t.store.working.get w.clutch + d)) t else t
    | none => t

/-! ### The commands of the store -/

/-- OIL_TIMER (R89). -/
def execOilTimer (dt : Nat) (temp : Int) (s : State) : Host.Outcome State Fault Refusal := .next (s.event dt (oilTimer temp))

/-- SLOT_PROGRAM_COMPLETE (R102). -/
def execSlotProgramComplete (dt : Nat) (rb : ReadBack) (s : State) : Host.Outcome State Fault Refusal :=
  .next (s.event dt (fun s => if s.opDone then slotProgramEnds rb s else s))

/-- VOID_PROGRAM_COMPLETE (R102). -/
def execVoidProgramComplete (dt : Nat) (s : State) : Host.Outcome State Fault Refusal :=
  .next (s.event dt (fun s => if s.opDone then voidProgramEnds s else s))

/-- PAGE_ERASE_COMPLETE (R103). -/
def execPageEraseComplete (dt : Nat) (rb : ReadBack) (s : State) : Host.Outcome State Fault Refusal :=
  .next (s.event dt (fun s => if s.opDone then pageEraseEnds rb s else s))

/-- HEADER_PROGRAM_COMPLETE (R103). -/
def execHeaderProgramComplete (dt : Nat) (rb : ReadBack) (s : State) : Host.Outcome State Fault Refusal :=
  .next (s.event dt (fun s => if s.opDone then headerProgramEnds rb s else s))

end Sys2Proof.Machine
end

