-- ==== Sys2Proof/Machine/RunStep.lean ====
section
/-! DEFINITION. The calibration run (05, R94 to R98): the judgement of CAL_RUN and CAL_ABORT, and the run step. -/

namespace Sys2Proof.Machine

/-- The run record changed. -/
def State.onRun (s : State) (f : Run → Run) : State := { s with run := f s.run }

/-! ### Starting and aborting (R94, R98) -/

/-- A condition of R94 is missing. -/
def runInhibited (pedal : Nat) (s : State) : Bool :=
  !s.brake.demand.parkApplied || decide (50 ≤ s.speed.set.vGround) || !within 900 1600 s.speed.set.eng
    || decide (s.seq.published.gear ≠ .neutral) || s.seq.published.shiftKind.isSome || decide (100 < pedal)
    || !s.gateOpen .trans || decide (s.power.power ≠ .run)

/-- The run begins, and the Shift Sequencer vents every clutch outside the test gear and removes the preselect (R62, R94). L is
0 until the first trial (DESIGN CHOICE, log 48). -/
def beginRun (c : Clutch) (s : State) : State :=
  { s with
    run :=
      { phase := .prepare
        clutch := some c
        entered := s.now
        startTin := s.speed.set.tin
        namedOthers := 2000 }
    seq := { s.seq with
      clutches := s.seq.clutches.mapWith (fun k r => if k ∈ elements (testGear c) then r else releaseClutch s.now r)
      preselect := none } }

/-- CAL_RUN judged for the clutch of a key code (R94); the reason is absent when it is taken. -/
def judgeCalRun (code pedal : Nat) (s : State) : State × Option Reason :=
  match allClutches.find? (fun c => decide ((Key.clutch c).code = code)) with
  | none => (s, some .unknown)
  | some c =>
    if s.runInProgress then (s, some .busy)
    else if runInhibited pedal s then (s, some .inhibited)
    else (beginRun c s, none)

/-- CAL_ABORT judged (R97, R98). -/
def judgeCalAbort (s : State) : State × Option Reason :=
  if s.run.phase = .write then (s, some .busy) else (s.abortRun .aborted, none)

/-! ### The run step -/

/-- The first abort condition that holds at a run step, in the order of R98's table, which gives none where two hold at once
(DESIGN CHOICE, log 33). -/
def abortReason (pedal : Nat) (s : State) : Option RunReason :=
  if !s.brake.demand.parkApplied then some .parkReleased
  else if 50 ≤ s.speed.set.vGround then some .moving
  else if s.speed.set.eng < 800 then some .engineLow
  else if 100 < pedal then some .pedal
  else if !s.gateOpen .trans then some .gateClosed
  else if s.power.power ≠ .run then some .shutdown
  else none

/-- PREPARE (R94). -/
def prepareStep (s : State) : State :=
  if s.run.entered + 500 ≤ s.now then
    s.onRun (fun r =>
      { r with phase := .kissSearch, entered := s.now, named := 100, namedOthers := 2000, lastChange := s.now })
  else s.onRun (fun r => { r with named := 0, namedOthers := 2000 })

/-- KISS_SEARCH (R95): TIN is compared before the pressure rises (DEDUCED, log 16). -/
def kissStep (s : State) : State :=
  let r := s.run
  if s.speed.set.tin + 60 ≤ r.startTin then
    if 140 ≤ r.named then
      s.onRun (fun r =>
        { r with
          kiss := some (r.named - 40), named := 0, phase := .fillSearch, entered := s.now
          part := .recover, partStart := s.now })
    else s.endRun (some .drag)
  else if r.lastChange + 200 ≤ s.now then
    if 800 ≤ r.named then s.endRun (some .kissNotFound)
    else s.onRun (fun r => { r with named := min 800 (r.named + 20), lastChange := s.now })
  else s

/-- A trial's PULSE begins (R96). -/
def beginPulse (len : Nat) (s : State) : State :=
  s.onRun (fun r =>
    { r with pulse := len, named := 1200, trialRef := s.speed.set.tin, part := .pulse, partStart := s.now })

/-- The payload a run writes (R97). -/
def runPayload (c : Clutch) (fill kiss : Nat) (s : State) : ClutchCal :=
  match s.latestClutch c with
  | some v => { tFill := fill, pKiss := kiss, i0 := v.i0, iFull := v.iFull, adapt := 0 }
  | none => { tFill := fill, pKiss := kiss, i0 := 300, iFull := 900, adapt := 0 }

/-- The fill result is found: WRITE begins, and the write is handed to the store (R96, R97). -/
def enterWrite (c : Clutch) (s : State) : State :=
  let t := s.onRun (fun r =>
    { r with fill := some r.pulse, named := 0, namedOthers := 0, phase := .write, entered := s.now })
  let u := t.onStore (fun t => { t with working := t.working.set c 0 })
  u.handWrite { record := .clutch c (runPayload c t.run.pulse (t.run.kiss.getD 0) u), fromRun := true }

/-- The trial's bite is shown at this step (R96). -/
def trialBite (s : State) : Bool := decide (s.speed.set.tin + 20 ≤ s.run.trialRef)

/-- FILL_SEARCH (R96). The end of PULSE is the run step at which HOLD begins (DEDUCED, log 16). -/
def fillStep (c : Clutch) (s : State) : State :=
  let r := s.run
  match r.part with
  | .recover => if r.partStart + 1000 ≤ s.now then beginPulse 40 s else s
  | .pulse =>
    if trialBite s then enterWrite c s
    else if r.partStart + r.pulse ≤ s.now then
      s.onRun (fun r => { r with named := r.kiss.getD 0, part := .hold, partStart := s.now })
    else s
  | .hold =>
    if trialBite s ∧ s.now ≤ r.partStart + 60 then enterWrite c s
    else if r.partStart + 300 ≤ s.now then
      if 400 ≤ r.pulse then s.endRun (some .fillNotFound)
      else s.onRun (fun r => { r with named := 0, part := .vent, partStart := s.now })
    else s
  | .vent => if r.partStart + 1000 ≤ s.now then beginPulse (r.pulse + 8) s else s

/-- The run step (R94 to R98): the abort conditions first, then the phase. -/
def runStep (pedal : Nat) (s : State) : State :=
  match s.run.clutch with
  | none => s
  | some c =>
    match s.run.phase with
    | .idle | .done | .failed | .write => s
    | .prepare | .kissSearch | .fillSearch =>
      match abortReason pedal s with
      | some r => s.abortRun r
      | none =>
        match s.run.phase with
        | .prepare => prepareStep s
        | .kissSearch => kissStep s
        | _ => fillStep c s

/-- RUN_STEP (R94). -/
def execRunStep (dt pedal : Nat) (s : State) : Host.Outcome State Fault Refusal := .next (s.event dt (runStep pedal))

end Sys2Proof.Machine
end

