-- ==== Sys2Proof/Machine/Shift.lean ====
section
/-! DEFINITION. The Shift Sequencer (03): the clutches, the phases of a shift, the pedal, the neutral reaction, auto-shift and
the shift step; the taps, the direction requests and the implement's speed target. -/

namespace Sys2Proof.Machine

/-! ### Clutches (R38) -/

/-- The Shift Sequencer's records changed. -/
def State.onSeq (s : State) (f : SeqState → SeqState) : State := { s with seq := f s.seq }

/-- The shift record changed. -/
def State.onShift (s : State) (f : ShiftRec → ShiftRec) : State := s.onSeq (fun q => { q with shift := q.shift.map f })

/-- A direction clutch. -/
def isDirClutch (c : Clutch) : Bool :=
  match c with
  | .cf | .cv => true
  | _ => false

/-- A clutch's record. -/
def State.clutch (s : State) (c : Clutch) : ClutchRec := s.seq.clutches.get c

/-- A clutch enters FILLING: P_fill, and the effective fill time as it is now (R38). -/
def State.fill (s : State) (c : Clutch) : State :=
  s.onSeq (fun q => q.onClutch c (fun r =>
    { r with state := .filling, pressure := 1200, entered := s.now, fillTime := s.effectiveFill c }))

/-- A clutch is set RELEASING. -/
def State.release (s : State) (c : Clutch) : State := s.onSeq (fun q => q.onClutch c (releaseClutch s.now))

/-- A clutch is APPLIED at a pressure. -/
def State.applyAt (s : State) (c : Clutch) (p : Nat) : State := s.onSeq (fun q => q.onClutch c (applyClutch s.now p))

/-- A clutch is RAMPING at a pressure. -/
def State.rampAt (s : State) (c : Clutch) (p : Nat) : State :=
  s.onSeq (fun q => q.onClutch c (fun r =>
    { r with state := .ramping, pressure := p, entered := if r.state = .ramping then r.entered else s.now }))

/-- A clutch's fill has ended (R38). -/
def State.filled (s : State) (c : Clutch) : Bool :=
  decide ((s.clutch c).state = .filling) && decide ((s.clutch c).entered + (s.clutch c).fillTime ≤ s.now)

/-- Each of some clutches is set RELEASING. -/
def State.releaseEach (s : State) (l : List Clutch) : State := l.foldl State.release s

/-- Each of some clutches enters FILLING. -/
def State.fillEach (s : State) (l : List Clutch) : State := l.foldl State.fill s

/-- Each of some clutches becomes APPLIED at P_full. -/
def State.applyEach (s : State) (l : List Clutch) : State := l.foldl (fun s c => s.applyAt c 2000) s

/-- The clutches of a swap whose fill has ended become APPLIED at P_full (R49). -/
def State.applyFilled (s : State) (l : List Clutch) : State := s.applyEach (l.filter s.filled)

/-- The speed and range clutches among some clutches. -/
def gearClutches (l : List Clutch) : List Clutch := l.filter (fun c => !isDirClutch c)

/-- Every one of some clutches is in a state. -/
def State.allIn (s : State) (st : ClutchState) (l : List Clutch) : Bool := l.all (fun c => decide ((s.clutch c).state = st))

/-- The direction clutch of a gear; CF stands for N, which has none. -/
def dirOf (g : Gear) : Clutch :=
  match g.dir with
  | some d => dirClutch d
  | none => .cf

/-- RELEASING is left at the first shift step 60 ms after it was entered (R38). -/
def vent (now : Nat) (r : ClutchRec) : ClutchRec :=
  if r.state = .releasing ∧ r.entered + 60 ≤ now then { r with state := .vented, pressure := 0, entered := now } else r

/-- The RELEASING clutches whose time has passed are VENTED. -/
def ventStage (s : State) : State :=
  s.onSeq (fun q => { q with clutches := q.clutches.mapWith (fun _ r => vent s.now r) })

/-! ### Gears -/

/-- A gear with another number, in the same direction. -/
def Gear.withNum (g : Gear) (n : Nat) : Gear :=
  match g with
  | .neutral => .neutral
  | .fwd _ => .fwd n
  | .rev _ => .rev n

/-- A gear of the same direction with a higher number. -/
def Gear.above (a b : Gear) : Bool := a.dir.isSome && decide (a.dir = b.dir) && decide (b.num < a.num)

/-- The ends of the auto span in a direction (R64). -/
def autoSpan (q : SeqState) (d : Dir) : Nat × Nat :=
  match d with
  | .fwd => (q.gMin, q.gMax)
  | .rev => (min 8 q.gMin, min 8 q.gMax)

/-- A gear number in a direction, clamped to the table and in AUTO to the span (R41, R42). -/
def gearIn (q : SeqState) (d : Dir) (n : Nat) : Gear :=
  let top := match d with
    | .fwd => 12
    | .rev => 8
  let m := clamp 1 top n
  let k := if q.autoMode then clamp (autoSpan q d).1 (autoSpan q d).2 m else m
  match d with
  | .fwd => .fwd k
  | .rev => .rev k

/-- TIN_exp for a gear (R37). -/
def State.expectedTin (s : State) (g : Gear) : Nat := s.speed.set.tout * ratio g.num / 256

/-! ### The torque part (R54, R56) -/

/-- The torque part of the shift begins: T0, eng_fresh judged, and draft_hold. -/
def beginTorque (s : State) : State :=
  let fresh := s.speed.set.engFresh
  (s.onShift (fun r =>
    { r with
      torque := some { t0 := s.now, asked := fresh, acked := false, nextSend := s.now }
      torqueBegun := true
      degraded := r.degraded || !fresh
      eligible := r.eligible && fresh })).onSeq (fun q => { q with draftHold := true, draftEnd := none })

/-- The torque part ends: the TORQUE_LIMIT mailbox is emptied, and a shift without an acknowledgement is no longer eligible
(R56, R90). -/
def endTorque (s : State) : State :=
  match s.seq.shift with
  | none => s
  | some r =>
    match r.torque with
    | none => s
    | some q =>
      (s.onShift (fun r => { r with torque := none, eligible := r.eligible && q.acked })).emptyMail .vehicle 0x0C0

/-- A copy of the Engine Report that arrived after T0 acknowledges the limit (R56). -/
def limitAcked (s : State) (q : Torque) : Bool :=
  q.acked || (q.asked && match s.link.engine with
    | some c => decide (q.t0 < c.arrived) && c.val.limitAck
    | none => false)

/-- What stage 6 reads before it moves a shift: the acknowledgement, degradation, and fault 29 (R56, R90). -/
def handshake (s : State) : State :=
  s.onShift (fun r =>
    match r.torque with
    | none => { r with eligible := r.eligible && !s.active .speedSensor }
    | some q =>
      let acked := limitAcked s q
      let degraded := r.degraded || !s.speed.set.engFresh || (q.asked && !acked && decide (q.t0 + 50 ≤ s.now))
      { r with
        torque := some { q with acked := acked }
        degraded := degraded
        eligible := r.eligible && !degraded && !s.active .speedSensor })

/-! ### Ends of a shift (R43, R54, R60) -/

/-- The shift record is cleared; draft_hold has 100 ms from here when the shift began its torque part (R54). -/
def clearShift (s : State) : State :=
  match s.seq.shift with
  | none => s
  | some r =>
    (endTorque s).onSeq (fun q => { q with shift := none, draftEnd := if r.torqueBegun then some s.now else q.draftEnd })

/-- A shift ends after its FINISH (R54, R92). -/
def endShift (r : ShiftRec) (s : State) : State :=
  let t := (clearShift s).onSeq (fun q =>
    { q with
      gear := q.target
      lastDir := q.target.dir
      preselect := none
      target := q.pendingTarget.getD q.target
      pendingTarget := none })
  let u := if r.timedOut then t else t.reportInactive .shiftTimeout
  if r.kind = .simple then adaptationOutcome r.eligible u else u

/-- The neutral reaction (R60). -/
def neutralReaction (s : State) : State :=
  let n :=
    if s.seq.shift.isSome then s.seq.target.num
    else if s.seq.gear ≠ .neutral then s.seq.gear.num
    else s.seq.neutralNumber
  (clearShift s).onSeq (fun q =>
    { q.releaseAll s.now with
      gear := .neutral
      target := .neutral
      pendingTarget := none
      preselect := none
      neutralNumber := n
      neutralStartOk := false
      reengaged := false })

/-! ### Stages 2 and 3: the neutral reaction and neutral-start (R60, R61) -/

/-- The causes of the neutral reaction at a shift step. -/
def causesNow (s : State) : Causes :=
  { gateClosed := !s.gateOpen .trans
    linkLostSlow := s.active .vehicleLinkLost && decide (s.speed.set.vGround < 100)
    shutdown := decide (s.power.power ≠ .run)
    partHolds := decide (s.holder .gear = .part) && decide (s.seq.gear ≠ .neutral) }

/-- A cause holds. -/
def Causes.any (c : Causes) : Bool := c.gateClosed || c.linkLostSlow || c.shutdown || c.partHolds

/-- A cause holds that did not hold at the previous step. -/
def Causes.newSince (c before : Causes) : Bool :=
  (c.gateClosed && !before.gateClosed) || (c.linkLostSlow && !before.linkLostSlow) || (c.shutdown && !before.shutdown)
    || (c.partHolds && !before.partHolds)

/-- Stage 2: the reaction at the first step of a cause; while fault 3 is active, no pending target and no target beyond the
shift in flight (R60). -/
def neutralStage (s : State) : State :=
  let c := causesNow s
  let t := if c.newSince s.seq.causes then neutralReaction s else s
  t.onSeq (fun q =>
    if s.active .vehicleLinkLost then
      { q with causes := c, pendingTarget := none, target := if q.shift.isSome then q.target else q.gear }
    else { q with causes := c })

/-- Stage 3: neutral-start, on the four conditions of R61 alone, so that a lever shown at N while PART holds GEAR counts,
whatever R62 says of the return of GEAR (DEDUCED, log 46). -/
def neutralStartStage (s : State) : State :=
  let lever := match s.link.demandA with
    | some c => decide (c.val.lever = .neutral)
    | none => false
  if lever && !s.active .vehicleLinkLost && s.gateOpen .trans && decide (s.power.power = .run) then
    s.onSeq (fun q => { q with neutralStartOk := true })
  else s

/-! ### Stage 4: the clutch pedal (R57 to R59) -/

/-- The pedal limit for a kiss pressure (R57); above 900 the clutch is vented by R58. -/
def pedalLimit (pedal kiss : Nat) : Nat :=
  if pedal < 100 then 2000 else 2000 - (pedal - 100) * (2000 - kiss) / 800

/-- One on-coming speed or range clutch at the step at which a shift is declutched (R58). -/
def swapNow (s : State) (c : Clutch) : State :=
  match (s.clutch c).state with
  | .ramping => s.applyAt c 2000
  | .vented | .releasing => s.fill c
  | .filling | .applied => s

/-- A shift in flight is marked declutched, and goes to FINISH by direct swap (R58). -/
def declutch (r : ShiftRec) (s : State) : State :=
  let t := (endTorque s).releaseEach (gearClutches r.offGoing)
  ((gearClutches r.onComing).foldl swapNow t).onShift (fun r =>
    { r with declutched := true, eligible := false, lockCount := 0, phase := .finish })

/-- A direction clutch that is re-engaged is filled at the first step at which it is VENTED. Its pressure starts at P_kiss_dir
at the end of its fill, rises by at most 20 kPa toward the limit at each step, and falls with it at once (R59). -/
def reengagedStep (c : Clutch) (limit : Nat) (s : State) : State :=
  match (s.clutch c).state with
  | .vented => s.fill c
  | .filling => if s.filled c then s.applyAt c (s.kiss c) else s
  | .applied => s.applyAt c (if limit ≤ (s.clutch c).pressure then limit else min limit ((s.clutch c).pressure + 20))
  | _ => s

/-- Stage 4 with the pedal above 900 (R58). -/
def pedalDown (s : State) : State :=
  let t := (s.releaseEach [.cf, .cv]).onSeq (fun q => { q with reengaged := false })
  match t.seq.shift with
  | some r => if r.declutched then t else declutch r t
  | none => t

/-- The engaged direction clutch begins to be re-engaged: it is VENTED or RELEASING, with no shift in flight (R59). -/
def State.reengages (s : State) (c : Clutch) : Bool :=
  s.seq.shift.isNone && (decide ((s.clutch c).state = .vented) || decide ((s.clutch c).state = .releasing))

/-- Stage 4 with the pedal at 900 or below (R59). A re-engagement that has begun goes on through a SIMPLE shift. -/
def pedalUp (pedal : Nat) (s : State) : State :=
  if s.seq.gear = .neutral then s
  else
    let c := dirOf s.seq.gear
    if s.seq.reengaged || s.reengages c then
      reengagedStep c (pedalLimit pedal (s.kiss c)) (s.onSeq (fun q => { q with reengaged := true }))
    else s

/-- Stage 4. -/
def pedalStage (pedal : Nat) (s : State) : State := if 900 < pedal then pedalDown s else pedalUp pedal s

/-! ### Stage 5: the upshift inhibit (R43) -/

/-- The upshift inhibit holds. -/
def State.upshiftInhibit (s : State) : Bool := s.brake.demand.brakeActive || decide (s.brake.trailer.line = .lost)

/-- An upshift in PREFILL or DIR_DOWN is aborted (R43). -/
def abortUpshift (r : ShiftRec) (s : State) : State :=
  let t := (clearShift s).releaseEach (gearClutches r.onComing)
  let u := match r.kind with
    | .compound => t.applyAt (dirOf s.seq.gear) 2000
    | _ => t.applyEach (gearClutches r.offGoing)
  u.onSeq (fun q =>
    { q with
      target := match q.pendingTarget with
        | some p => if q.gear.above p then p else q.gear
        | none => q.gear
      pendingTarget := none })

/-- Stage 5. -/
def inhibitStage (s : State) : State :=
  if s.upshiftInhibit then
    match s.seq.shift with
    | none => s.onSeq (fun q => if q.target.above q.gear then { q with target := q.gear } else q)
    | some r =>
      let t := s.onSeq (fun q =>
        match q.pendingTarget with
        | some p => if p.above q.target then { q with pendingTarget := none } else q
        | none => q)
      if r.upshift && (decide (r.phase = .prefill) || decide (r.phase = .dirDown)) then abortUpshift r t else t
  else s

/-! ### Stage 6: progress of the shift in flight (R45 to R55) -/

/-- The ramp rate of a shift (R38, R56). -/
def rampRate (r : ShiftRec) : Nat := if r.degraded then 10 else 20

/-- The ramped clutch rises, and the time at which it first reaches P_full is noted (R47, R50, R52). -/
def rise (c : Clutch) (r : ShiftRec) (s : State) : State :=
  let p := min 2000 ((s.clutch c).pressure + rampRate r)
  (s.rampAt c p).onShift (fun r => { r with fullAt := if p = 2000 then some (r.fullAt.getD s.now) else r.fullAt })

/-- The lock count after a step (R46). -/
def lockCountNow (r : ShiftRec) (s : State) : Nat :=
  if s.active .speedSensor then 0
  else if dist s.speed.set.tin (s.expectedTin s.seq.target) ≤ 30 then r.lockCount + 1
  else 0

/-- FINISH begins, and the torque part ends (R56). -/
def enterFinish (s : State) : State := (endTorque s).onShift (fun r => { r with phase := .finish })

/-- The phase becomes another. -/
def State.setPhase (s : State) (p : Phase) : State := s.onShift (fun r => { r with phase := p })

/-- A step of a ramp with lock detection: lock, forced handover 200 ms after P_full, or neither (R46, R47, R50). -/
def rampStep (c : Clutch) (r : ShiftRec) (ends : Bool → State → State) (s : State) : State :=
  let t := rise c r s
  let n := lockCountNow r s
  let u := t.onShift (fun r => { r with lockCount := n })
  let forced := match u.seq.shift with
    | some r => passed s.now 200 r.fullAt
    | none => false
  if 3 ≤ n then ends true u else if forced then ends false u else u

/-- PREFILL (R45). -/
def prefillStep (s : State) : State :=
  let c := speedClutch s.seq.target.num
  if s.filled c then
    startWatch c s.now s.speed.set.tin
      ((beginTorque ((s.rampAt c (s.kiss c)).applyAt (speedClutch s.seq.gear.num) 800)).setPhase .overlap)
  else s

/-- OVERLAP (R47, R91). -/
def overlapStep (r : ShiftRec) (s : State) : State :=
  let c := speedClutch s.seq.target.num
  rampStep c r
    (fun lock t => closeWatch lock (enterFinish ((t.release (speedClutch t.seq.gear.num)).applyAt c 2000)))
    (feedWatch s.speed.set.tin s)

/-- DIR_DOWN (R48); at its eighth step the swap of R49 begins. -/
def dirDownStep (r : ShiftRec) (s : State) : State :=
  let k := r.downSteps + 1
  let p := if 700 < r.p0 then r.p0 - (r.p0 - 700) * k / 8 else r.p0
  let t := (s.applyAt (dirOf s.seq.target) p).onShift (fun r => { r with downSteps := k })
  if 8 ≤ k then
    ((t.releaseEach (gearClutches r.offGoing)).fillEach (gearClutches r.onComing)).setPhase .swapFill
  else t

/-- The swap of speed and range clutches is over (R49). -/
def swapDone (r : ShiftRec) (s : State) : Bool :=
  s.allIn .applied (gearClutches r.onComing) && s.allIn .vented (gearClutches r.offGoing)

/-- DIR_RAMP begins from the present pressure of the direction clutch (R50). -/
def enterDirRamp (s : State) : State :=
  let c := dirOf s.seq.target
  (s.rampAt c (s.clutch c).pressure).setPhase .dirRamp

/-- SWAP_FILL (R49). -/
def swapFillStep (r : ShiftRec) (s : State) : State :=
  let t := s.applyFilled (gearClutches r.onComing)
  if swapDone r t then enterDirRamp t else t

/-- DIR_RAMP (R50). -/
def dirRampStep (r : ShiftRec) (s : State) : State :=
  let c := dirOf s.seq.target
  rampStep c r (fun _ t => enterFinish (t.applyAt c 2000)) s

/-- DIR_RELEASE ends, when no direction clutch is out of VENTED, in DIR_FILL (R51). -/
def leaveDirRelease (s : State) : State :=
  if s.allIn .vented [.cf, .cv] then (s.fill (dirOf s.seq.target)).setPhase .dirFill else s

/-- DIR_RELEASE (R51). -/
def dirReleaseStep (r : ShiftRec) (s : State) : State := leaveDirRelease (s.applyFilled (gearClutches r.onComing))

/-- REVERSAL ends at the stop (R52). -/
def leaveReversal (s : State) : State := if s.speed.set.vWheel < 50 then enterDirRamp s else s

/-- DIR_FILL (R51, R52). -/
def dirFillStep (r : ShiftRec) (s : State) : State :=
  let c := dirOf s.seq.target
  let t := s.applyFilled (gearClutches r.onComing)
  let u := if t.filled c then t.rampAt c (t.kiss c) else t
  if decide ((u.clutch c).state = .ramping) && swapDone r u then
    if r.reversing then leaveReversal ((beginTorque u).setPhase .reversal) else enterDirRamp (beginTorque u)
  else u

/-- REVERSAL (R52); the clutch rises at the step at which it ends as well (DEDUCED, log 8). -/
def reversalStep (r : ShiftRec) (s : State) : State := leaveReversal (rise (dirOf s.seq.target) r s)

/-- In a SHUTTLE the direction clutch that is not the target's is VENTED. Its declutched FINISH waits for that, so that
outside a SHUTTLE at most one direction clutch is out of VENTED (R38, R58; DEDUCED, log 8). -/
def oldDirectionVented (r : ShiftRec) (s : State) : Bool :=
  decide (r.kind ≠ .shuttle) || s.allIn .vented ([Clutch.cf, .cv].filter (fun c => decide (c ≠ dirOf s.seq.target)))

/-- FINISH is over (R47, R50, R55, R58). -/
def finishDone (r : ShiftRec) (s : State) : Bool :=
  if r.declutched then swapDone r s && oldDirectionVented r s
  else if r.timedOut then s.allIn .vented r.offGoing
  else
    match r.kind with
    | .simple => s.allIn .vented r.offGoing
    | .compound | .shuttle => true

/-- FINISH. -/
def finishStep (r : ShiftRec) (s : State) : State :=
  let t := if r.declutched then s.applyFilled (gearClutches r.onComing) else s
  if finishDone r t then endShift r t else t

/-- The shift timeout (R55): every on-coming clutch APPLIED at P_full, a direction clutch only where the pedal has not
declutched it; in a COMPOUND the direction clutch returns to P_full (DEDUCED, log 8). -/
def timeoutShift (pedal : Nat) (r : ShiftRec) (s : State) : State :=
  let on := r.onComing ++ (if r.kind = .compound then [dirOf s.seq.target] else [])
  let t := s.applyEach (if 900 < pedal ∨ r.declutched then gearClutches on else on)
  let u := (enterFinish (t.releaseEach r.offGoing)).onShift (fun r => { r with timedOut := true, eligible := false })
  u.raise .shiftTimeout none

/-- The timeout is judged on a shift that has not ended (R55). -/
def timeoutStage (pedal : Nat) (s : State) : State :=
  match s.seq.shift with
  | some r => if !r.timedOut && decide (r.start + 2000 ≤ s.now) then timeoutShift pedal r s else s
  | none => s

/-- The phase of the shift in flight moves. -/
def phaseStep (r : ShiftRec) (s : State) : State :=
  match r.phase with
  | .prefill => prefillStep s
  | .overlap => overlapStep r s
  | .dirDown => dirDownStep r s
  | .swapFill => swapFillStep r s
  | .dirRelease => dirReleaseStep r s
  | .dirFill => dirFillStep r s
  | .reversal => reversalStep r s
  | .dirRamp => dirRampStep r s
  | .finish => finishStep r s

/-- Stage 6. -/
def progressStage (pedal : Nat) (s : State) : State :=
  let t := handshake s
  match t.seq.shift with
  | some r => timeoutStage pedal (phaseStep r t)
  | none => t

/-! ### Stage 7: start of a shift (R44) -/

/-- The kind of shift from a gear to a target gear (R44). -/
def kindOf (g t : Gear) : ShiftKind :=
  if g.dir = t.dir then (if rangeClutch g.num = rangeClutch t.num then .simple else .compound) else .shuttle

/-- The clutches of the engaged gear, or in N of the preselect (R44). -/
def heldClutches (q : SeqState) : List Clutch :=
  match q.gear, q.preselect with
  | .neutral, some n => [speedClutch n, rangeClutch n]
  | .neutral, none => []
  | g, _ => elements g

/-- The conditions of R44 on a new shift, no shift being in flight; while a cause of the neutral reaction holds no clutch is
filled (R60). -/
def mayStart (s : State) : Bool :=
  let q := s.seq
  q.shift.isNone && decide (q.target ≠ .neutral) && decide (q.target ≠ q.gear) && decide (s.holder .gear = .cab)
    && !s.active .vehicleLinkLost && s.gateOpen .trans && !s.runInProgress && !(causesNow s).any
    && s.allIn .vented (allClutches.filter (fun c => decide (c ∉ heldClutches q)))

/-- The direction that a shuttle is judged against: the one engaged, or in N the one last engaged (R42, R51). -/
def lastTravel (q : SeqState) : Option Dir :=
  match q.gear.dir with
  | some d => some d
  | none => q.lastDir

/-- The shift record at the start of a shift (R44, R90). P0 is the direction clutch's pressure at this step, under the pedal
limit of this step (R48, R57; DEDUCED, log 8). -/
def newShift (pedal : Nat) (s : State) : ShiftRec :=
  let q := s.seq
  let kind := kindOf q.gear q.target
  let up := decide (kind ≠ .shuttle) && decide (q.gear.num < q.target.num)
  { kind := kind
    phase := match kind with
      | .simple => .prefill
      | .compound => .dirDown
      | .shuttle => .dirRelease
    start := s.now
    onComing := (elements q.target).filter (fun c => decide ((s.clutch c).state ≠ .applied))
    offGoing := allClutches.filter (fun c =>
      decide ((s.clutch c).state = .applied) && decide (c ∉ elements q.target))
    reversing := decide (kind = .shuttle) && (match lastTravel q with
      | some d => decide (q.target.dir ≠ some d)
      | none => false)
    upshift := up
    eligible := decide (kind = .simple) && up && s.adaptationOpen
    p0 := min (s.clutch (dirOf q.target)).pressure (pedalLimit pedal (s.kiss (dirOf q.target))) }

/-- What the first phase of a shift does at the step where it starts (R45, R48, R51). The limited rise of a re-engaged
direction clutch (R59) goes on through a SIMPLE shift and ends as a COMPOUND or SHUTTLE starts (DEDUCED, log 8). -/
def firstPhase (r : ShiftRec) (s : State) : State :=
  match r.kind with
  | .simple => s.fill (speedClutch s.seq.target.num)
  | .compound =>
    beginTorque ((s.applyAt (dirOf s.seq.target) r.p0).onSeq (fun q => { q with reengaged := false }))
  | .shuttle =>
    let t := (s.releaseEach [.cf, .cv]).onSeq (fun q => { q with reengaged := false })
    leaveDirRelease ((t.releaseEach (gearClutches r.offGoing)).fillEach (gearClutches r.onComing))

/-- A shift starts: the record, the auto timers cleared (R65, R67), and its first phase; with the pedal above 900 it is
declutched from its first step (R44). -/
def startShift (pedal : Nat) (s : State) : State :=
  let r := newShift pedal s
  let t := s.onSeq (fun q => { q with shift := some r, upSince := none, downSince := none, choiceSince := none })
  if 900 < pedal then declutch r t else firstPhase r t

/-- Stage 7; `had` says that a shift was in flight when the step began, and the next one starts at a later step (R54), after
an abort at stage 5 of the step as well (DEDUCED, log 8). -/
def startStage (pedal : Nat) (had : Bool) (s : State) : State := if !had && mayStart s then startShift pedal s else s

/-! ### Stage 8: auto-shift (R64 to R67) -/

/-- auto_mode, span and speeds as they are taken from a copy of OPERATOR_DEMAND_A, clamped in the order of R64. -/
def takeAuto (a : DemandA) (q : SeqState) : SeqState :=
  let nDn := clamp 1100 1800 a.nDn
  let gMin := clamp 1 12 a.gMin
  { q with
    autoMode := a.autoMode
    nUp := max (clamp 1600 2300 a.nUp) (nDn + 300)
    nDn := nDn
    gMin := gMin
    gMax := max (clamp 1 12 a.gMax) gMin }

/-- The values are taken while the cab holds SPEED and fault 3 is inactive; v_target and the choice timer go when the
implement does not hold SPEED or the direction is not FWD (R64, R66). -/
def autoInputs (s : State) : State :=
  let t :=
    if s.holder .speed = .cab ∧ s.active .vehicleLinkLost = false then
      match s.link.demandA with
      | some c => s.onSeq (takeAuto c.val)
      | none => s
    else s
  if t.holder .speed = .impl ∧ t.seq.gear.direction = .fwd then t
  else t.onSeq (fun q => { q with vTarget := none, choiceSince := none })

/-- Auto-shift is armed (R64). -/
def autoArmed (pedal : Nat) (s : State) : Bool :=
  s.seq.autoMode && decide (s.seq.gear ≠ .neutral) && s.seq.shift.isNone && decide (s.holder .gear = .cab)
    && decide (pedal < 100) && s.speed.set.engFresh && !s.active .vehicleLinkLost && !s.active .speedSensor

/-- An auto target, clamped by the upshift inhibit (R43). -/
def autoTarget (n : Nat) (s : State) : State :=
  let g := s.seq.gear.withNum n
  s.onSeq (fun q => { q with target := if s.upshiftInhibit && g.above q.gear then q.gear else g })

/-- The span of the engaged direction. -/
def spanNow (q : SeqState) : Nat × Nat := autoSpan q (q.gear.dir.getD .fwd)

/-- The step at which auto-shift becomes armed: a gear outside the span takes the nearer end as target (R64). -/
def spanStep (s : State) : State :=
  let n := s.seq.gear.num
  let m := clamp (spanNow s.seq).1 (spanNow s.seq).2 n
  if m = n then s else autoTarget m s

/-- The up timer (R65): 400 ms with ENG above N_up, at a step where the load is below 80 %. While the load is 80 % or more the
timer counts on with ENG alone, and while it stands at 400 ms or more a target that R43 has clamped is set again at each step
(DEDUCED, log 31). -/
def upStep (s : State) : State :=
  let t := s.onSeq (fun q => { q with upSince := holdSince s.now (decide (q.nUp < s.speed.set.eng)) q.upSince })
  let light := match s.link.engine with
    | some c => decide (c.val.load < 80)
    | none => false
  let n := s.seq.gear.num
  let m := clamp (spanNow s.seq).1 (spanNow s.seq).2 (n + 1)
  if passed s.now 400 t.seq.upSince && light && decide (n < m) then autoTarget m t else t

/-- The down timer (R65): 250 ms with ENG below N_dn, judged at every step at which it stands there (DEDUCED, log 31). -/
def downStep (s : State) : State :=
  let t := s.onSeq (fun q => { q with downSince := holdSince s.now (decide (s.speed.set.eng < q.nDn)) q.downSince })
  let n := s.seq.gear.num
  let m := clamp (spanNow s.seq).1 (spanNow s.seq).2 (n - 1)
  if passed s.now 250 t.seq.downSince && decide (m < n) then autoTarget m t else t

/-- v_g of a forward gear (R67). -/
def travelSpeed (nUp w n : Nat) : Nat := nUp * 256 / ratio n * w / 1024

/-- The gear number that a travel speed target chooses in a span (R67). -/
def chosenGear (nUp w lo hi vTarget : Nat) : Nat :=
  ((List.range 13).filter (fun n => within lo hi n && decide (travelSpeed nUp w n ≤ vTarget))).foldl max lo

/-- The choice by the implement's speed target (R67). -/
def choiceStep (s : State) : State :=
  match s.seq.vTarget with
  | none => s.onSeq (fun q => { q with choiceSince := none })
  | some v =>
    let n := chosenGear s.seq.nUp s.speedCal.w s.seq.gMin s.seq.gMax v
    let t := s.onSeq (fun q => { q with choiceSince := holdSince s.now (decide (n ≠ q.gear.num)) q.choiceSince })
    if passed s.now 500 t.seq.choiceSince then autoTarget n t else t

/-- Stage 8. The choice is made before the down timer is judged (DEDUCED, log 16). While auto-shift is armed and CAB does not
hold SPEED, the up timer is cleared, and the down timer counts on under IMPL and is cleared under SVC and PART
(DESIGN CHOICE, log 52). -/
def autoStage (pedal : Nat) (s : State) : State :=
  let t := autoInputs s
  if autoArmed pedal t then
    let u := (if t.seq.armed then t else spanStep t).onSeq (fun q => { q with armed := true })
    match u.holder .speed with
    | .cab => downStep (upStep u)
    | .impl => downStep (choiceStep (u.onSeq (fun q => { q with upSince := none })))
    | _ => u.onSeq (fun q => { q with upSince := none, downSince := none, choiceSince := none })
  else t.onSeq (fun q => { q with armed := false, upSince := none, downSince := none, choiceSince := none })

/-! ### Stage 9: slip check, draft_hold, TORQUE_LIMIT (R54, R56, R63) -/

/-- The clutch slip check is armed and its condition present (R63). -/
def slipping (pedal : Nat) (s : State) : Bool :=
  decide (s.seq.gear ≠ .neutral) && s.seq.shift.isNone && decide (pedal < 100) && decide (700 < s.speed.set.eng)
    && !s.active .speedSensor && decide (150 < dist s.speed.set.tin (s.expectedTin s.seq.gear))

/-- The slip check: fault 2 is raised, its reaction is carried out, and it is reported inactive, all at this step (R63). -/
def slipStage (pedal : Nat) (s : State) : State :=
  let since := holdSince s.now (slipping pedal s) s.seq.slipSince
  if passed s.now 1000 since then
    let t := neutralReaction (s.raise .clutchSlip none)
    (t.onSeq (fun q => { q with slipSince := none, causes := { q.causes with gateClosed := true } })).reportInactive
      .clutchSlip
  else s.onSeq (fun q => { q with slipSince := since })

/-- draft_hold ends 100 ms after the shift that held it (R54). -/
def draftStage (s : State) : State :=
  if passed s.now 100 s.seq.draftEnd then s.onSeq (fun q => { q with draftHold := false, draftEnd := none }) else s

/-- TORQUE_LIMIT at T0 and every 10 ms after (R56). -/
def torqueStage (s : State) : State :=
  match s.seq.shift.bind ShiftRec.torque with
  | some q =>
    if q.asked ∧ q.nextSend ≤ s.now then
      (s.onShift (fun r => { r with torque := some { q with nextSend := q.nextSend + 10 } })).placeMail .vehicle 0x0C0
        (leBytes 1 s.speedCal.limitPct)
    else s
  | none => s

/-! ### Stage 10: pressures and publication (R38, R39, R57, R62) -/

/-- The pressure a run names for a clutch (R62): APPLIED above 0, VENTED at 0. -/
def runPressure (now p : Nat) (r : ClutchRec) : ClutchRec :=
  if 0 < p then applyClutch now p r
  else { r with state := .vented, pressure := 0, entered := if r.state = .vented then r.entered else now }

/-- During a run the clutches of the test gear carry what the run names (R62); not while the TRANS gate is closed or in
SHUTDOWN, when the neutral reaction vents them, and no direction clutch with the pedal above 900 (R58; DEDUCED, log 25). -/
def runOverride (pedal : Nat) (s : State) : State :=
  match s.run.clutch with
  | none => s
  | some c =>
    if s.runInProgress ∧ s.gateOpen .trans ∧ s.power.power = .run then
      ((elements (testGear c)).filter (fun k => !(isDirClutch k && decide (900 < pedal)))).foldl
        (fun s k => s.onSeq (fun q => q.onClutch k (runPressure s.now (if k = c then s.run.named else s.run.namedOthers)))) s
    else s

/-- The direction clutch under the pedal limit: the on-coming one of a shift, or the engaged one (R57). -/
def limitedClutch (q : SeqState) : Option Clutch :=
  match (if q.shift.isSome then q.target else q.gear).dir with
  | some d => some (dirClutch d)
  | none => none

/-- The preselect goes once no speed or range clutch is APPLIED (R37). -/
def preselectStage (s : State) : State :=
  if (gearClutches allClutches).any (fun c => decide ((s.clutch c).state = .applied)) then s
  else s.onSeq (fun q => { q with preselect := none })

/-- The commanded pressures: what state or phase calls for, under the pedal limit for the direction clutch (R57). -/
def commandStage (pedal : Nat) (s : State) : State :=
  s.onSeq (fun q =>
    { q with clutches := q.clutches.mapWith (fun c r =>
        { r with commanded :=
            if limitedClutch q = some c then min r.pressure (pedalLimit pedal (s.kiss c)) else r.pressure }) })

/-- The commanded pressures are handed to the channels (R38, R73). -/
def demandClutches (s : State) : State := allClutches.foldl (fun s c => s.demand (.clutch c) (s.clutch c).commanded) s

/-- shuttle_decel (R53). -/
def decelNow (q : SeqState) : Bool :=
  match q.shift with
  | some r => r.reversing && (decide (r.phase = .dirRelease) || decide (r.phase = .reversal))
  | none => false

/-- Gear State as it stands (R39). -/
def gearState (q : SeqState) : GearState :=
  { gear := q.gear
    direction := q.gear.direction
    shiftKind := q.shift.map ShiftRec.kind
    shiftPhase := q.shift.map ShiftRec.phase
    target := q.target
    pendingTarget := q.pendingTarget
    autoMode := q.autoMode
    neutralStartOk := q.neutralStartOk
    draftHold := q.draftHold
    shuttleDecel := q.shuttleDecel }

/-- Gear State is published (R39). -/
def publishGear (s : State) : State :=
  (s.onSeq (fun q => { q with shuttleDecel := decelNow q })).onSeq (fun q => { q with published := gearState q })

/-- The shift step: the ten stages of R40. -/
def shiftStep (pedal : Nat) (s : State) : State :=
  let early := pedalStage pedal (neutralStartStage (neutralStage (ventStage s)))
  let moved := startStage pedal s.seq.shift.isSome (progressStage pedal (inhibitStage early))
  let judged := torqueStage (draftStage (slipStage pedal (autoStage pedal moved)))
  publishGear (demandClutches (commandStage pedal (preselectStage (runOverride pedal judged))))

/-- SHIFT_STEP (R40). -/
def execShiftStep (dt pedal : Nat) (s : State) : Host.Outcome State Fault Refusal := .next (s.event dt (shiftStep pedal))

/-! ### Taps, direction requests, and the implement's speed target (R41, R42, R66) -/

/-- A CAB_COMMAND is refused on the vehicle link, with the function GEAR (R41, R179). -/
def refuseGear (command : Nat) (r : Reason) (s : State) : State := s.refuse .vehicle 1 command (funcCode .gear) r

/-- The refusals of R41 that R42 shares: the holder of GEAR, then a calibration run. -/
def gearRefusal (s : State) : Option Reason :=
  match s.holder .gear with
  | .cab => if s.runInProgress then some .busy else none
  | .part => if s.uncalibrated then some .uncalibrated else some .notHolder
  | _ => some .notHolder

/-- A tap that is taken (R41). In N it moves the neutral number, in a SHUTTLE from N as well (DEDUCED, log 30). -/
def applyTap (up : Bool) (s : State) : State :=
  let moved (n : Nat) : Nat := if up then n + 1 else n - 1
  s.onSeq (fun q =>
    match q.gear, q.shift with
    | .neutral, _ => { q with neutralNumber := clamp 1 12 (moved q.neutralNumber) }
    | g, some _ =>
      let base := q.pendingTarget.getD q.target
      let t := gearIn q (base.dir.getD (g.dir.getD .fwd)) (moved base.num)
      { q with pendingTarget := if t = q.target then none else some t }
    | g, none => { q with target := gearIn q (q.target.dir.getD (g.dir.getD .fwd)) (moved q.target.num) })

/-- A tap at the Shift Sequencer: it reclaims SPEED, and is refused or taken (R27, R41). -/
def judgeTap (up : Bool) (s : State) : State :=
  let command := if up then 1 else 2
  let t := s.reclaimByCommand
  match gearRefusal t with
  | some r => refuseGear command r t
  | none => if t.active .vehicleLinkLost then refuseGear command .inhibited t else applyTap up t

/-- The Shift Sequencer takes the GEAR_UP at the head of the vehicle link's queue. -/
def takeGearUp (s : State) : State :=
  match s.head .vehicle with
  | some .gearUp => judgeTap true (s.popEvent .vehicle)
  | _ => s

/-- The Shift Sequencer takes the GEAR_DOWN at the head of the vehicle link's queue. -/
def takeGearDown (s : State) : State :=
  match s.head .vehicle with
  | some .gearDown => judgeTap false (s.popEvent .vehicle)
  | _ => s

/-- NEUTRAL taken with a direction engaged (R42). -/
def takeNeutral (s : State) : State :=
  if s.seq.gear = .neutral then s
  else
    (s.release (dirOf s.seq.gear)).onSeq (fun q =>
      { q with
        gear := .neutral
        target := .neutral
        neutralNumber := q.gear.num
        preselect := some q.gear.num
        reengaged := false })

/-- A FORWARD or REVERSE request that no shift in flight turns away (R42 from its third condition on). -/
def judgeTravel (d : Dir) (s : State) : State :=
  let q := s.seq
  if s.power.power ≠ .run ∨ s.gateOpen .trans = false ∨ s.active .vehicleLinkLost then refuseGear 3 .inhibited s
  else if q.neutralStartOk = false then refuseGear 3 .inhibited s
  else if q.gear.dir = some d then s
  else if decide ((lastTravel q).isSome) && decide (lastTravel q ≠ some d) && decide (1200 < s.speed.set.vGround) then
    refuseGear 3 .inhibited s
  else
    let n := if q.gear = .neutral then q.neutralNumber else q.gear.num
    s.onSeq (fun q => { q with target := gearIn q d n })

/-- A direction request at the Shift Sequencer (R27, R42). -/
def judgeDirection (d : DirRequest) (s : State) : State :=
  let t := s.reclaimByCommand
  match gearRefusal t with
  | some r => refuseGear 3 r t
  | none =>
    if t.seq.shift.isSome then refuseGear 3 .busy t
    else
      match d with
      | .neutral => takeNeutral t
      | .forward => judgeTravel .fwd t
      | .reverse => judgeTravel .rev t

/-- The Shift Sequencer takes the DIRECTION at the head of the vehicle link's queue. -/
def takeDirection (s : State) : State :=
  match s.head .vehicle with
  | some (.direction d) => judgeDirection d (s.popEvent .vehicle)
  | _ => s

/-- IMPL_SPEED at the Shift Sequencer (R20, R66). -/
def judgeImplSpeed (v : Nat) (s : State) : State :=
  let refuse (r : Reason) : State := s.refuse .implement 4 0 (funcCode .speed) r
  if s.holder .speed ≠ .impl then refuse (s.implRefusal .speed)
  else if s.seq.gear.direction ≠ .fwd ∨ s.seq.autoMode = false then refuse .inhibited
  else (s.onSeq (fun q => { q with vTarget := some (clamp 0 4000 v) })).renew .speed

/-- The Shift Sequencer takes the IMPL_SPEED at the head of the implement link's queue. -/
def takeImplSpeed (s : State) : State :=
  match s.head .implement with
  | some (.implSpeed v) => judgeImplSpeed v (s.popEvent .implement)
  | _ => s

/-- CAB_COMMAND_GEAR_UP (R41). -/
def execCabCommandGearUp (dt : Nat) (s : State) : Host.Outcome State Fault Refusal := .next (s.event dt takeGearUp)

/-- CAB_COMMAND_GEAR_DOWN (R41). -/
def execCabCommandGearDown (dt : Nat) (s : State) : Host.Outcome State Fault Refusal := .next (s.event dt takeGearDown)

/-- CAB_COMMAND_DIRECTION (R42). -/
def execCabCommandDirection (dt : Nat) (s : State) : Host.Outcome State Fault Refusal := .next (s.event dt takeDirection)

/-- IMPL_SPEED (R66). -/
def execImplSpeed (dt : Nat) (s : State) : Host.Outcome State Fault Refusal := .next (s.event dt takeImplSpeed)

end Sys2Proof.Machine
end

