-- ==== Sys2Proof/Machine/Axle.lean ====
section
/-! DEFINITION. The Axle Engagement block (06): the axle step and the implement's modes. What the block does at the events of
other blocks stands in Reactions.lean. -/

namespace Sys2Proof.Machine

/-- The Axle Engagement block's records changed. -/
def State.onAxle (s : State) (f : AxleState → AxleState) : State := { s with axle := f s.axle }

/-- The Axle State changed before it is published. -/
def State.onOwn (s : State) (f : AxleRec → AxleRec) : State := s.onAxle (fun a => { a with own := f a.own })

/-! ### Stage 2: the modes in use (R108) and dl_cancel (R117) -/

/-- The modes of the holder's source, absent where it keeps the modes in use (R108). IMPL's are used while fault 3 is active as
well, as R108 has it and not R166's summary (DEDUCED, log 42). -/
def sourceModes (s : State) : Option (Mode × Mode) :=
  match s.holder .axle with
  | .cab => if s.active .vehicleLinkLost then none else s.link.demandA.map (fun c => (c.val.fwdMode, c.val.dlMode))
  | .impl => s.axle.implModes
  | _ => none

/-- Stage 2: the modes in use, and dl_cancel cleared when the source's diff lock mode is other than ON. Modes taken during a
transition of the clutch are in use at once, so that the diff lock follows them at this step (DEDUCED, log 57). -/
def modesStage (s : State) : State :=
  let t := match sourceModes s with
    | some m => s.onOwn (fun a => { a with fwdMode := some m.1, dlMode := some m.2 })
    | none => s
  t.onOwn (fun a => { a with dlCancel := a.dlCancel && decide (a.dlMode = some .on) })

/-! ### Stages 3 and 4: engagements, the AUTO condition, the demands (R110 to R112) -/

/-- Stage 3: the engagements begin or end; release_block is cleared (R110, R114), at this stage so that stage 4 of the same
step sees it cleared (DEDUCED, log 38). -/
def engagementStage (s : State) : State :=
  let t := s.judgeBrakeEngagement
  let ended := !t.brake.demand.brakeActive && passed t.now 500 t.axle.brakeOffAt
  let fault := t.axle.faultEngagement && (t.active .vehicleLinkLost || t.active .trailerSupplyLost)
  let blocked := t.axle.own.releaseBlock && !(t.axle.ackSeen && !t.active .axleReleaseFailed)
  (t.onAxle (fun a =>
    { a with brakeEngagement := a.brakeEngagement && !ended, faultEngagement := fault })).onOwn
      (fun a => { a with releaseBlock := blocked })

/-- The AUTO condition (R111). -/
def autoCondition (s : State) : Bool :=
  if s.speed.set.vGround ≤ 1300 then
    decide (s.hitch.lift = .work) || (s.speed.set.slipValid && decide (150 ≤ s.speed.set.slipF))
  else if s.speed.set.vGround < 1500 then s.axle.autoCond
  else false

/-- The wanted demand, engaged being true, and whether line 6 of R112 decided it. -/
def wantedDemand (s : State) : Bool × Bool :=
  let a := s.axle
  if a.brakeEngagement || a.faultEngagement || !s.gateOpen .axle || !s.valveSupplyOk || a.own.releaseBlock then (true, false)
  else
    match a.own.fwdMode with
    | none => (true, false)
    | some .on => (true, false)
    | some .off => (false, false)
    | some .auto => (a.autoCond, true)

/-- Stage 4: the AUTO condition, and the applied demand with its dwell of 1000 ms (R111, R112). -/
def appliedStage (s : State) : State :=
  let t := s.onAxle (fun a => { a with autoCond := autoCondition s })
  let w := wantedDemand t
  let waited := match t.axle.lastChange with
    | some u => decide (u + 1000 ≤ t.now)
    | none => true
  if decide (w.1 ≠ t.axle.appliedEngaged) && (!w.2 || waited) then
    t.onAxle (fun a => { a with appliedEngaged := w.1, lastChange := some t.now })
  else t

/-! ### Stage 5: the four-wheel-drive clutch (R113, R114) -/

/-- A failed release (R114). -/
def failedRelease (s : State) : State :=
  ((s.onAxle (fun a => { a with appliedEngaged := true, lastChange := some s.now, ackSeen := false })).onOwn
    (fun a => { enterFwd s.now .applying a with releaseBlock := true })).raise .axleReleaseFailed none

/-- fwd_state moves (R113). -/
def moveFwd (closed : Bool) (s : State) : State :=
  let a := s.axle.own
  let waited (d : Nat) : Bool := decide (a.fwdEntry + d ≤ s.now)
  let openSince := holdSince s.now (decide (a.fwd = .released) && !closed) s.axle.switchOpenSince
  let t := s.onAxle (fun a => { a with switchOpenSince := openSince })
  match a.fwd with
  | .engaged => if t.axle.appliedEngaged then t else t.onOwn (enterFwd t.now .releasing)
  | .releasing =>
    if closed then t.onOwn (enterFwd t.now .released) else if waited 500 then failedRelease t else t
  | .released =>
    if t.axle.appliedEngaged then t.onOwn (enterFwd t.now .applying)
    else if passed t.now 100 openSince then failedRelease t
    else t
  | .applying =>
    if !closed || waited 300 then (t.onOwn (enterFwd t.now .engaged)).reportInactive .axleReleaseFailed else t

/-- The tail of axle_transition ends 200 ms after the change (R106). -/
def endTransition (now : Nat) (a : AxleRec) : AxleRec :=
  if (a.fwd = .engaged ∨ a.fwd = .released) ∧ a.fwdEntry + 200 ≤ now then { a with transition := false } else a

/-! ### Stages 6 and 7: the differential lock and the transmission check (R116 to R118) -/

/-- dl_state as R118 decides it, on the AXLE gate as the step read it at stage 1 (R107). -/
def lockWanted (gateOpen : Bool) (s : State) : Bool :=
  let a := s.axle.own
  if !s.build.diffLockFitted || !gateOpen || !s.valveSupplyOk || s.dropCause || a.dlCancel then false
  else
    match a.dlMode with
    | none => false
    | some .off => false
    | some .on => true
    | some .auto =>
      if s.hitch.lift = .work ∧ s.speed.set.vGround ≤ 1300 then true
      else if s.hitch.lift = .raising ∨ s.hitch.lift = .raised then false
      else a.dlEngaged

/-- Stage 6: the drop causes are judged, then dl_state is decided. -/
def lockStage (gateOpen : Bool) (s : State) : State :=
  let t := s.judgeDrop
  t.onOwn (fun a => { a with dlEngaged := lockWanted gateOpen t })

/-- Stage 7: the transmission check (R116). -/
def transmissionStage (s : State) : State :=
  let a := s.axle.own
  let armed := decide (a.fwd = .engaged) && !a.transition && decide (300 < s.speed.set.vWheel)
  let expected := s.speed.set.tout * s.speedCal.kFr / 256
  let deviates := decide (expected / 8 < dist s.speed.set.fax expected)
  let r := holdCheck s.now (s.active .axleNotTransmitting) (armed && deviates) (armed && !deviates) 1000 1000
    s.axle.deviation
  (s.onAxle (fun a => { a with deviation := r.1 })).report .axleNotTransmitting r.2

/-! ### The axle step -/

/-- Stage 8: the demands on channels 9 and 10, and the publication of the Axle State (R107). -/
def axleOutputs (s : State) : State :=
  let a := s.axle.own
  let on := decide (a.fwd = .releasing) || decide (a.fwd = .released)
  ((s.demand .fwdRelease (bit on)).demand .diffLock (bit a.dlEngaged)).publishAxle

/-- The axle step: the stages of R107. -/
def axleStep (closed : Bool) (s : State) : State :=
  let t := (moveFwd closed (appliedStage (engagementStage (modesStage s)))).onOwn (endTransition s.now)
  axleOutputs (transmissionStage (lockStage (s.gateOpen .axle) t))

/-- AXLE_STEP (R107). -/
def execAxleStep (dt : Nat) (switchClosed : Bool) (s : State) : Host.Outcome State Fault Refusal :=
  .next (s.event dt (axleStep switchClosed))

/-! ### The implement's modes (R109) -/

/-- IMPL_AXLE at the Axle Engagement block (R20, R109). -/
def judgeImplAxle (fwd dl : Nat) (s : State) : State :=
  let refuse (r : Reason) : State := s.refuse .implement 5 0 (funcCode .axle) r
  if s.holder .axle ≠ .impl then refuse (s.implRefusal .axle)
  else
    match modeOf fwd, modeOf dl with
    | some m, some d => (s.onAxle (fun a => { a with implModes := some (m, d) })).renew .axle
    | _, _ => refuse .unknown

/-- The Axle Engagement block takes the IMPL_AXLE at the head of the implement link's queue. -/
def takeImplAxle (s : State) : State :=
  match s.head .implement with
  | some (.implAxle fwd dl) => judgeImplAxle fwd dl (s.popEvent .implement)
  | _ => s

/-- IMPL_AXLE (R109). -/
def execImplAxle (dt : Nat) (s : State) : Host.Outcome State Fault Refusal := .next (s.event dt takeImplAxle)

end Sys2Proof.Machine
end

