-- ==== Sys2Proof/Machine/Hitch.lean ====
section
/-! DEFINITION. The Hitch Controller (07): the hitch step and the parts of IMPL_HITCH. What the Controller does at a closure
of its gate stands in Reactions.lean. -/

namespace Sys2Proof.Machine

/-- The Hitch Controller's records changed. -/
def State.onHitch (s : State) (f : HitchState → HitchState) : State := { s with hitch := f s.hitch }

/-! ### Stage 2: sensors (R121 to R123) -/

/-- An out-of-range position reading (R121). -/
def adcOutOfRange (adc : Nat) : Bool := decide (adc < 100) || decide (3995 < adc)

/-- P_act of a reading (R121). -/
def positionOf (c : HitchCal) (adc : Nat) : Nat :=
  (clampZ 0 1000 ((((adc : Int) - c.adcLow) * 1000).tdiv ((c.adcHigh : Int) - c.adcLow))).toNat

/-- The position sensor (R121). -/
def positionStage (adc : Nat) (s : State) : State :=
  match s.hitchCal with
  | none => s.onHitch (fun h => { h with pAct := none, adcBad := 0, adcGoodSince := none })
  | some c =>
    let bad := adcOutOfRange adc
    if s.active .hitchPositionSensor then
      let good := holdSince s.now (!bad) s.hitch.adcGoodSince
      if passed s.now 500 good then
        (s.onHitch (fun h =>
          { h with pAct := some (positionOf c adc), adcBad := 0, adcGoodSince := none })).reportInactive
            .hitchPositionSensor
      else s.onHitch (fun h => { h with pAct := none, adcGoodSince := good })
    else if bad then
      if 2 ≤ s.hitch.adcBad then
        (s.onHitch (fun h => { h with pAct := none, adcBad := 0, adcGoodSince := none })).raise .hitchPositionSensor none
      else s.onHitch (fun h => { h with adcBad := h.adcBad + 1 })
    else s.onHitch (fun h => { h with pAct := some (positionOf c adc), adcBad := 0 })

/-- D_act of the two pins (R122); free while the HITCH entry is absent (log 6). -/
def draftOf (c : Option HitchCal) (l r : Int) : Int :=
  match c with
  | some v => clampZ (-1000) 1000 (((l + r) * 1000).tdiv (v.dFs : Int))
  | none => clampZ (-1000) 1000 (Config.draftWithoutRecord (l + r))

/-- The draft pins, read only with DRAFT_FITTED (R122). -/
def pinStage (l r : Int) (s : State) : State :=
  if s.build.draftFitted then
    let t := s.onHitch (fun h =>
      { h with dAct := draftOf s.hitchCal l r, report := { h.report with rawLeft := l, rawRight := r } })
    let bad := decide (2000 < l.natAbs) || decide (2000 < r.natAbs)
    if s.active .draftSensor then
      let good := holdSince s.now (!bad) s.hitch.pinGoodSince
      if passed s.now 500 good then
        (t.onHitch (fun h => { h with pinBad := 0, pinGoodSince := none })).reportInactive .draftSensor
      else t.onHitch (fun h => { h with pinGoodSince := good })
    else if bad then
      if 2 ≤ s.hitch.pinBad then
        (t.onHitch (fun h => { h with pinBad := 0, pinGoodSince := none })).raise .draftSensor none
      else t.onHitch (fun h => { h with pinBad := h.pinBad + 1 })
    else t.onHitch (fun h => { h with pinBad := 0 })
  else s.onHitch (fun h => { h with dAct := 0 })

/-- The draft latch (R123). -/
def latchStage (s : State) : State :=
  let cond := s.seq.published.draftHold || s.brake.demand.brakeActive
  s.onHitch (fun h => { h with latch := if cond then some (h.latch.getD h.dAct) else none })

/-- D_used (R127). -/
def HitchState.dUsed (h : HitchState) : Int := h.latch.getD h.dAct

/-! ### Stage 3: cab values and setpoints (R124 to R126) -/

/-- The cab values of a copy, clamped as they are taken (R124). -/
def cabValues (b : DemandB) : CabValues :=
  let lLim := clamp 0 800 b.lLim
  { pLever := some (clamp 0 1000 b.pLever)
    dSet := clamp 0 1000 b.dSet
    mix := clamp 0 100 b.mix
    qDrop := clamp 10 1000 b.qDrop
    uLim := max (clamp 200 1000 b.uLim) (lLim + 50)
    lLim := lLim
    sLim := if b.sLim = 0 then 0 else clamp 50 500 b.sLim
    gS := clamp 0 64 b.gS
    lock := b.lock
    rocker := b.rocker }

/-- The cab values are taken (R124). -/
def cabStage (s : State) : State :=
  if s.active .vehicleLinkLost then s
  else
    match s.link.demandB with
    | some c => s.onHitch (fun h => { h with cab := cabValues c.val })
    | none => s

/-- The shadow becomes the implement setpoint, or is removed unused (R125). -/
def shadowStage (s : State) : State :=
  match s.hitch.shadow with
  | some p => s.onHitch (fun h => { h with shadow := none, impl := if s.holder .hitchSet = .impl then some p else h.impl })
  | none => s

/-- PART or SVC holds. -/
def Holder.rests (h : Holder) : Bool := decide (h = .part) || decide (h = .svc)

/-- The frozen setpoint is to be set at this step (R126; DEDUCED, log 26). -/
def freezeWanted (s : State) : Bool :=
  let now := s.holder .hitchSet
  let before := s.hitch.prevHolder
  s.hitch.freezeDue || (now.rests && !before.rests) || (decide (now = .cab) && s.hitch.cab.pLever.isNone)

/-- The frozen setpoint is set, or waits for P_act (R126). -/
def freezeStage (s : State) : State :=
  if freezeWanted s then
    match s.hitch.pAct with
    | some p =>
      s.onHitch (fun h =>
        { h with
          frozen := some { p := p, d := match h.inUse with
            | some u => u.d
            | none => h.cab.dSet, m := 0 }
          freezeDue := false })
    | none => s.onHitch (fun h => { h with freezeDue := true })
  else s

/-- The setpoint in use by its holder, with its source (R126, R139). -/
def setpointOf (s : State) : Option Setpoint × SetpointSource :=
  match s.holder .hitchSet with
  | .cab =>
    match s.hitch.cab.pLever with
    | some p => (some { p := p, d := s.hitch.cab.dSet, m := s.hitch.cab.mix }, .cab)
    | none => (s.hitch.frozen, .frozen)
  | .impl => (s.hitch.impl, .impl)
  | _ => (s.hitch.frozen, .frozen)

/-- The values of an absent setpoint: free (log 6). -/
def freeSetpoint (n : Nat) : Setpoint :=
  let v := Config.setpointWithoutSource n
  { p := clamp 0 1000 v.1, d := clamp 0 1000 v.2.1, m := clamp 0 100 v.2.2 }

/-- The setpoint in use is chosen, with what the report shows of it (R126). -/
def setpointStage (s : State) : State :=
  let c := setpointOf s
  let v := c.1.getD (freeSetpoint s.free)
  let noDraft := !s.build.draftFitted || s.active .draftSensor
  let t := s.onHitch (fun h =>
    { h with
      inUse := c.1
      report := { h.report with
        pSetUsed := clamp h.cab.lLim h.cab.uLim v.p
        dSet := v.d
        mUsed := if noDraft then 0 else v.m
        source := c.2
        dUsed := h.dUsed
        lock := h.cab.lock } })
  { t with free := if c.1.isNone then s.free + 1 else s.free }

/-! ### Stage 4: the Hitch Lift State (R130 to R137) -/

/-- A cause of STOPPED holds (R131); the HITCH gate as the step read it at stage 1 (R120). A gate that stage 2 closes has
stopped the hitch at that event, and its fault 6 is a cause of its own. -/
def stopCause (gateOpen : Bool) (s : State) : Bool :=
  !gateOpen || !s.valveSupplyOk || s.hitchCal.isNone || s.active .hitchPositionSensor || s.build.serviceStrap

/-- The causes of STOPPED, and its end (R131). -/
def stopStage (gateOpen : Bool) (s : State) : State :=
  if stopCause gateOpen s then s.stopLift.onHitch (fun h => { h with pendingLift := none })
  else if s.hitch.lift = .stopped then s.enterLift .unmatched
  else s

/-- The fender demand of a step (R136). -/
inductive FenderDemand where
  | up | down | conflicting | none
  deriving DecidableEq, Repr

/-- The fender demand of the two switches (R136). -/
def fenderDemand (l r : FenderSwitch) : FenderDemand :=
  match l, r with
  | .released, .released => .none
  | .up, .down => .conflicting
  | .down, .up => .conflicting
  | .up, _ => .up
  | _, .up => .up
  | _, _ => .down

/-- The fender conditions (R136). -/
def fenderConditions (pedal : Nat) (s : State) : Bool :=
  decide (s.speed.set.vGround < 100) && (decide (s.seq.published.gear = .neutral) || decide (900 < pedal))

/-- A FENDER ends, and HITCH_LIFT goes to PART (R137). -/
def endFender (s : State) : State := (s.setHolder .hitchLift .part).enterLift .unmatched

/-- A FENDER begins (R31, R136). -/
def beginFender (s : State) : State :=
  ((s.seize .hitchLift .fender).enterLift .fender).onHitch (fun h => { h with pendingLift := none, fenderArm := false })

/-- A fender switch is pressed, and has been since a step at which the fender conditions did not hold: it starts no FENDER
before both switches have been released (R136; DEDUCED, log 41). -/
def heldOver (d : FenderDemand) (pedal : Nat) (s : State) : Bool :=
  decide (d ≠ .none) && (s.hitch.fenderHeld || !fenderConditions pedal s)

/-- The fender switches (R136, R137). -/
def fenderStage (d : FenderDemand) (pedal : Nat) (s : State) : State :=
  let t := s.onHitch (fun h =>
    { h with fenderArm := h.fenderArm || decide (d = .none), fenderHeld := heldOver d pedal s })
  match t.hitch.lift with
  | .stopped => t
  | .fender => if decide (d = .none) || !fenderConditions pedal t then endFender t else t
  | .unmatched | .work | .raising | .raised | .lowering =>
    if t.hitch.fenderArm && !t.hitch.fenderHeld && (decide (d = .up) || decide (d = .down)) && fenderConditions pedal t
        && decide (t.holder .hitchLift ≠ .svc) then
      beginFender t
    else t

/-- The transport lock turns LOWERING to RAISING (R135). -/
def lockTurn (s : State) : State := if s.hitch.cab.lock ∧ s.hitch.lift = .lowering then s.enterLift .raising else s

/-- HITCH_SET found held by CAB after another holder, in WORK (R132). -/
def handback (s : State) : State :=
  if s.holder .hitchSet = .cab ∧ s.hitch.prevHolder ≠ .cab ∧ s.hitch.lift = .work then s.enterLift .unmatched else s

/-- A lift command is applied (R130, R135). -/
def applyLift (c : LiftCmd) (s : State) : State :=
  match c, s.hitch.lift with
  | .raise, .unmatched => s.enterLift .raising
  | .raise, .work => s.enterLift .raising
  | .raise, .lowering => s.enterLift .raising
  | .work, .raising => if s.hitch.cab.lock then s else s.enterLift .lowering
  | .work, .raised => if s.hitch.cab.lock then s else s.enterLift .lowering
  | _, _ => s

/-- The command of a rocker change (R130). -/
def rockerCommand (before now : Rocker) : Option LiftCmd :=
  if before = now then none
  else
    match now with
    | .raise => some .raise
    | .work => some .work
    | .hold => none

/-- The lift command of the step: the cab's rocker, or the implement's pending command (R130), by the holder of HITCH_LIFT as
it stands after the fender switches (DEDUCED, log 50). -/
def liftStage (s : State) : State :=
  let pending := s.hitch.pendingLift
  let t := s.onHitch (fun h => { h with pendingLift := none })
  match t.holder .hitchLift with
  | .cab =>
    if t.active .vehicleLinkLost then t
    else
      let u := t.onHitch (fun h => { h with storedRocker := h.cab.rocker })
      match rockerCommand t.hitch.storedRocker t.hitch.cab.rocker with
      | some c => applyLift c u
      | none => u
  | .impl =>
    match pending with
    | some c => applyLift c t
    | none => t
  | _ => t

/-- The match test (R132). -/
def matched (s : State) : Bool :=
  let lever := match s.holder .hitchSet with
    | .cab => s.hitch.cab.pLever
    | .impl => s.hitch.impl.map Setpoint.p
    | _ => none
  match s.hitch.pAct, lever with
  | some p, some l => decide (s.hitch.storedRocker ≠ .raise) && decide (dist l p ≤ 20)
  | _, _ => false

/-- P_act is present and a condition holds of it. -/
def positionIs (s : State) (f : Nat → Bool) : Bool :=
  match s.hitch.pAct with
  | some p => f p
  | none => false

/-- The end conditions of the state (R132 to R134). -/
def endStage (s : State) : State :=
  let h := s.hitch
  match h.lift with
  | .unmatched => if matched s then s.enterLift .work else s
  | .raising =>
    if positionIs s (fun p => decide (h.cab.uLim - 10 ≤ p)) || decide (h.entered + 6000 ≤ s.now) then s.enterLift .raised
    else s
  | .lowering =>
    if positionIs s (fun p => decide (p ≤ h.report.pSetUsed + 20))
        || (decide (0 < h.report.mUsed) && decide ((h.report.dSet : Int) ≤ h.dAct))
        || decide (h.entered + 3000 ≤ s.now) then
      s.enterLift .work
    else s
  | .work | .raised | .fender | .stopped => s

/-- Stage 4, in the order of R120. -/
def liftStateStage (gateOpen : Bool) (d : FenderDemand) (pedal : Nat) (s : State) : State :=
  endStage (liftStage (handback (lockTurn (fenderStage d pedal (stopStage gateOpen s)))))

/-! ### Stage 5: the flow (R127 to R129, R137) -/

/-- The control computation (R127), with the slip term given. -/
def loopFlow (p pSet dSet m b g qDrop : Nat) (dUsed eSlip : Int) : Int :=
  let errorP : Int := (p : Int) - pSet
  let errorD := clampZ (-1000) 1000 ((dSet : Int) - dUsed)
  let eMix := ((m : Int) * errorD + (100 - (m : Int)) * errorP).tdiv 100
  let e := clampZ (-1000) 1000 (eMix - eSlip)
  let e' := if -(b : Int) ≤ e ∧ e ≤ b then 0 else if 0 < e then e - b else e + b
  clampZ (-1000) qDrop ((e' * g).tdiv 32)

/-- E_slip (R127). -/
def slipTerm (s : State) : Int :=
  let c := s.hitch.cab
  let v := s.speed.set
  if decide (s.hitch.lift = .work) && decide (c.sLim ≠ 0) && v.slipValid && decide (c.sLim < v.slipF) then
    min 1000 ((((v.slipF - c.sLim) * c.gS) / 8 : Nat) : Int)
  else 0

/-- The flow of the state before the limits, P_act being present (R129, R137). -/
def stateFlow (d : FenderDemand) (p : Nat) (s : State) : Int :=
  let h := s.hitch
  match h.lift with
  | .unmatched | .stopped => 0
  | .work | .lowering =>
    loopFlow p h.report.pSetUsed h.report.dSet h.report.mUsed h.deadband h.gain h.cab.qDrop h.dUsed (slipTerm s)
  | .raised => loopFlow p h.cab.uLim h.report.dSet 0 h.deadband h.gain h.cab.qDrop h.dUsed 0
  | .raising => -1000
  | .fender =>
    match d with
    | .up => -300
    | .down => min 300 h.cab.qDrop
    | .conflicting => 0
    | .none => 0

/-- The limits of position and of the transport lock (R128). -/
def limitFlow (c : CabValues) (p : Nat) (q : Int) : Int :=
  if q < 0 ∧ c.uLim ≤ p then 0 else if 0 < q ∧ (p ≤ c.lLim ∨ c.lock) then 0 else q

/-- The limited flow of the step (R128). -/
def flowNow (d : FenderDemand) (s : State) : Int :=
  match s.hitch.pAct with
  | some p => limitFlow s.hitch.cab p (stateFlow d p s)
  | none => 0

/-! ### Stages 6 and 7: runaway, demands, publication (R128, R138) -/

/-- The runaway condition on a history of eleven steps, the latest first (R138). -/
def runawayCondition (l : List (Nat × Int)) : Bool :=
  match l.head?, l.getLast? with
  | some a, some b =>
    decide (l.length = 11) && decide (a.1 + 30 < b.1) && l.all (fun x => decide (x.2 ≤ 0))
  | _, _ => false

/-- Stage 6: the history and the check; a raise stops the hitch (R138). While the history holds fewer than eleven steps the
check waits: the condition is then neither present nor absent, and both counts begin anew (DEDUCED, log 34). -/
def runawayStage (q : Int) (s : State) : State :=
  let history := match s.hitch.pAct with
    | some p => ((p, q) :: s.hitch.history).take 11
    | none => []
  let cond := runawayCondition history
  let full := decide (history.length = 11)
  let r := holdCheck s.now (s.active .hitchRunaway) (full && cond) (full && !cond) 300 1000 s.hitch.runaway
  let t := (s.onHitch (fun h => { h with history := history, runaway := r.1 })).report .hitchRunaway r.2
  match r.2 with
  | .raise => t.stopLift
  | _ => t

/-- The pilot current of a flow (R128). -/
def pilotCurrent (c : Option HitchCal) (q : Int) : Nat :=
  match c with
  | some v => if q = 0 then 0 else v.iThr + q.natAbs * (v.iMax - v.iThr) / 1000
  | none => 0

/-- Stage 7: the demands on channels 11 and 12; a hitch stopped at stage 6 has 0 mA on both (R128, R138). -/
def pilotStage (q : Int) (s : State) : State :=
  let q' : Int := if s.hitch.lift = .stopped then 0 else q
  let i := pilotCurrent s.hitchCal q'
  (s.demand .hitchRaise (if q' < 0 then i else 0)).demand .hitchLower (if 0 < q' then i else 0)

/-! ### The hitch step -/

/-- The hitch step: the stages of R120. -/
def hitchStep (inp : HitchInputs) (s : State) : State :=
  let adc := clamp 0 4095 inp.adc
  let l := clampZ (-2048) 2047 inp.pinLeft
  let r := clampZ (-2048) 2047 inp.pinRight
  let d := fenderDemand inp.fenderLeft inp.fenderRight
  let sensed := latchStage (pinStage l r (positionStage adc s))
  let moved := liftStateStage (s.gateOpen .hitch) d inp.pedal (setpointStage (freezeStage (shadowStage (cabStage sensed))))
  let q := flowNow d moved
  let t := pilotStage q (runawayStage q (moved.onHitch (fun h =>
    { h with report := { h.report with q := q, eSlip := slipTerm moved, rawAdc := adc } })))
  t.onHitch (fun h => { h with prevHolder := t.holder .hitchSet, report := { h.report with lift := h.lift } })

/-- HITCH_STEP (R120). -/
def execHitchStep (dt : Nat) (inp : HitchInputs) (s : State) : Host.Outcome State Fault Refusal :=
  .next (s.event dt (hitchStep inp))

/-! ### IMPL_HITCH (R125, R130) -/

/-- The setpoint part at the Hitch Controller (R20, R125). -/
def judgeSetpoint (p : Setpoint) (s : State) : State :=
  if s.holder .hitchSet ≠ .impl then s.refuse .implement 3 1 (funcCode .hitchSet) (s.implRefusal .hitchSet)
  else
    (s.onHitch (fun h =>
      { h with shadow := some { p := clamp 0 1000 p.p, d := clamp 0 1000 p.d, m := clamp 0 100 p.m } })).renew .hitchSet

/-- A quick command at the Hitch Controller (R20, R130). -/
def judgeQuick (c : LiftCmd) (s : State) : State :=
  let refuse (r : Reason) : State := s.refuse .implement 3 2 (funcCode .hitchLift) r
  if s.holder .hitchLift ≠ .impl then refuse (s.implRefusal .hitchLift)
  else if s.hitch.lift = .stopped then refuse .inhibited
  else if c = .work ∧ (s.hitch.lift = .unmatched ∨ s.hitch.cab.lock) then refuse .inhibited
  else (s.onHitch (fun h => { h with pendingLift := some c })).renew .hitchLift

/-- The two parts of an IMPL_HITCH, each judged on its own at the one event at which the frame is taken (R125, R175), the
setpoint part first (DEDUCED, log 5). -/
def judgeParts (set : Option Setpoint) (quick : Option LiftCmd) (s : State) : State :=
  let t := match set with
    | some p => judgeSetpoint p s
    | none => s
  match quick with
  | some c => judgeQuick c t
  | none => t

/-- The Hitch Controller takes the IMPL_HITCH at the head of the queue, which has a setpoint part or no part at all. -/
def takeSetpoint (s : State) : State :=
  match s.head .implement with
  | some (.implHitch (some p) quick) => judgeParts (some p) quick (s.popEvent .implement)
  | some (.implHitch none none) => s.popEvent .implement
  | _ => s

/-- The Hitch Controller takes the IMPL_HITCH at the head of the queue, which has a quick command. -/
def takeQuick (c : LiftCmd) (s : State) : State :=
  match s.head .implement with
  | some (.implHitch set (some d)) => if d = c then judgeParts set (some d) (s.popEvent .implement) else s
  | _ => s

/-- IMPL_HITCH_SETPOINT (R125). -/
def execImplHitchSetpoint (dt : Nat) (s : State) : Host.Outcome State Fault Refusal := .next (s.event dt takeSetpoint)

/-- IMPL_HITCH_RAISE (R130). -/
def execImplHitchRaise (dt : Nat) (s : State) : Host.Outcome State Fault Refusal := .next (s.event dt (takeQuick .raise))

/-- IMPL_HITCH_WORK (R130). -/
def execImplHitchWork (dt : Nat) (s : State) : Host.Outcome State Fault Refusal := .next (s.event dt (takeQuick .work))

end Sys2Proof.Machine
end

