-- ==== Sys2Proof/Machine/Brake.lean ====
section
/-! DEFINITION. The Trailer Brake Controller (08): the brake step. What the block does at a closure of its gate and at an
acknowledgement stands in Reactions.lean and Faults.lean. -/

namespace Sys2Proof.Machine

/-- The Trailer Brake Controller's records changed. -/
def State.onBrake (s : State) (f : BrakeState → BrakeState) : State := { s with brake := f s.brake }

/-- Brake Demand changed. -/
def State.onDemand (s : State) (f : BrakeDemand → BrakeDemand) : State :=
  s.onBrake (fun b => { b with demand := f b.demand })

/-- The Trailer State changed. -/
def State.onTrailer (s : State) (f : TrailerRec → TrailerRec) : State :=
  s.onBrake (fun b => { b with trailer := f b.trailer })

/-- The trailer is fitted (R146). -/
def State.fitted (s : State) : Bool := decide (s.brake.trailer.line ≠ .notFitted)

/-- Supply usable (R149). -/
def State.supplyUsable (s : State) : Bool := s.gateOpen .trailer && s.valveSupplyOk

/-! ### Stages 1 and 2: inputs and transducers (R143) -/

/-- The pressure of a raw reading (R143). -/
def pressureOf (raw : Nat) : Nat := (clampZ 0 2000 ((((raw : Int) - 400) * 5).tdiv 8)).toNat

/-- An out-of-range raw reading (R143). -/
def rawOutOfRange (raw : Nat) : Bool := decide (raw < 200) || decide (3895 < raw)

/-- The brake pressure transducer: P_brk and fault 8 (R143). -/
def transducerStage (raw : Nat) (s : State) : State :=
  let bad := rawOutOfRange raw
  if s.active .brakePressureSensor then
    let good := holdSince s.now (!bad) s.brake.rawGoodSince
    if passed s.now 500 good then
      ((s.onBrake (fun b => { b with rawBad := 0, rawGoodSince := none })).onDemand
        (fun d => { d with pBrk := pressureOf raw })).reportInactive .brakePressureSensor
    else (s.onBrake (fun b => { b with rawGoodSince := good })).onDemand (fun d => { d with pBrk := 0 })
  else if bad then
    if 2 ≤ s.brake.rawBad then
      ((s.onBrake (fun b => { b with rawBad := 0, rawGoodSince := none })).onDemand
        (fun d => { d with pBrk := 0 })).raise .brakePressureSensor none
    else s.onBrake (fun b => { b with rawBad := b.rawBad + 1 })
  else (s.onBrake (fun b => { b with rawBad := 0 })).onDemand (fun d => { d with pBrk := pressureOf raw })

/-- The control-line transducer and the supply switch, read where the trailer is fitted (R143, R146). -/
def lineStage (raw : Nat) (closed : Bool) (s : State) : State :=
  if s.fitted then
    (s.onBrake (fun b => { b with rawLine := raw, supplyClosed := closed })).onTrailer (fun t =>
      { t with pTcMeas := if rawOutOfRange raw then none else some (pressureOf raw) })
  else s

/-! ### Stages 3 and 4: Brake Demand and the input checks (R144, R145) -/

/-- brake_active (R144). -/
def brakeActiveOf (failed left right : Bool) (pBrk : Nat) : Bool :=
  if failed then left && right else (left && right && decide (50 ≤ pBrk)) || decide (200 ≤ pBrk)

/-- What a publication of Brake Demand brings about at its event: the count of a brake engagement's end, the brake engagement
and the drop of the diff lock (R110, R117). -/
def publishDemand (s : State) : State :=
  let off := if s.brake.demand.brakeActive then none else some (s.axle.brakeOffAt.getD s.now)
  let t := if s.axle.brakeEngagement then s.onAxle (fun a => { a with brakeOffAt := off }) else s
  t.judgeBrakeEngagement.judgeDrop

/-- Stage 3: Brake Demand is formed and published. -/
def demandStage (left right park : Bool) (s : State) : State :=
  let failed := s.active .brakePressureSensor
  publishDemand (s.onDemand (fun d =>
    { d with
      pedalLeft := left
      pedalRight := right
      sensorFailed := failed
      brakeActive := brakeActiveOf failed left right d.pBrk
      parkApplied := park }))

/-- Stage 4: the checks of faults 22 and 30 (R145). -/
def inputChecks (s : State) : State :=
  let d := s.brake.demand
  let disagree := !d.sensorFailed && decide (200 ≤ d.pBrk) && !d.pedalLeft && !d.pedalRight
  let r := holdCheck s.now (s.active .brakeSwitchDisagree) disagree (!disagree) 1000 1000 s.brake.switchCheck
  let t := (s.onBrake (fun b => { b with switchCheck := r.1 })).report .brakeSwitchDisagree r.2
  let park := d.parkApplied && decide (200 < t.speed.set.vGround)
  let u := t.onBrake (fun b => { b with parkAtSpeed := park })
  if park then (if t.brake.parkAtSpeed then u else u.raise .parkAtSpeed none) else u.reportInactive .parkAtSpeed

/-! ### Stage 5: the supply line (R149 to R151) -/

/-- CHARGING, by the first row of R149 that holds: a closed switch gives READY with charge_start absent as well (DEDUCED,
log 58). -/
def chargingStep (park closed : Bool) (s : State) : State :=
  if park then (s.onTrailer (enterLine s.now .supplyOff)).reportInactive .trailerSupplyNotCharged
  else if s.supplyUsable then
    if closed then
      (s.onTrailer (fun t => { enterLine s.now .ready t with openSince := none })).reportInactive .trailerSupplyNotCharged
    else
      match s.brake.trailer.chargeStart with
      | none => s.onTrailer (fun t => { t with chargeStart := some s.now })
      | some u =>
        if u + 3000 ≤ s.now ∧ s.active .trailerSupplyNotCharged = false then s.raise .trailerSupplyNotCharged none else s
  else s.onTrailer (fun t => { t with chargeStart := none })

/-- READY becomes LOST: the latch is set and fault 4 is raised (R150). -/
def breakaway (s : State) : State :=
  (s.onTrailer (fun t => { enterLine s.now .lost t with ackSeen := false, closedSince := none })).raise .trailerSupplyLost none

/-- READY, with the breakaway test while supply is usable (R149, R152; the count DEDUCED, log 27). -/
def readyStep (park closed : Bool) (s : State) : State :=
  if park then s.onTrailer (enterLine s.now .supplyOff)
  else
    let since := if s.supplyUsable then holdSince s.now (!closed) s.brake.trailer.openSince else none
    let t := s.onTrailer (fun t => { t with openSince := since })
    if passed s.now 200 since then breakaway t else t

/-- LOST: the recharge count, and the clearing of the latch (R151). -/
def lostStep (closed : Bool) (s : State) : State :=
  let since := holdSince s.now closed s.brake.trailer.closedSince
  let charged := passed s.now 500 since
  let t := (s.onTrailer (fun t => { t with closedSince := since })).onBrake (fun b => { b with recharged := charged })
  if charged ∧ t.brake.trailer.ackSeen then t.clearLatch else t

/-- Stage 5 (R149 to R151). -/
def supplyStage (park closed : Bool) (s : State) : State :=
  match s.brake.trailer.line with
  | .notFitted => s
  | .supplyOff =>
    if park then s
    else s.onTrailer (fun t =>
      { enterLine s.now .charging t with chargeStart := if s.supplyUsable then some s.now else none })
  | .charging => chargingStep park closed s
  | .ready => readyStep park closed s
  | .lost => lostStep closed s

/-! ### Stages 6 and 7: the command, the deviation check, the demands (R147, R148, R153) -/

/-- The map value of a braked step (R147). -/
def mapValue (c : TrailerCal) (p : Nat) : Nat := clamp 0 1500 (c.pLead + (p * c.kTb + 32) / 64)

/-- P_map (R147). -/
def pMapNow (s : State) : Nat :=
  if s.brake.demand.brakeActive then
    mapValue s.trailerCal (if s.active .brakePressureSensor then 400 else s.brake.demand.pBrk)
  else 0

/-- P_tc of the supply-line state (R148). -/
def commandOf (line : SupplyLine) (pMap pAssist : Nat) (assist : Bool) : Nat :=
  match line with
  | .notFitted | .supplyOff => 0
  | .charging | .ready => if assist then max pMap pAssist else pMap
  | .lost => 1500

/-- Stage 6: the control-line command (R147, R148; at the clearing step DEDUCED, log 20). -/
def lineCommand (s : State) : State :=
  let assist := s.seq.published.shuttleDecel && decide (300 < s.speed.set.vGround)
  let pMap := pMapNow s
  s.onTrailer (fun t =>
    { t with pMap := pMap, assist := assist, pTc := commandOf t.line pMap s.trailerCal.pAssist assist })

/-- The deviation check (R153). -/
def deviationStage (s : State) : State :=
  let deviates := match s.brake.trailer.pTcMeas with
    | some m => decide (150 < dist m s.brake.trailer.pTc)
    | none => true
  let armed := s.supplyUsable
  let r := holdCheck s.now (s.active .trailerPressureDeviation) (armed && deviates) (armed && !deviates) 500 500
    s.brake.deviation
  (s.onBrake (fun b => { b with deviation := r.1 })).report .trailerPressureDeviation r.2

/-- channel 14 is on (R149). -/
def supplyOn (line : SupplyLine) : Bool :=
  match line with
  | .charging | .ready | .lost => true
  | .notFitted | .supplyOff => false

/-- Stage 7: the demands on channels 13 and 14 (R146, R148, R149). -/
def trailerOutputs (s : State) : State :=
  let t := s.brake.trailer
  (s.demand .trailerControl (if t.line = .notFitted then 0 else t.pTc)).demand .trailerSupply (bit (supplyOn t.line))

/-- The brake step: the stages of R142; what it leaves of the Trailer State is kept for TRAILER_STATUS (R155). In NOT_FITTED
the trailer's own stages do nothing (R146). -/
def brakeStep (inp : BrakeInputs) (s : State) : State :=
  let raw := clamp 0 4095 inp.rawBrake
  let read := lineStage (clamp 0 4095 inp.rawLine) inp.supplyClosed (s.onBrake (fun b => { b with rawBrake := raw }))
  let braked := inputChecks (demandStage inp.pedalLeft inp.pedalRight inp.parkApplied (transducerStage raw read))
  let t := if braked.fitted then
      deviationStage (lineCommand (supplyStage inp.parkApplied inp.supplyClosed braked))
    else braked
  (trailerOutputs t).onBrake (fun b => { b with report := b.trailer })

/-- BRAKE_STEP (R142). -/
def execBrakeStep (dt : Nat) (inp : BrakeInputs) (s : State) : Host.Outcome State Fault Refusal :=
  .next (s.event dt (brakeStep inp))

end Sys2Proof.Machine
end

