-- ==== Sys2Proof/Machine/Power.lean ====
section
/-! DEFINITION. Power states, restarts and the loss of the supply (09, R167 to R170; R71, R72; R93, R105). -/

namespace Sys2Proof.Machine

/-- The power records changed. -/
def State.onPower (s : State) (f : PowerState → PowerState) : State := { s with power := f s.power }

/-! ### Starts (R14, R36, R68, R86, R100, R105, R119, R140, R154, R170, R180, R189) -/

/-- A store whose calibration in use lacks a clutch entry (R104). -/
def storeUncalibrated (t : StoreState) : Bool := allClutches.any (fun c => (t.cal.clutches.get c).isNone)

/-- The holder of GEAR after a start (R17). -/
def startHolder (b : BuildRecord) (t : StoreState) : Holder := if storeUncalibrated t || b.serviceStrap then .part else .cab

/-- The part as a start leaves it: the store scanned, every other record at its initial value. -/
def startFrom (pending : List Instr) (free now : Nat) (b : BuildRecord) (mem : List Host.Cell) (lineRisen : Bool) : State :=
  let store := scanStore now mem
  State.fresh pending free now b (startHolder b store) store lineRisen

/-- A Soft restart (R105, R169): the store is drained, with the read-backs given, and then scanned; the Build Record is kept
(R72), and the clock goes on. The drain takes no time (DESIGN CHOICE, log 23). -/
def softRestart (rbs : List ReadBack) (s : State) : State :=
  startFrom s.pending s.free s.now s.build (drain rbs s).store.mem s.svc.lineRisen

/-! ### What an operation leaves in the memory without its read-back (R100, R102, R168) -/

/-- The address and the bytes that a program means to leave; an erase has none. -/
def meantBytes (m : List Host.Cell) (o : StoreOp) : Option (Nat × List Byte) :=
  match o with
  | .writeSlot p slot bytes _ => some (slotBase p slot, bytes)
  | .writeVoid p slot _ => some (slotBase p slot, [0])
  | .compactCopy p slot bytes _ _ => some (slotBase p slot, bytes)
  | .compactVoid p slot _ _ => some (slotBase p slot, [0])
  | .compactReceiving p _ => some (slotBase p 0, receivingHeader m p)
  | .compactActive p _ _ => some (slotBase p 0, activeHeader m p (pageSequence m p.other + 1))
  | .compactSpent p _ => some (slotBase p 0, spentHeader m p)
  | .prepareSpent p _ => some (slotBase p 0, spentHeader m p)
  | .formatReceiving _ => some (slotBase .p0 0, receivingHeader m .p0)
  | .formatActive _ => some (slotBase .p0 0, activeHeader m .p0 1)
  | .compactErase _ _ | .formatErase _ => none

/-- The page an erase works on. -/
def erasedPage (o : StoreOp) : Option Page :=
  match o with
  | .compactErase p _ => some p
  | .formatErase _ => some .p0
  | _ => none

/-- A byte whose program is cut short: the bits of the mask are left as they were (R99; DESIGN CHOICE,
log 7). -/
def tornByte (old meant mask : Byte) : Byte := old &&& (meant ||| mask)

/-- Bytes whose program is cut short; where the mask gives no byte, the program was whole. -/
def tornBytes (old meant mask : List Byte) : List Byte :=
  match old, meant with
  | o :: os, m :: ms => tornByte o m (mask.headD 0) :: tornBytes os ms mask.tail
  | _, _ => []

/-- Bytes whose erase is cut short: the bits of the mask are left as they were. -/
def tornErase (old mask : List Byte) : List Byte :=
  match old with
  | o :: os => (o ||| ~~~(mask.headD 0)) :: tornErase os mask.tail
  | [] => []

/-- The memory after the operation under way ends where it stands, the bits of the mask untouched. -/
def cutShort (mask : List Byte) (t : StoreState) : List Host.Cell :=
  match t.op with
  | none => t.mem
  | some o =>
    match meantBytes t.mem o, erasedPage o with
    | some (a, bytes), _ =>
      Memory.writeBytes t.mem a (tornBytes (Memory.readBytes t.mem a bytes.length) bytes mask)
    | none, some p =>
      Memory.writeBytes t.mem (pageBase p) (tornErase (Memory.readBytes t.mem (pageBase p) 1024) mask)
    | none, none => t.mem

/-! ### Power states (R167 to R169) -/

/-- FLUSH ends: a Soft restart when one is wanted, otherwise OFF (R168, R169). -/
def endFlush (rbs : List ReadBack) (s : State) : State :=
  if s.power.restartWanted then softRestart rbs s
  else s.channelsOff.onPower (fun p => { p with power := .off, hold := false })

/-- The ignition is judged off: SETTLE from RUN; in FLUSH the mark is cleared (R167, R169). -/
def ignitionOff (s : State) : State :=
  let t := s.onPower (fun p => { p with ignitionOn := false })
  match t.power.power with
  | .run => returnAtShutdown (t.onPower (fun p => { p with power := .settle, settleStart := t.now }))
  | .flush => t.onPower (fun p => { p with restartWanted := false })
  | .settle | .off => t

/-- The strap window opens (R71): the time it opens is kept in `start`. An operation of the store that is under way has come
to its physical end by then (DESIGN CHOICE, log 3). The power-hold line is as OFF or the loss of supply left it, and is held
from the Power-on start (DESIGN CHOICE, log 43). -/
def openWindow (s : State) : State :=
  { s with life := .strapWindow, start := s.now, store := { s.store with mem := cutShort [] s.store, op := none } }

/-- The ignition is judged on (R61, R168, R169). -/
def ignitionOn (s : State) : State :=
  let t := s.onPower (fun p => { p with ignitionOn := true })
  match t.power.power with
  | .settle =>
    (t.onPower (fun p => { p with power := .run })).onSeq (fun q => { q with neutralStartOk := false })
  | .flush => t.onPower (fun p => { p with restartWanted := true })
  | .off => openWindow t
  | .run => t

/-- The ignition reading of a power step (R167). -/
def judgeIgnition (high : Bool) (s : State) : State :=
  let low := holdSince s.now (!high) s.power.lowSince
  let up := holdSince s.now high s.power.highSince
  let t := s.onPower (fun p => { p with lowSince := low, highSince := up })
  if t.power.ignitionOn && passed t.now 50 low then ignitionOff t
  else if !t.power.ignitionOn && passed t.now 50 up then ignitionOn t
  else t

/-- SETTLE ends in FLUSH: the store hands its offset writes (R93, R167). -/
def beginFlush (s : State) : State :=
  handOffsets (s.onPower (fun p => { p with power := .flush, flushStart := s.now, restartWanted := false }))

/-- The ends of SETTLE and of FLUSH (R167, R168). -/
def judgePhase (rbs : List ReadBack) (s : State) : State :=
  match s.power.power with
  | .settle => if s.speed.set.vGround < 50 ∨ s.power.settleStart + 2000 ≤ s.now then beginFlush s else s
  | .flush => if s.power.flushStart + 500 ≤ s.now then endFlush rbs s else s
  | .run | .off => s

/-- The power step (R167): the ignition first, then the end of a phase that was not entered at this step. In OFF only the
ignition is read (R168). -/
def powerStep (ignition : Bool) (rbs : List ReadBack) (s : State) : State :=
  let t := judgeIgnition ignition s
  if t.power.power = s.power.power then judgePhase rbs t else t

/-- The store's report that it is drained (R168). -/
def storeDrained (s : State) : State := if s.power.power = .flush ∧ s.drained then endFlush [] s else s

/-- POWER_STEP (R167); it is taken in OFF as well, where it reads the ignition (R168). -/
def execPowerStep (dt : Nat) (ignition : Bool) (rbs : List ReadBack) (s : State) : Host.Outcome State Fault Refusal :=
  let t := s.advance dt
  .next (if t.life = .on then powerStep ignition rbs t else t)

/-- STORE_DRAINED (R168). -/
def execStoreDrained (dt : Nat) (s : State) : Host.Outcome State Fault Refusal := .next (s.event dt storeDrained)

/-! ### Supply and strap window (R71, R72) -/

/-- The supply is applied, or the ignition arrives under the supply (R71). -/
def applySupply (ignition : Bool) (s : State) : State :=
  match s.life with
  | .unpowered | .supplyNoIgnition => if ignition then openWindow s else { s with life := .supplyNoIgnition }
  | .strapWindow | .on => s

/-- A fitting strap: its pin read low at each of the last 10 of the 50 readings (R71). -/
def strapPresent (f : StrapReading → Bool) (l : List StrapReading) : Bool :=
  decide (l.length = 50) && (l.drop 40).all f

/-- The Build Record of the readings (R71). -/
def buildFrom (l : List StrapReading) : BuildRecord :=
  { trailerFitted := strapPresent StrapReading.trailerLow l
    draftFitted := strapPresent StrapReading.draftLow l
    radarFitted := strapPresent StrapReading.radarLow l
    diffLockFitted := strapPresent StrapReading.diffLockLow l
    serviceStrap := decide (l.length = 50) && l.all StrapReading.serviceLow }

/-- The service line read high at the last reading: the receiver reads frames from the start (R187). -/
def lineHigh (l : List StrapReading) : Bool :=
  match l.getLast? with
  | some r => !r.serviceLow
  | none => true

/-- The strap window ends 50 ms after it opened: the Build Record is set, and the Power-on start is taken, from which time is
counted (R71). -/
def endWindow (l : List StrapReading) (s : State) : State :=
  if s.life = .strapWindow ∧ s.start + 50 ≤ s.now then
    startFrom s.pending s.free 0 (buildFrom l) s.store.mem (lineHigh l)
  else s

/-- The part without supply: only the memory of the store is left (R93, R99), the rest as a start will find it. -/
def unpowered (mask : List Byte) (s : State) : State :=
  let mem := if s.opDone then cutShort [] s.store else cutShort mask s.store
  let t := State.fresh s.pending s.free s.now { trailerFitted := false } .part { StoreState.erased s.now with mem := mem, op := none } true
  { t with life := .unpowered, power := { t.power with hold := false, ignitionOn := false } }

/-- SUPPLY_APPLIED (R71). -/
def execSupplyApplied (dt : Nat) (ignition : Bool) (s : State) : Host.Outcome State Fault Refusal :=
  .next (applySupply ignition (s.advance dt))

/-- STRAP_WINDOW_END (R71). -/
def execStrapWindowEnd (dt : Nat) (readings : List StrapReading) (s : State) : Host.Outcome State Fault Refusal :=
  .next (endWindow readings (s.advance dt))

/-- LOSS_OF_SUPPLY (R93). -/
def execLossOfSupply (dt : Nat) (untouched : List Byte) (s : State) : Host.Outcome State Fault Refusal :=
  .next (unpowered untouched (s.advance dt))

end Sys2Proof.Machine
end

