-- ==== Sys2Proof/Machine/Items.lean ====
section
/-! DEFINITION. The items of the service line (11, R183, R184): their numbers, their values as bytes, and the write of an
item. Codings the spec does not settle are the model's (DESIGN CHOICE, log 9). -/

namespace Sys2Proof.Machine

/-! ### Values as bytes (R184) -/

/-- A flag. -/
def flagItem (b : Bool) : List Byte := leBytes 1 (bit b)

/-- A named value by its code; 255 when absent. -/
def namedItem (n : Option Nat) : List Byte := leBytes 1 (n.getD 255)

/-- A time, modulo 2 ^ 32 (DESIGN CHOICE, log 36), and 0xFFFFFFFF when absent. -/
def timeItem (t : Option Nat) : List Byte := leBytes 4 (t.getD 0xFFFFFFFF)

/-- Any other value, in two's complement, 0x8000 when absent. -/
def numberItem (n : Option Int) : List Byte :=
  match n with
  | some i => leBytes 2 (twos 16 i)
  | none => leBytes 2 0x8000

/-- A value that is always present. -/
def natItem (n : Nat) : List Byte := numberItem (some (n : Int))

/-! ### Codes in the order of the rules (R184) -/

/-- The unlock state (R184). -/
def unlockCode (s : State) : Nat :=
  match s.svc.unlock with
  | .locked => 0
  | .synced => 1
  | .keying => 1 + s.svc.words.length
  | .unlocked => 6

/-- direction, in the order of R39. -/
def directionItem (d : Direction) : Nat :=
  match d with
  | .fwd => 0
  | .rev => 1
  | .neutral => 2

/-- The shuttle lever, in the order of R181 (DESIGN CHOICE, log 9). -/
def leverCode (l : Lever) : Nat :=
  match l with
  | .neutral => 0
  | .forward => 1
  | .reverse => 2

/-- The rocker, in the order of R124 and not of R181 (DESIGN CHOICE, log 9). -/
def rockerCode (r : Rocker) : Nat :=
  match r with
  | .raise => 0
  | .hold => 1
  | .work => 2

/-- A mode OFF, ON or AUTO. -/
def modeItem (m : Option Mode) : List Byte :=
  namedItem (m.map (fun m => modeCode (some m)))

/-- The number of a channel (R69). -/
def chanNumber (i : Chan) : Nat := allChans.findIdx (fun k => decide (k = i))

/-- The channel of a number. -/
def chanOfNumber (n : Nat) : Option Chan := allChans[n]?

/-- A channel's drive kind, in the order of R69; channel 15 has none, which is absent (DESIGN CHOICE, log 9). -/
def driveItem (i : Chan) : Option Nat :=
  match i with
  | .spare => none
  | _ => some (bit (switched i))

/-- A channel's group, in the order of R69; the "none" of channel 15 is absent (DESIGN CHOICE, log 9). -/
def groupItem (i : Chan) : Option Nat :=
  match chanGroup i with
  | some .trans => some 0
  | some .axle => some 1
  | some .hitch => some 2
  | some .trailer => some 3
  | none => none

/-- A channel's state, in the order of R70. -/
def chanStateCode (c : ChanState) : Nat :=
  match c with
  | .off => 0
  | .driving => 1
  | .pullIn => 2
  | .hold => 3
  | .parked => 4
  | .faulted => 5

/-- The run state (R184). -/
def runCode (p : RunPhase) : Nat :=
  match p with
  | .idle => 0
  | .prepare => 1
  | .kissSearch => 2
  | .fillSearch => 3
  | .write => 4
  | .done => 5
  | .failed => 6

/-- The failure reason (R184). -/
def runReasonCode (r : Option RunReason) : Nat :=
  match r with
  | none => 0
  | some .drag => 1
  | some .kissNotFound => 2
  | some .fillNotFound => 3
  | some .store => 4
  | some .parkReleased => 5
  | some .moving => 6
  | some .engineLow => 7
  | some .pedal => 8
  | some .gateClosed => 9
  | some .shutdown => 10
  | some .calibLost => 11
  | some .aborted => 12

/-! ### Records as lists of fields (R184) -/

/-- Service Port. -/
def portItems (s : State) : List (List Byte) :=
  [ namedItem (some (unlockCode s)), flagItem s.build.serviceStrap, timeItem (s.svc.syncBlock.map (fun t => s.now - t)) ]

/-- Speed Set. -/
def speedItems (v : SpeedSet) : List (List Byte) :=
  [ natItem v.tin, natItem v.tout, natItem v.fax, natItem v.eng, natItem v.vWheel, natItem v.vGround, natItem v.slipF
  , flagItem v.slipValid, flagItem v.radarValid, flagItem v.engFresh ]

/-- Gear State (R39). -/
def gearItems (g : GearState) : List (List Byte) :=
  [ namedItem (some (gearCode g.gear)), namedItem (some (directionItem g.direction)), namedItem (some (kindCode g.shiftKind))
  , namedItem (some (phaseCode g.shiftPhase)), namedItem (some (gearCode g.target)), namedItem (g.pendingTarget.map gearCode)
  , namedItem (some (bit g.autoMode)), flagItem g.neutralStartOk, flagItem g.draftHold, flagItem g.shuttleDecel ]

/-- Axle State (R106). -/
def axleItems (a : AxleRec) : List (List Byte) :=
  [ namedItem (some (fwdCode a.fwd)), timeItem (some a.fwdEntry), flagItem a.transition
  , namedItem (some (bit (!a.dlEngaged))), modeItem a.fwdMode, modeItem a.dlMode, flagItem a.releaseBlock
  , flagItem a.dlCancel ]

/-- Hitch. P_set_used, D_set in use and M_used are sent as numbers where no setpoint is in use as well (DESIGN CHOICE,
log 9). -/
def hitchItems (h : HitchState) : List (List Byte) :=
  let r := h.report
  [ namedItem (some (liftCode h.lift)), timeItem (some h.entered), numberItem (h.pAct.map Int.ofNat)
  , numberItem (some h.dAct), numberItem (some r.dUsed), natItem r.pSetUsed, natItem r.dSet, natItem r.mUsed
  , numberItem (some r.eSlip), numberItem (some r.q), natItem h.gain, natItem h.deadband, natItem r.rawAdc
  , numberItem (some r.rawLeft), numberItem (some r.rawRight) ]

/-- Brake Demand (R144) with the raw readings; a switch is coded closed 0, open 1. -/
def brakeItems (b : BrakeState) : List (List Byte) :=
  let d := b.demand
  [ namedItem (some (bit (!d.pedalLeft))), namedItem (some (bit (!d.pedalRight))), natItem d.pBrk, flagItem d.sensorFailed
  , flagItem d.brakeActive, flagItem d.parkApplied, natItem b.rawBrake, natItem b.rawLine ]

/-- Trailer State (R146). -/
def trailerItems (t : TrailerRec) : List (List Byte) :=
  [ namedItem (some (supplyCode t.line)), timeItem (some t.entered), flagItem (decide (t.line = .lost)), natItem t.pMap
  , flagItem t.assist, natItem t.pTc, numberItem (t.pTcMeas.map Int.ofNat), timeItem t.chargeStart, timeItem t.openSince
  , timeItem t.closedSince, flagItem t.ackSeen ]

/-- A reclaim reference: its values one after another, each absent where there is none (R17). -/
def referenceItem (f : Func) (r : Option Reference) : List Byte :=
  match f, r with
  | .gear, _ => []
  | .calib, _ => []
  | .speed, some (.speed l a) => namedItem (some (leverCode l)) ++ namedItem (some (bit a))
  | .speed, _ => namedItem none ++ namedItem none
  | .axle, some (.axle m d) => modeItem (some m) ++ modeItem (some d)
  | .axle, _ => modeItem none ++ modeItem none
  | .hitchSet, some (.hitchSet p) => natItem p
  | .hitchSet, _ => numberItem none
  | .hitchLift, some (.hitchLift r) => namedItem (some (rockerCode r))
  | .hitchLift, _ => namedItem none

/-- An entry of the Function Authority Table with its enable state (R16, R19); a function that cannot be delegated has none. -/
def authItems (s : State) (f : Func) : List (List Byte) :=
  let e := s.auth.table.get f
  let delegable := decide (f ∈ delegableFuncs)
  [ namedItem (some (funcCode f - 1)), namedItem (some (holderCode e.holder)), flagItem delegable, timeItem e.leaseEnd
  , timeItem e.pendingSince, referenceItem f e.reference
  , namedItem (if delegable then some (enableCode (s.auth.enable.get f)) else none) ]

/-- The entries of the Fault List in ascending code order (R184). -/
def sortedFaults (s : State) : List FaultEntry :=
  allCodes.flatMap (fun c => s.fault.list.filter (fun e => decide (e.code = c)))

/-- An entry of the Fault List (R158); every field absent beyond the entries present. The source has the code of FAULT_NOTICE,
and an absent replaced_code is 255 (DESIGN CHOICE, log 9). -/
def faultItems (e : Option FaultEntry) : List (List Byte) :=
  [ namedItem (e.map (fun e => e.code.num)), namedItem (e.map (fun e => bit (!e.code.classA)))
  , namedItem (e.map (fun e => blockCode e.source)), timeItem (e.map FaultEntry.firstTime)
  , numberItem (e.map (fun e => (e.count : Int))), namedItem (e.map (fun e => bit e.active))
  , namedItem (e.map (fun e => bit e.acked)), namedItem (e.map (fun e => bit e.noticePending))
  , namedItem (e.bind (fun e => e.replaced.map FaultCode.num)), timeItem (e.bind FaultEntry.removalDue) ]

/-- A channel record as of the latest channel step (R70), then what R79 keeps in it; 255 where no code has been raised
(DESIGN CHOICE, log 9). -/
def chanItems (i : Chan) (c : Channel) : List (List Byte) :=
  [ namedItem (some (chanNumber i)), namedItem (driveItem i), namedItem (groupItem i), flagItem c.fitted, natItem c.demand
  , natItem c.commanded, natItem c.measured, timeItem c.faultTimer, namedItem (some (chanStateCode c.state))
  , timeItem (some c.since), flagItem c.ackSeen, namedItem (c.raised.map (fun r => r.1.num)), natItem (chanNumber i)
  , timeItem (c.raised.map Prod.snd) ]

/-- The run record; L before the first trial of a run reads 0 (DESIGN CHOICE, log 48). -/
def runItems (r : Run) : List (List Byte) :=
  [ namedItem (some (runCode r.phase)), namedItem (r.clutch.map (fun c => (Key.clutch c).code)), natItem r.named
  , natItem r.pulse, numberItem (r.kiss.map Int.ofNat), numberItem (r.fill.map Int.ofNat)
  , namedItem (some (runReasonCode r.reason)) ]

/-- The set of clutch keys without a record: bit k − 1 for key k (R104, R184). -/
def missingKeys (s : State) : Nat :=
  allClutches.foldl
    (fun n c => if (s.store.cal.clutches.get c).isNone then n + 2 ^ ((Key.clutch c).code - 1) else n) 0

/-- Store. -/
def storeItems (s : State) : List (List Byte) := [ leBytes 2 (missingKeys s), numberItem s.store.oil ]

/-- The working offsets in key order. -/
def offsetItems (s : State) : List (List Byte) := allClutches.map (fun c => numberItem (some (s.store.working.get c)))

/-- The fields of a payload in the order of R87. -/
def calFields (r : CalRecord) : List Int :=
  match r with
  | .clutch _ v => [v.tFill, v.pKiss, v.i0, v.iFull, v.adapt]
  | .hitch v => [v.adcLow, v.adcHigh, v.dFs, v.iThr, v.iMax]
  | .trailer v => [v.kTb, v.pLead, v.pAssist, v.iLo, v.iHi]
  | .speed v => [v.w, v.ppm, v.teethInput, v.teethOutput, v.teethFront, v.kFr, v.limitPct]
  | .serviceKey v => [v.w0, v.w1, v.w2, v.w3, v.w4]

/-- How many fields a key has (R87). -/
def fieldCount (k : Key) : Nat :=
  match k with
  | .speed => 7
  | _ => 5

/-- A calibration key as the calibration in use holds it. -/
def calItems (s : State) (k : Key) : List (List Byte) :=
  match s.calEntry k with
  | some r => (calFields r).map (fun i => numberItem (some i))
  | none => List.replicate (fieldCount k) (numberItem none)

/-! ### Items (R183, R184) -/

/-- The access classes of R183. -/
inductive AccessClass where
  | open_ | ro | svc | prot
  deriving DecidableEq, Repr

/-- The key of a calibration record number. -/
def keyOfRecord (n : Nat) : Option Key := allKeys.find? (fun k => decide (0x40 + k.code = n))

/-- The fields of a record, by record number; absent for a number the table does not give (R184). -/
def recordItems (s : State) (n : Nat) : Option (List (List Byte)) :=
  match n with
  | 0x00 => some (portItems s)
  | 0x01 => some (speedItems s.speed.set)
  | 0x02 => some (gearItems s.seq.published)
  | 0x03 => some (axleItems s.axle.published)
  | 0x04 => some (hitchItems s.hitch)
  | 0x05 => some (brakeItems s.brake)
  | 0x06 => some (trailerItems s.brake.trailer)
  | 0x30 => some (runItems s.run)
  | 0x31 => some (storeItems s)
  | 0x32 => some (offsetItems s)
  | _ =>
    if 0x09 ≤ n ∧ n ≤ 0x0E then (funcOf (n - 8)).map (authItems s)
    else if 0x10 ≤ n ∧ n ≤ 0x1F then some (faultItems (sortedFaults s)[n - 0x10]?)
    else if 0x20 ≤ n ∧ n ≤ 0x2F then (chanOfNumber (n - 0x20)).map (fun i => chanItems i (s.chan.snapshot.get i))
    else (keyOfRecord n).map (calItems s)

/-- The value of an item, absent for an unknown number. -/
def itemValue (s : State) (item : Nat) : Option (List Byte) :=
  match recordItems s (item / 256) with
  | some l => l[item % 256]?
  | none => none

/-- The access class of a known item (R183). -/
def itemClass (item : Nat) : AccessClass :=
  if item / 256 = 0 then .open_
  else if item = 0x040A ∨ item = 0x040B ∨ item / 256 = 0x32 then .svc
  else if (keyOfRecord (item / 256)).isSome then .prot
  else .ro

/-! ### Writes (R101, R124, R183) -/

/-- A value clamped to a range. -/
def clampField (lo hi : Nat) (v : Int) : Nat := (clampZ lo hi v).toNat

/-- An offset clamped and taken toward zero to a multiple of 4 (R183). -/
def clampOffset (v : Int) : Int := (clampZ (-40) 40 v).tdiv 4 * 4

/-- A payload with one field replaced, clamped to its range and against the other fields (R87, R183). -/
def putField (r : CalRecord) (i : Nat) (v : Int) : CalRecord :=
  match r with
  | .clutch c p =>
    .clutch c (match i with
      | 0 => { p with tFill := clampField 40 400 v }
      | 1 => { p with pKiss := clampField 100 800 v }
      | 2 => { p with i0 := clampField 150 450 v }
      | 3 => { p with iFull := clampField 600 1200 v }
      | _ => { p with adapt := clampOffset v })
  | .hitch p =>
    .hitch (match i with
      | 0 => { p with adcLow := clampField 0 (p.adcHigh - 100) v }
      | 1 => { p with adcHigh := clampField (p.adcLow + 100) 4095 v }
      | 2 => { p with dFs := clampField 500 4095 v }
      | 3 => { p with iThr := clampField 200 (min 600 p.iMax) v }
      | _ => { p with iMax := clampField p.iThr 1500 v })
  | .trailer p =>
    .trailer (match i with
      | 0 => { p with kTb := clampField 0 255 v }
      | 1 => { p with pLead := clampField 0 200 v }
      | 2 => { p with pAssist := clampField 0 300 v }
      | 3 => { p with iLo := clampField 100 600 v }
      | _ => { p with iHi := clampField 700 1500 v })
  | .speed p =>
    .speed (match i with
      | 0 => { p with w := clampField 256 4095 v }
      | 1 => { p with ppm := clampField 20 2000 v }
      | 2 => { p with teethInput := clampField 8 120 v }
      | 3 => { p with teethOutput := clampField 8 120 v }
      | 4 => { p with teethFront := clampField 8 120 v }
      | 5 => { p with kFr := clampField 200 320 v }
      | _ => { p with limitPct := clampField 30 100 v })
  | .serviceKey p =>
    let w := (v % 65536).toNat
    .serviceKey (match i with
      | 0 => { p with w0 := w }
      | 1 => { p with w1 := w }
      | 2 => { p with w2 := w }
      | 3 => { p with w3 := w }
      | _ => { p with w4 := w })

/-- The payload a service write builds on (R101): the latest one, or for HITCH the base payload. -/
def basePayload (s : State) (k : Key) : Option CalRecord :=
  match s.latestPayload k, k with
  | some r, _ => some r
  | none, .hitch => some (.hitch { adcLow := 0, adcHigh := 4095, dFs := 4095, iThr := 200, iMax := 1500 })
  | none, _ => none

/-- A calibration field is written: a store write is handed, or declined UNCALIBRATED (R101, R183). -/
def writeCalField (k : Key) (i : Nat) (v : Int) (s : State) : State × Option Reason :=
  match basePayload s k with
  | some r => (s.handWrite { record := putField r i v, fromRun := false }, none)
  | none => (s, some .uncalibrated)

/-- A working offset is written (R88, R93, R183). -/
def writeOffset (i : Nat) (v : Int) (s : State) : State × Option Reason :=
  match allClutches[i]? with
  | some c =>
    match s.latestClutch c with
    | some _ => (changeWorking c (clampOffset v) s, none)
    | none => (s, some .uncalibrated)
  | none => (s, some .unknown)

/-- A write that has passed its access class and width (R183). -/
def putItem (item : Nat) (v : Int) (s : State) : State × Option Reason :=
  if item = 0x040A then (s.onHitch (fun h => { h with gain := clampField 1 255 v }), none)
  else if item = 0x040B then (s.onHitch (fun h => { h with deadband := clampField 0 50 v }), none)
  else if item / 256 = 0x32 then writeOffset (item % 256) v s
  else
    match keyOfRecord (item / 256) with
    | some k => writeCalField k (item % 256) v s
    | none => (s, some .unknown)

/-- The access case that turns a write away (R183). -/
def writeDenied (item : Nat) (s : State) : Option Reason :=
  let locked := decide (s.svc.unlock ≠ .unlocked)
  match itemClass item with
  | .open_ => some .notPermitted
  | .ro => some .notPermitted
  | .svc => if locked then some .locked else none
  | .prot =>
    if locked || decide (50 ≤ s.speed.set.vGround) || !s.brake.demand.parkApplied then some .locked else none

/-- WRITE_ITEM judged (R183, R184). -/
def judgeWrite (item : Nat) (value : List Byte) (s : State) : State × Option Reason :=
  match itemValue s item with
  | none => (s, some .unknown)
  | some old =>
    match writeDenied item s with
    | some r => (s, some r)
    | none => if value.length = old.length then putItem item (ofTwos 16 (leNat value)) s else (s, some .unknown)

/-- A SERVICE_KEY word (R183). -/
def secretItem (item : Nat) : Bool := decide (item / 256 = 0x4D)

/-- READ_ITEM judged: the value, or the reason (R183). -/
def judgeRead (item : Nat) (s : State) : List Byte ⊕ Reason :=
  match itemValue s item with
  | none => .inr .unknown
  | some v =>
    if secretItem item then .inr .notPermitted
    else if itemClass item = .open_ ∨ s.svc.unlock = .unlocked then .inl v
    else .inr .locked

end Sys2Proof.Machine
end

