-- ==== Sys2Proof/Machine/Service.lean ====
section
/-! DEFINITION. The Service Port (11): bytes and frames, answers, the unlock sequence, and the commands of the workshop tool.
A complete frame waits in `svc.frame` for the command that judges it (DESIGN CHOICE, log 5). -/

namespace Sys2Proof.Machine

/-- The Service Port's records changed. -/
def State.onSvc (s : State) (f : SvcState → SvcState) : State := { s with svc := f s.svc }

/-! ### Frames (R182) -/

/-- The bytes of a frame: length, kind, payload and the check byte that brings the sum to 0 (R182). -/
def frameBytes (kind : Nat) (payload : List Byte) : List Byte :=
  let bs := leBytes 1 payload.length ++ leBytes 1 kind ++ payload
  bs ++ [0 - bs.foldl (· + ·) 0]

/-- The frame of a kind and payload; absent for an unknown kind, an answer kind among them
(DEDUCED, log 24), or a length that does not fit (R182). -/
def parseFrame (kind : Nat) (p : List Byte) : Option SvcFrame :=
  match kind, p with
  | 0x01, [a, b] => some (.sync (leNat [a, b]))
  | 0x02, [a, b] => some (.key (leNat [a, b]))
  | 0x03, [] => some .cancel
  | 0x04, [] => some .lock
  | 0x05, [a, b] => some (.readItem (leNat [a, b]))
  | 0x06, a :: b :: c :: v =>
    if v.length ≤ 3 then some (.writeItem (leNat [a, b]) (c :: v)) else none
  | 0x07, [a] => some (.take a.toNat)
  | 0x08, [a] => some (.release a.toNat)
  | 0x09, [a] => some (.calRun a.toNat)
  | 0x0A, [] => some .calAbort
  | 0x0B, [] => some .storeNow
  | 0x0C, [] => some .restart
  | _, _ => none

/-- An answer is formed, and the frame it answers is no longer waiting. -/
def State.answer (s : State) (kind : Nat) (payload : List Byte) : State :=
  s.onSvc (fun v => { v with frame := none, answer := some (frameBytes kind payload), sending := false })

/-- OK, or REFUSED with a reason (section 11.1). -/
def State.answerResult (s : State) (r : Option Reason) : State :=
  match r with
  | none => s.answer 0x81 []
  | some r => s.answer 0x83 (leBytes 1 (reasonCode r))

/-- REFUSED. -/
def State.answerRefused (s : State) (r : Reason) : State := s.answerResult (some r)

/-- A well-formed frame: the silence deadline moves, and the frame waits for its judgement, or is answered UNKNOWN
(R182, R185, R187). -/
def frameComplete (bs : List Byte) (s : State) : State :=
  let t := s.onSvc (fun v =>
    { v with
      rx := .answering
      buf := []
      silence := if s.build.serviceStrap then none else some (s.now + 5000) })
  match parseFrame (leNat ((bs.drop 1).take 1)) ((bs.drop 2).take (bs.length - 3)) with
  | some f => t.onSvc (fun v => { v with frame := some f })
  | none => t.answerRefused .unknown

/-- A byte of a frame under way (R182). -/
def frameByte (bs : List Byte) (s : State) : State :=
  if leNat (bs.take 1) + 3 ≤ bs.length then
    if bs.foldl (· + ·) 0 = 0 then frameComplete bs s else s.onSvc (fun v => { v with rx := .idle, buf := [] })
  else s.onSvc (fun v => { v with buf := bs, lastByte := s.now })

/-- A byte received on the service line (R182, R187). -/
def serviceByte (b : Byte) (s : State) : State :=
  if s.svc.lineRisen then
    match s.svc.rx with
    | .idle => if 32 < b.toNat then s else s.onSvc (fun v => { v with rx := .receiving, buf := [b], lastByte := s.now })
    | .receiving => frameByte (s.svc.buf ++ [b]) s
    | .answering => s
  else s

/-- The gap timer expires, 5 ms after the latest byte of a frame under way (R182). -/
def gapExpiry (s : State) : State :=
  if s.svc.rx = .receiving ∧ s.svc.lastByte + 5 ≤ s.now then s.onSvc (fun v => { v with rx := .idle, buf := [] }) else s

/-- The transmission of an answer begins (R182). -/
def answerStart (s : State) : State :=
  if s.svc.rx = .answering ∧ s.svc.answer.isSome then s.onSvc (fun v => { v with sending := true }) else s

/-- The last byte of an answer has been sent; a Soft restart follows a RESTART (R182, R188). -/
def answerSent (rbs : List ReadBack) (s : State) : State :=
  if s.svc.sending then
    if s.svc.restartAfter then softRestart rbs s
    else s.onSvc (fun v => { v with rx := .idle, answer := none, sending := false, lastAnswer := some s.now })
  else s

/-! ### The unlock sequence (R185 to R187) -/

/-- UNLOCKED, or a sequence under way, ends in LOCKED; functions leave SVC where UNLOCKED ended (R30, R186). -/
def toLocked (s : State) : State :=
  let t := s.onSvc (fun v => { v with unlock := .locked, words := [] })
  if s.svc.unlock = .unlocked then returnFromService t else t

/-- SYNC (R185). -/
def judgeSync (word : Nat) (s : State) : State :=
  let ok (t : State) : State := t.answer 0x81 (leBytes 2 0x4BAD)
  if word ≠ 0x4B2D then s.answerRefused .unknown
  else if s.svc.unlock = .unlocked then ok s
  else if s.svc.syncBlock.isSome then s.answerRefused .locked
  else ok (s.onSvc (fun v => { v with unlock := .synced, words := [] }))

/-- The five words of SERVICE_KEY in use (R185). -/
def keyWords (k : ServiceKey) : List Nat := [k.w0, k.w1, k.w2, k.w3, k.w4]

/-- KEY (R185). -/
def judgeKey (word : Nat) (s : State) : State :=
  match s.svc.unlock with
  | .locked | .unlocked => s.answerRefused .locked
  | .synced | .keying =>
    if (match s.svc.lastAnswer with
        | some t => decide (s.now < t + 50)
        | none => false) then s.answer 0x82 []
    else
      let words := s.svc.words ++ [word]
      if words.length < 5 then (s.onSvc (fun v => { v with unlock := .keying, words := words })).answerResult none
      else if words = keyWords s.serviceKey then
        (s.onSvc (fun v => { v with unlock := .unlocked, words := [] })).answerResult none
      else
        (s.onSvc (fun v => { v with unlock := .locked, words := [], syncBlock := some s.now })).answerRefused .locked

/-- CANCEL (R185, R187). -/
def judgeCancel (s : State) : State :=
  if s.build.serviceStrap then s.answerRefused .notPermitted else (toLocked s).answerResult none

/-- LOCK (R186, R187). -/
def judgeLock (s : State) : State :=
  if s.build.serviceStrap then s.answerRefused .notPermitted
  else (if s.svc.unlock = .unlocked then toLocked s else s).answerResult none

/-- The silence deadline expires (R186, R187). -/
def silenceExpiry (s : State) : State :=
  if passed s.now 0 s.svc.silence ∧ s.build.serviceStrap = false then
    (toLocked s).onSvc (fun v => { v with silence := none })
  else s

/-- The SYNC block expires 10,000 ms after it was set (R185). -/
def syncBlockExpiry (s : State) : State :=
  if passed s.now 10000 s.svc.syncBlock then s.onSvc (fun v => { v with syncBlock := none }) else s

/-! ### Commands (R30, R94, R98, R183, R188) -/

/-- A command reaches its block only in UNLOCKED (R188). -/
def unlockedOnly (s : State) (f : State → State) : State :=
  if s.svc.unlock = .unlocked then f s else s.answerRefused .locked

/-- The state and the answer of a judged command. -/
def answered (r : State × Option Reason) : State := r.1.answerResult r.2

/-- TAKE at the Arbiter (R30). -/
def judgeTake (code : Nat) (s : State) : State :=
  match funcOf code with
  | none => s.answerRefused .unknown
  | some f =>
    match s.holder f with
    | .svc => s.answerResult none
    | .fender => s.answerRefused .busy
    | .cab | .impl | .part => (s.seize f .svc).answerResult none

/-- RELEASE at the Arbiter (R30). -/
def judgeServiceRelease (code : Nat) (s : State) : State :=
  match funcOf code with
  | none => s.answerRefused .unknown
  | some f =>
    if s.holder f = .svc then (s.setHolder f (s.target f)).answerResult none else s.answerRefused .notHolder

/-- The CALIB check before CAL_RUN and CAL_ABORT (R20, R188). -/
def withCalib (s : State) (f : State → State × Option Reason) : State :=
  if s.holder .calib = .svc then answered (f s) else s.answerRefused .notHolder

/-- RESTART (R188): v_ground is judged before the power state (DESIGN CHOICE, log 59). -/
def judgeRestart (s : State) : State :=
  if 50 ≤ s.speed.set.vGround then s.answerRefused .inhibited
  else if s.power.power ≠ .run then s.answerRefused .notPermitted
  else (s.onSvc (fun v => { v with restartAfter := true })).answerResult none

/-- READ_ITEM (R183). -/
def takeRead (item : Nat) (s : State) : State :=
  match judgeRead item s with
  | .inl v => s.answer 0x84 (leBytes 2 item ++ v)
  | .inr r => s.answerRefused r

/-- The waiting frame is judged where it is the one the command names. -/
def withFrame (s : State) (f : SvcFrame → Option State) : State :=
  match s.svc.frame with
  | some x => (f x).getD s
  | none => s

/-! ### The commands of the service line -/

/-- SERVICE_BYTE (R182). -/
def execServiceByte (dt : Nat) (b : Byte) (s : State) : Host.Outcome State Fault Refusal := .next (s.event dt (serviceByte b))

/-- SERVICE_GAP_EXPIRY (R182). -/
def execServiceGapExpiry (dt : Nat) (s : State) : Host.Outcome State Fault Refusal := .next (s.event dt gapExpiry)

/-- ANSWER_START (R182). -/
def execAnswerStart (dt : Nat) (s : State) : Host.Outcome State Fault Refusal := .next (s.event dt answerStart)

/-- ANSWER_SENT (R182). -/
def execAnswerSent (dt : Nat) (rbs : List ReadBack) (s : State) : Host.Outcome State Fault Refusal :=
  .next (s.event dt (answerSent rbs))

/-- SYNC (R185). -/
def execSync (dt : Nat) (s : State) : Host.Outcome State Fault Refusal :=
  .next (s.event dt (fun s => withFrame s (fun x => match x with
    | .sync w => some (judgeSync w s)
    | _ => none)))

/-- KEY (R185). -/
def execKey (dt : Nat) (s : State) : Host.Outcome State Fault Refusal :=
  .next (s.event dt (fun s => withFrame s (fun x => match x with
    | .key w => some (judgeKey w s)
    | _ => none)))

/-- CANCEL (R185). -/
def execCancel (dt : Nat) (s : State) : Host.Outcome State Fault Refusal :=
  .next (s.event dt (fun s => withFrame s (fun x => match x with
    | .cancel => some (judgeCancel s)
    | _ => none)))

/-- LOCK (R186). -/
def execLock (dt : Nat) (s : State) : Host.Outcome State Fault Refusal :=
  .next (s.event dt (fun s => withFrame s (fun x => match x with
    | .lock => some (judgeLock s)
    | _ => none)))

/-- READ_ITEM (R183). -/
def execReadItem (dt : Nat) (s : State) : Host.Outcome State Fault Refusal :=
  .next (s.event dt (fun s => withFrame s (fun x => match x with
    | .readItem n => some (takeRead n s)
    | _ => none)))

/-- WRITE_ITEM (R183). -/
def execWriteItem (dt : Nat) (s : State) : Host.Outcome State Fault Refusal :=
  .next (s.event dt (fun s => withFrame s (fun x => match x with
    | .writeItem n v => some (answered (judgeWrite n v s))
    | _ => none)))

/-- TAKE (R30). -/
def execTake (dt : Nat) (s : State) : Host.Outcome State Fault Refusal :=
  .next (s.event dt (fun s => withFrame s (fun x => match x with
    | .take n => some (unlockedOnly s (judgeTake n))
    | _ => none)))

/-- RELEASE (R30). -/
def execRelease (dt : Nat) (s : State) : Host.Outcome State Fault Refusal :=
  .next (s.event dt (fun s => withFrame s (fun x => match x with
    | .release n => some (unlockedOnly s (judgeServiceRelease n))
    | _ => none)))

/-- CAL_RUN (R94). -/
def execCalRun (dt pedal : Nat) (s : State) : Host.Outcome State Fault Refusal :=
  .next (s.event dt (fun s => withFrame s (fun x => match x with
    | .calRun n => some (unlockedOnly s (fun s => withCalib s (judgeCalRun n pedal)))
    | _ => none)))

/-- CAL_ABORT (R98). -/
def execCalAbort (dt : Nat) (s : State) : Host.Outcome State Fault Refusal :=
  .next (s.event dt (fun s => withFrame s (fun x => match x with
    | .calAbort => some (unlockedOnly s (fun s => withCalib s judgeCalAbort))
    | _ => none)))

/-- STORE_NOW (R93). -/
def execStoreNow (dt : Nat) (s : State) : Host.Outcome State Fault Refusal :=
  .next (s.event dt (fun s => withFrame s (fun x => match x with
    | .storeNow => some (unlockedOnly s (fun s => (handOffsets s).answerResult none))
    | _ => none)))

/-- RESTART (R188). -/
def execRestart (dt : Nat) (s : State) : Host.Outcome State Fault Refusal :=
  .next (s.event dt (fun s => withFrame s (fun x => match x with
    | .restart => some (unlockedOnly s judgeRestart)
    | _ => none)))

/-- SILENCE_EXPIRY (R186). -/
def execSilenceExpiry (dt : Nat) (s : State) : Host.Outcome State Fault Refusal := .next (s.event dt silenceExpiry)

/-- SYNC_BLOCK_EXPIRY (R185). -/
def execSyncBlockExpiry (dt : Nat) (s : State) : Host.Outcome State Fault Refusal := .next (s.event dt syncBlockExpiry)

/-- SERVICE_LINE_FIRST_RISE (R187). -/
def execServiceLineFirstRise (dt : Nat) (s : State) : Host.Outcome State Fault Refusal :=
  .next (s.event dt (fun s => s.onSvc (fun v => { v with lineRisen := true })))

end Sys2Proof.Machine
end

