-- ==== Sys2Proof/Machine/Dispatch.lean ====
section
/-! DEFINITION. One arm per command: the meaning of each row of spec/opcode_table.json, in its order. -/

namespace Sys2Proof.Machine

/-- The effect of a command on everything but the queue of commands. -/
def exec (i : Instr) (s : State) : Host.Outcome State Fault Refusal :=
  match i with
  | .speedSample dt pedal => Sys2Proof.Machine.execSpeedSample dt pedal s
  | .pickupEdge dt p us => Sys2Proof.Machine.execPickupEdge dt p us s
  | .authorityReview dt => Sys2Proof.Machine.execAuthorityReview dt s
  | .implAuthorityRequest dt => Sys2Proof.Machine.execImplAuthorityRequest dt s
  | .implAuthorityKeep dt => Sys2Proof.Machine.execImplAuthorityKeep dt s
  | .implAuthorityRelease dt => Sys2Proof.Machine.execImplAuthorityRelease dt s
  | .pendingTimeout dt f => Sys2Proof.Machine.execPendingTimeout dt f s
  | .leaseLapse dt f => Sys2Proof.Machine.execLeaseLapse dt f s
  | .shiftStep dt pedal => Sys2Proof.Machine.execShiftStep dt pedal s
  | .cabCommandGearUp dt => Sys2Proof.Machine.execCabCommandGearUp dt s
  | .cabCommandGearDown dt => Sys2Proof.Machine.execCabCommandGearDown dt s
  | .cabCommandDirection dt => Sys2Proof.Machine.execCabCommandDirection dt s
  | .cabCommandAck dt => Sys2Proof.Machine.execCabCommandAck dt s
  | .implSpeed dt => Sys2Proof.Machine.execImplSpeed dt s
  | .channelStep dt amps volts => Sys2Proof.Machine.execChannelStep dt amps volts s
  | .oilTimer dt temp => Sys2Proof.Machine.execOilTimer dt temp s
  | .runStep dt pedal => Sys2Proof.Machine.execRunStep dt pedal s
  | .slotProgramComplete dt rb => Sys2Proof.Machine.execSlotProgramComplete dt rb s
  | .voidProgramComplete dt => Sys2Proof.Machine.execVoidProgramComplete dt s
  | .pageEraseComplete dt rb => Sys2Proof.Machine.execPageEraseComplete dt rb s
  | .headerProgramComplete dt rb => Sys2Proof.Machine.execHeaderProgramComplete dt rb s
  | .storeDrained dt => Sys2Proof.Machine.execStoreDrained dt s
  | .axleStep dt switchClosed => Sys2Proof.Machine.execAxleStep dt switchClosed s
  | .implAxle dt => Sys2Proof.Machine.execImplAxle dt s
  | .hitchStep dt inp => Sys2Proof.Machine.execHitchStep dt inp s
  | .implHitchSetpoint dt => Sys2Proof.Machine.execImplHitchSetpoint dt s
  | .implHitchRaise dt => Sys2Proof.Machine.execImplHitchRaise dt s
  | .implHitchWork dt => Sys2Proof.Machine.execImplHitchWork dt s
  | .hitchStatus dt => Sys2Proof.Machine.execHitchStatus dt s
  | .brakeStep dt inp => Sys2Proof.Machine.execBrakeStep dt inp s
  | .trailerStatus dt => Sys2Proof.Machine.execTrailerStatus dt s
  | .entryRemoval dt code => Sys2Proof.Machine.execEntryRemoval dt code s
  | .powerStep dt ignition rbs => Sys2Proof.Machine.execPowerStep dt ignition rbs s
  | .supplyApplied dt ignition => Sys2Proof.Machine.execSupplyApplied dt ignition s
  | .strapWindowEnd dt readings => Sys2Proof.Machine.execStrapWindowEnd dt readings s
  | .linkCheck dt => Sys2Proof.Machine.execLinkCheck dt s
  | .engineReport dt data => Sys2Proof.Machine.execEngineReport dt data s
  | .operatorDemandA dt data => Sys2Proof.Machine.execOperatorDemandA dt data s
  | .operatorDemandB dt data => Sys2Proof.Machine.execOperatorDemandB dt data s
  | .eventFrameReceived dt l ident data => Sys2Proof.Machine.execEventFrameReceived dt l ident data s
  | .frameSent dt l => Sys2Proof.Machine.execFrameSent dt l s
  | .reportTimer dt => Sys2Proof.Machine.execReportTimer dt s
  | .busOff dt l => Sys2Proof.Machine.execBusOff dt l s
  | .linkRejoin dt l => Sys2Proof.Machine.execLinkRejoin dt l s
  | .serviceByte dt b => Sys2Proof.Machine.execServiceByte dt b s
  | .serviceGapExpiry dt => Sys2Proof.Machine.execServiceGapExpiry dt s
  | .answerStart dt => Sys2Proof.Machine.execAnswerStart dt s
  | .answerSent dt rbs => Sys2Proof.Machine.execAnswerSent dt rbs s
  | .sync dt => Sys2Proof.Machine.execSync dt s
  | .key dt => Sys2Proof.Machine.execKey dt s
  | .cancel dt => Sys2Proof.Machine.execCancel dt s
  | .lock dt => Sys2Proof.Machine.execLock dt s
  | .readItem dt => Sys2Proof.Machine.execReadItem dt s
  | .writeItem dt => Sys2Proof.Machine.execWriteItem dt s
  | .take dt => Sys2Proof.Machine.execTake dt s
  | .release dt => Sys2Proof.Machine.execRelease dt s
  | .calRun dt pedal => Sys2Proof.Machine.execCalRun dt pedal s
  | .calAbort dt => Sys2Proof.Machine.execCalAbort dt s
  | .storeNow dt => Sys2Proof.Machine.execStoreNow dt s
  | .restart dt => Sys2Proof.Machine.execRestart dt s
  | .silenceExpiry dt => Sys2Proof.Machine.execSilenceExpiry dt s
  | .syncBlockExpiry dt => Sys2Proof.Machine.execSyncBlockExpiry dt s
  | .lossOfSupply dt untouched => Sys2Proof.Machine.execLossOfSupply dt untouched s
  | .serviceLineFirstRise dt => Sys2Proof.Machine.execServiceLineFirstRise dt s

end Sys2Proof.Machine
end

