-- ==== Sys2Proof/Safety.lean ====
section
/-! DEFINITION. What a sound state of the part is: the standing laws of the Fault List (R158 to R160), of the outputs (R74),
of the gears (R39), of the queues and mailboxes (R101, R175, R176, R178) and of the store's memory (R99). Each is a law
that every step keeps from any state that has it. -/

namespace Sys2Proof.Machine

/-! ### The Fault List -/

/-- One entry agrees with the set of active codes: its flag follows the code, its count is 1 to 255, and removal_due is set
exactly while the entry is inactive and acknowledged (R158, R160). -/
def FaultEntry.sound (active : List FaultCode) (e : FaultEntry) : Bool :=
  decide (e.active = decide (e.code ∈ active)) && decide (1 ≤ e.count) && decide (e.count ≤ 255)
    && decide (e.removalDue.isSome = (!e.active && e.acked))

/-- The Fault List holds at most 16 entries, no two with the same code, every active class A code has an entry, and each
entry is sound (R158). -/
def FaultState.sound (f : FaultState) : Bool :=
  decide (f.list.length ≤ 16) && decide ((f.list.map FaultEntry.code).Nodup)
    && f.active.all (fun c => !c.classA || f.list.any (fun e => decide (e.code = c)))
    && f.list.all (FaultEntry.sound f.active)

/-! ### The outputs -/

/-- A driving state. -/
def ChanState.drives (c : ChanState) : Bool :=
  match c with
  | .driving | .pullIn | .hold => true
  | .off | .parked | .faulted => false

/-- A channel record under its gate: it drives only while it is fitted and its gate is open, and it is commanded a current
only while it drives (R70, R74). -/
def Channel.gated (gateOpen : Bool) (c : Channel) : Bool :=
  (!c.state.drives || (c.fitted && gateOpen)) && (c.state.drives || decide (c.commanded = 0))

/-- Every channel is under its gate. -/
def State.outputsGated (s : State) : Bool := allChans.all (fun i => (s.chan.channels.get i).gated (s.chanGate i))

/-! ### The gears -/

/-- N, F1 to F12, or V1 to V8 (R39). -/
def Gear.legal (g : Gear) : Bool :=
  match g with
  | .neutral => true
  | .fwd n => within 1 12 n
  | .rev n => within 1 8 n

/-- The gears the Shift Sequencer holds and publishes are legal, a shift in flight heads for a gear, the neutral number and
the preselect are gear numbers, and the auto span lies within 1 to 12 (R37, R39, R41, R44, R64). -/
def SeqState.gearsLegal (q : SeqState) : Bool :=
  (q.shift.isNone || decide (q.target ≠ .neutral)) && q.gear.legal && q.target.legal && q.pendingTarget.all Gear.legal && q.preselect.all (within 1 12)
    && within 1 12 q.neutralNumber && within 1 12 q.gMin && within q.gMin 12 q.gMax
    && q.published.gear.legal && q.published.target.legal && q.published.pendingTarget.all Gear.legal
    && decide (q.published.direction = q.published.gear.direction)

/-- No off-going clutch of a shift in flight is an element of its target, and a SIMPLE shift keeps the direction (R44). -/
def SeqState.shiftLegal (q : SeqState) : Bool :=
  q.shift.all (fun r =>
    r.offGoing.all (fun c => decide (c ∉ elements q.target)) && (decide (r.kind ≠ .simple) || decide (q.gear.dir = q.target.dir)))

/-! ### Queues and mailboxes -/

/-- An event queue and an event transmit queue of at most 8 entries, and at most one copy in each mailbox, the mailboxes by
rising identifier (R175, R176, R178). -/
def LinkState.bounded (k : LinkState) : Bool :=
  decide (k.inbox.length ≤ 8) && decide (k.outbox.length ≤ 8) && decide ((k.mail.map Mail.ident).Pairwise (· < ·))

/-- Both links are within their bounds, and the store queue holds at most one entry per key (R101). -/
def State.queuesBounded (s : State) : Bool :=
  s.link.vehicle.bounded && s.link.implement.bounded
    && decide ((s.store.queue.map (fun w => w.record.key)).Nodup)

/-! ### Words of the statements -/

/-- The capture record of a pickup (R2). -/
def SpeedState.capture (q : SpeedState) (p : Pickup) : Capture :=
  match p with
  | .input => q.capInput
  | .output => q.capOutput
  | .front => q.capFront
  | .radar => q.capRadar

/-- The frame of an event transmit queue that carries some bytes. -/
def outFrame (k : OutKind) (bs : List Nat) : OutEvent := { kind := k, data := bs.map (BitVec.ofNat 8) }

/-- A command of the service line is answered OK (section 11.1). -/
def State.answeredOk (s : State) : Prop := s.svc.answer = some (frameBytes 0x81 []) ∧ s.svc.frame = none

/-- A command of the service line is answered REFUSED with a reason (section 11.1, R179). -/
def State.answeredRefused (s : State) (r : Reason) : Prop :=
  s.svc.answer = some (frameBytes 0x83 [BitVec.ofNat 8 (reasonCode r)]) ∧ s.svc.frame = none

/-- The range of each field of a key, in the order of R87, as a service write builds it on a payload: adc_low and adc_high, and
I_thr and I_max, are bounded by each other (R183). -/
def fieldRange (r : CalRecord) : List (Int × Int) :=
  match r with
  | .clutch _ _ => [(40, 400), (100, 800), (150, 450), (600, 1200), (-40, 40)]
  | .hitch p => [(0, (p.adcHigh - 100 : Nat)), (p.adcLow + 100, 4095), (500, 4095), (200, min 600 p.iMax), (p.iThr, 1500)]
  | .trailer _ => [(0, 255), (0, 200), (0, 300), (100, 600), (700, 1500)]
  | .speed _ => [(256, 4095), (20, 2000), (8, 120), (8, 120), (8, 120), (200, 320), (30, 100)]
  | .serviceKey _ => List.replicate 5 (0, 65535)

/-- A state is the one that a Soft restart leaves of the part in another state, but for what the store then holds: RUN with the
power hold kept, the start now, the Build Record as it was, an empty Fault List, N, no current, and the service line IDLE, in
UNLOCKED exactly in strap service (R68, R72, R86, R169, R170, R189). -/
def State.restartedFrom (t s : State) : Prop :=
  t.life = .on ∧ t.power.power = .run ∧ t.power.hold = true ∧ t.power.ignitionOn = true ∧ t.power.restartWanted = false ∧
    t.start = s.now ∧ t.now = s.now ∧ t.build = s.build ∧ t.pending = s.pending ∧
    t.fault.list = [] ∧ t.fault.active = [] ∧ t.seq.gear = .neutral ∧ (∀ i, (t.chan.channels.get i).commanded = 0) ∧
    t.svc.rx = .idle ∧ t.svc.answer = none ∧ (t.svc.unlock = .unlocked ↔ s.build.serviceStrap = true)

/-! ### A sound state -/

/-- A state in which every standing law holds. -/
def State.sound (s : State) : Prop :=
  s.fault.sound = true ∧ s.outputsGated = true ∧ s.seq.gearsLegal = true
    ∧ s.seq.shiftLegal = true ∧ s.queuesBounded = true ∧ Memory.wf s.store.mem = true

end Sys2Proof.Machine
end

