-- ==== Sys2Proof/Certificates/Slice0/Obligations.lean ====
section
/-! DEFINITION. The statements for the provers. `s.running = true` says that the blocks take events: the Power-on start has
been taken and the power state is not OFF (R71, R168). -/

open Sys2Proof Sys2Proof.Machine

/-! ### The step and the queue of commands -/

/-- A step takes the command at the front of the queue and runs it on the state with the queue's rest. -/
def Obligations.StepRunsFrontCommand : Prop :=
  ∀ (c : Instr) (rest : List Instr) (s : State),
    step { s with pending := c :: rest } = exec c { s with pending := rest }

/-- Every command of the table answers a next state, whatever the state and the operands, and leaves the queue of commands
to the step: nothing ends a run. -/
def Obligations.EveryCommandCompletes : Prop :=
  ∀ (c : Instr) (s : State), ∃ t, exec c s = .next t ∧ t.pending = s.pending

/-! ### Standing laws -/

/-- R158: the Fault List holds at most 16 entries, no two with the same code, and every active class A fault has an entry;
each entry's active flag follows its code, its count lies within 1 to 255, and removal_due is set exactly while it waits. -/
def Obligations.FaultListStaysSound : Prop :=
  ∀ s t : State, s.fault.sound = true → step s = .next t → t.fault.sound = true

/-- R74: a channel drives, and is commanded a current, only while it is fitted, its gate is open and it is not FAULTED. -/
def Obligations.OutputsStayGated : Prop :=
  ∀ s t : State, s.outputsGated = true → step s = .next t → t.outputsGated = true

/-- R39: Gear State's gear is always N, F1 to F12 or V1 to V8, and its direction goes with it. R44: no off-going clutch of a
shift in flight is an element of its target, and a SIMPLE shift keeps the direction. -/
def Obligations.GearsStayLegal : Prop :=
  (∀ s t : State, s.seq.gearsLegal = true → step s = .next t → t.seq.gearsLegal = true) ∧
    ∀ s t : State, s.seq.shiftLegal = true → step s = .next t → t.seq.shiftLegal = true

/-- R175, R176, R178, R101: the event queues and event transmit queues hold at most 8 entries, a mailbox at most one copy,
and the store queue at most one entry per key. -/
def Obligations.QueuesStayBounded : Prop :=
  ∀ s t : State, s.queuesBounded = true → step s = .next t → t.queuesBounded = true

/-- The memory of the store keeps its one canonical form (the model's representation, log 7, of the bytes of R99). -/
def Obligations.StoreMemoryStaysCanonical : Prop :=
  ∀ s t : State, Memory.wf s.store.mem = true → step s = .next t → Memory.wf t.store.mem = true

/-- The six standing laws hold of the machine right after reset. -/
def Obligations.ResetIsSound : Prop := State.reset.sound

/-- R99: a record whose fields lie within their ranges reads back from its sixteen bytes as it was, with its sequence
number. The order and the widths of the payload's fields are the model's choice (log 7). -/
def Obligations.RecordRoundTrip : Prop :=
  ∀ (r : CalRecord) (seq : Nat), r.inRange = true → seq < 2 ^ 32 →
    (∀ v, r = .serviceKey v → v.w0 < 65536 ∧ v.w1 < 65536 ∧ v.w2 < 65536 ∧ v.w3 < 65536 ∧ v.w4 < 65536) →
    (recordBytes r seq).length = 16 ∧ checks (recordBytes r seq) = true ∧ decodeRecord (recordBytes r seq) = some (r, seq)

/-! ### Speed Capture -/

/-- R3, R4, R6, R7, R13: what a speed sample reads from the capture records of the four pickups and from the Engine Report,
the substitute it publishes for a silent shaft while fault 29 is active, and v_wheel of the TOUT it publishes, with the
worked values. -/
def Obligations.WheelSpeedFromOutputShaft : Prop :=
  ∀ (s : State) (dt pedal : Nat), s.running = true →
    ∃ t, exec (.speedSample dt pedal) s = .next t ∧
      let now := s.now + dt
      let k := s.speedCal
      let q := t.speed
      let v := t.speed.set
      let reads (scale per top : Nat) (c d : Capture) : Prop :=
        (c.latest = none → d.reading = 0 ∧ d.ref = none) ∧
        (∀ e, c.latest = some e →
          (∀ r, 1 ≤ c.count → 1000 * now ≤ e + 250000 → c.ref = some r → r < e →
            d.reading = clamp 0 top (scale * c.count / (per * (e - r))) ∧ d.ref = some e ∧ d.count = 0) ∧
          (c.count = 0 → 1000 * now ≤ e + 250000 → d.reading = c.reading ∧ d.ref = c.ref ∧ d.count = 0) ∧
          (c.count = 0 → e + 250000 < 1000 * now → d.reading = 0 ∧ d.ref = none) ∧
          d.latest = some e)
      reads 60000000 k.teethInput 4000 s.speed.capInput q.capInput ∧
      reads 60000000 k.teethOutput 4000 s.speed.capOutput q.capOutput ∧
      reads 60000000 k.teethFront 4000 s.speed.capFront q.capFront ∧
      (s.build.radarFitted = true → reads 360000000 k.ppm 6000 s.speed.capRadar q.capRadar) ∧
      (s.build.radarFitted = false → q.capRadar = s.speed.capRadar) ∧
      v.fax = q.capFront.reading ∧
      (t.active .speedSensor = false ∨ s.seq.gear = .neutral ∨ q.silent = none →
        v.tin = q.capInput.reading ∧ v.tout = q.capOutput.reading) ∧
      (t.active .speedSensor = true → s.seq.gear ≠ .neutral →
        (q.silent = some .output → v.tin = q.capInput.reading ∧
          v.tout = if q.capOutput.reading = 0 then clamp 0 4000 (v.tin * 256 / ratio s.seq.gear.num)
            else q.capOutput.reading) ∧
        (q.silent = some .input → v.tout = q.capOutput.reading ∧
          v.tin = if q.capInput.reading = 0 then clamp 0 4000 (v.tout * ratio s.seq.gear.num / 256)
            else q.capInput.reading)) ∧
      (∀ c, s.link.engine = some c →
        (v.engFresh = true ↔ s.link.vehicle.rejoin = none ∧ now ≤ c.arrived + 100) ∧
        (v.engFresh = true → v.eng = clamp 0 4000 c.val.eng)) ∧
      (v.engFresh = false → v.eng = 0 ∧ (s.speed.stale = false → t.active .engineReportLost = true)) ∧
      (v.engFresh = true → t.active .engineReportLost = false) ∧
      v.vWheel = clamp 0 6000 (v.tout * k.w / 1024) ∧
      (k.w = 1562 → (v.tout = 1000 → v.vWheel = 1525) ∧ (v.tout = 612 → v.vWheel = 933)) ∧
      (s.store.cal.speed = none → k.w = 1562) ∧
      t.store = s.store ∧ t.build = s.build ∧ t.power = s.power ∧ t.start = s.start

/-- R9: v_ground is the radar reading while radar_valid is true, and v_wheel of the same sample while it is false; the
fallback takes effect at the sample where the radar is first doubted, without fault 17. -/
def Obligations.GroundSpeedSource : Prop :=
  ∀ (s : State) (dt pedal : Nat), s.running = true →
    ∃ t, exec (.speedSample dt pedal) s = .next t ∧
      (t.speed.set.radarValid = true → s.build.radarFitted = true → t.speed.set.vGround = t.speed.capRadar.reading) ∧
      (t.speed.set.radarValid = false → t.speed.set.vGround = t.speed.set.vWheel) ∧
      (s.speed.radar = .ok → s.build.radarFitted = true → t.speed.capRadar.reading = 0 → 300 < t.speed.set.vWheel →
        t.speed.radar = .doubt (s.now + dt) ∧ t.speed.set.vGround = t.speed.set.vWheel ∧
          t.active .radarImplausible = s.active .radarImplausible) ∧
      t.store = s.store ∧ t.build = s.build ∧ t.power = s.power

/-- R10 and R11: when slip is valid, the raw slip, and the filtered slip with its reset, its freeze and its truncated
eighth, which keeps it between its previous value and the raw slip. -/
def Obligations.SlipFilter : Prop :=
  ∀ (s : State) (dt pedal : Nat), s.running = true →
    ∃ t, exec (.speedSample dt pedal) s = .next t ∧
      let v := t.speed.set
      let slip := if v.vGround < v.vWheel then (v.vWheel - v.vGround) * 1000 / v.vWheel else 0
      let old := s.speed.set.slipF
      v.slipValid = (s.build.radarFitted && v.radarValid && decide (100 ≤ v.vWheel)) ∧
      slip ≤ 1000 ∧
      (v.slipValid = false → v.slipF = 0) ∧
      (v.slipValid = true → s.axle.own.transition = true → v.slipF = old) ∧
      (v.slipValid = true → s.axle.own.transition = false →
        (v.slipF : Int) = (old : Int) + ((slip : Int) - (old : Int)).tdiv 8 ∧
          min old slip ≤ v.slipF ∧ v.slipF ≤ max old slip) ∧
      (old ≤ 1000 → v.slipF ≤ 1000)

/-- R2: a rising edge counts in its own pickup's record and starts a span where no reference stands; the radar's pickup is
read only where the radar is fitted (R4). -/
def Obligations.PickupEdgeCounts : Prop :=
  ∀ (s : State) (dt : Nat) (p : Pickup) (us : Nat), s.running = true →
    ∃ t, exec (.pickupEdge dt p us) s = .next t ∧
      t = { s.advance dt with speed := t.speed } ∧
      (p = .radar → s.build.radarFitted = false → t = s.advance dt) ∧
      ((p = .radar → s.build.radarFitted = true) →
        (t.speed.capture p).latest = some (1000 * (s.now + dt) + us) ∧
        ((s.speed.capture p).ref = none →
          (t.speed.capture p).ref = some (1000 * (s.now + dt) + us) ∧ (t.speed.capture p).count = 0) ∧
        (∀ r, (s.speed.capture p).ref = some r →
          (t.speed.capture p).ref = some r ∧ (t.speed.capture p).count = (s.speed.capture p).count + 1) ∧
        (∀ q, q ≠ p → t.speed.capture q = s.speed.capture q) ∧
        t.speed.set = s.speed.set ∧ t.speed.radar = s.speed.radar)

/-! ### Function Arbiter -/

/-- R18, R19, R23, R26, R28: a review that reads. The enable states move on the flags just read, with the revocation; the
operator's reclaims follow, but at the first review that reads; then each request that still waits is refused, granted at its
safe point, or waits on. -/
def Obligations.ReviewFollowsTheFlags : Prop :=
  ∀ (s : State) (dt : Nat) (v : Seen), s.running = true → s.readControls = some v →
    let revoked (f : Func) : Prop := s.auth.enable.get f = .armed ∧ flagOf f v = false
    let held (f : Func) : Holder :=
      if s.auth.enable.get f = .armed ∧ flagOf f v = false ∧ s.holder f = .impl then s.target f else s.holder f
    let reclaimed (f : Func) : Prop :=
      s.auth.seen ≠ none ∧
        if f = .hitchSet then
          (held f = .impl ∧ ∃ p, (s.auth.table.get f).reference = some (.hitchSet p) ∧ 30 < Sys2Proof.dist v.pLever p) ∨
            (held f = .part ∧ ∃ p, s.hitch.pAct = some p ∧ Sys2Proof.dist v.pLever p ≤ 20)
        else (held f = .impl ∨ held f = .part) ∧
          ∃ r, (s.auth.table.get f).reference = some r ∧ some r ≠ referenceOf f v
    ∃ t, exec (.authorityReview dt) s = .next t ∧
      t.auth.seen = some v ∧
      (∀ f ∈ delegableFuncs,
        let e := s.auth.table.get f
        let u := t.auth.table.get f
        (flagOf f v = false → t.auth.enable.get f = .off) ∧
        (flagOf f v = true → s.auth.enable.get f = .spent ∨ reclaimed f → t.auth.enable.get f = .spent) ∧
        (flagOf f v = true → s.auth.enable.get f ≠ .spent → ¬ reclaimed f → t.auth.enable.get f = .armed) ∧
        (reclaimed f → u.holder = .cab ∧ u.leaseEnd = none ∧ u.reference = none ∧ u.pendingSince = none) ∧
        (¬ reclaimed f → revoked f ∨ e.pendingSince = none → u.holder = held f ∧ u.pendingSince = none) ∧
        (¬ reclaimed f → revoked f → s.holder f = .impl → u.leaseEnd = none) ∧
        (¬ reclaimed f → ¬ revoked f → e.pendingSince ≠ none →
          (s.classAActive = true ∨ s.holder f = .svc ∨ s.holder f = .fender →
            u.holder = s.holder f ∧ u.pendingSince = none) ∧
          (s.classAActive = false → s.holder f ≠ .svc → s.holder f ≠ .fender →
            (s.safePoint f = true → u.holder = .impl ∧ u.pendingSince = none ∧
              (s.holder f ≠ .impl → u.leaseEnd = some (s.now + dt + 500))) ∧
            (s.safePoint f = false → u.holder = s.holder f ∧ u.pendingSince = e.pendingSince)))) ∧
      (s.classAActive = true → ∀ f ∈ delegableFuncs, (t.auth.table.get f).pendingSince = none) ∧
      t = { s.advance dt with auth := t.auth, axle := t.axle, hitch := t.hitch, link := t.link }

/-- R21, R24, R34: a REQUEST for a delegable function that CAB or PART holds is granted at its safe point, with a lease of
500 ms, waits away from it, and is refused NOT_DELEGATED while the function is not ARMED; the answer joins the queue. -/
def Obligations.RequestIsGrantedOrWaits : Prop :=
  ∀ (s : State) (dt code : Nat) (f : Func), s.running = true → s.head .implement = some (.authRequest code) →
    funcOf code = some f → f ∈ delegableFuncs → s.power.power = .run → s.classAActive = false →
    (s.holder f = .cab ∨ s.holder f = .part) → (s.auth.table.get f).pendingSince = none →
    ∃ t, exec (.implAuthorityRequest dt) s = .next t ∧
      t.link.implement.inbox = s.link.implement.inbox.tail ∧
      (s.auth.enable.get f = .armed → s.safePoint f = true →
        t.holder f = .impl ∧ (t.auth.table.get f).leaseEnd = some (s.now + dt + 500) ∧
          (t.auth.table.get f).pendingSince = none) ∧
      (s.auth.enable.get f = .armed → s.safePoint f = false →
        t.auth.table.get f = { s.auth.table.get f with pendingSince := some (s.now + dt) }) ∧
      (s.auth.enable.get f ≠ .armed → t.auth = s.auth) ∧
      (s.link.implement.rejoin = none → s.link.implement.outbox.length < 8 →
        t.link.implement.outbox = s.link.implement.outbox ++
          [outFrame .reply
            (if s.auth.enable.get f ≠ .armed then [code, 3, 2, 0]
             else if s.safePoint f = true then [code, 1, 0, 50]
             else [code, 2, 0, 0])]) ∧
      (∀ g, g ≠ f → t.auth.table.get g = s.auth.table.get g) ∧
      t.auth.enable = s.auth.enable ∧
      t = { s.advance dt with auth := t.auth, axle := t.axle, hitch := t.hitch, link := t.link }

/-- R24, R25: while IMPL holds a function, KEEP moves its lease end to now + 500 ms and RELEASE returns it to its target,
neither with an answer, and neither changes an enable state or another function's entry. -/
def Obligations.KeepRenewsReleaseReturns : Prop :=
  ∀ (s : State) (dt code : Nat) (f : Func), s.running = true → funcOf code = some f → f ∈ delegableFuncs →
    s.holder f = .impl →
    (s.head .implement = some (.authKeep code) →
      ∃ t, exec (.implAuthorityKeep dt) s = .next t ∧
        t.auth =
          { s.auth with
            table := s.auth.table.set f { s.auth.table.get f with leaseEnd := some (s.now + dt + 500) } } ∧
        t = { s.advance dt with auth := t.auth, link := { s.link with implement :=
          { s.link.implement with inbox := s.link.implement.inbox.tail } } }) ∧
    (s.head .implement = some (.authRelease code) →
      ∃ t, exec (.implAuthorityRelease dt) s = .next t ∧
        t.holder f = s.target f ∧ (t.auth.table.get f).leaseEnd = none ∧ (t.auth.table.get f).pendingSince = none ∧
        (∀ g, g ≠ f → t.auth.table.get g = s.auth.table.get g) ∧ t.auth.enable = s.auth.enable ∧
        t = { s.advance dt with auth := t.auth, axle := t.axle, hitch := t.hitch, link := { s.link with implement :=
          { s.link.implement with inbox := s.link.implement.inbox.tail } } })

/-- R23, R25: a pending request ends at the expiry of its 2000 ms, and a lease lapses to the function's target when now
reaches its end; an expiry that finds nothing due changes nothing. -/
def Obligations.AuthorityTimers : Prop :=
  ∀ (s : State) (dt : Nat) (f : Func), s.running = true →
    (∃ t, exec (.pendingTimeout dt f) s = .next t ∧
      (∀ a, (s.auth.table.get f).pendingSince = some a → a + 2000 ≤ s.now + dt →
        t.auth.table = s.auth.table.set f { s.auth.table.get f with pendingSince := none } ∧
          t.auth.enable = s.auth.enable ∧ t = { s.advance dt with auth := t.auth, link := t.link }) ∧
      (∀ a, (s.auth.table.get f).pendingSince = some a → s.now + dt < a + 2000 → t = s.advance dt) ∧
      ((s.auth.table.get f).pendingSince = none → t = s.advance dt)) ∧
    (∃ t, exec (.leaseLapse dt f) s = .next t ∧
      (∀ e, s.holder f = .impl → (s.auth.table.get f).leaseEnd = some e → e ≤ s.now + dt →
        t.holder f = s.target f ∧ (t.auth.table.get f).leaseEnd = none ∧ t.auth.enable = s.auth.enable ∧
          (∀ g, g ≠ f → t.auth.table.get g = s.auth.table.get g)) ∧
      (∀ e, (s.auth.table.get f).leaseEnd = some e → s.now + dt < e → t = s.advance dt) ∧
      (s.holder f ≠ .impl → t = s.advance dt))

/-! ### Shift Sequencer -/

/-- R53: shuttle_decel as a shift step publishes it. R148: the assist of a brake step, from the published flag and v_ground
above 300, and the command P_tc of the state the step reaches, on channel 13: 0 without a trailer and with the supply off,
the map in CHARGING and READY, at least P_assist under assist, and 1500 in LOST; in the step that clears the latch the map
rules already (log 20, DEDUCED). -/
def Obligations.ShuttleDecel : Prop :=
  ∀ (s : State) (dt : Nat), s.running = true →
    (∀ pedal, ∃ t, exec (.shiftStep dt pedal) s = .next t ∧
      (t.seq.published.shuttleDecel = true ↔
        ∃ r, t.seq.shift = some r ∧ r.reversing = true ∧ (r.phase = .dirRelease ∨ r.phase = .reversal)) ∧
      t.seq.shuttleDecel = t.seq.published.shuttleDecel) ∧
    (∀ inp, ∃ t, exec (.brakeStep dt inp) s = .next t ∧
      let r := t.brake.trailer
      (s.brake.trailer.line = .notFitted → r.line = .notFitted ∧ t.chan.channels.trailerControl.demand = 0) ∧
      (s.brake.trailer.line ≠ .notFitted →
        (r.assist = true ↔ s.seq.published.shuttleDecel = true ∧ 300 < s.speed.set.vGround) ∧
        (r.line = .supplyOff → r.pTc = 0) ∧
        (r.line = .charging ∨ r.line = .ready → r.pTc = if r.assist then max r.pMap s.trailerCal.pAssist else r.pMap) ∧
        (r.line = .lost → r.pTc = 1500) ∧
        (inp.parkApplied = false → r.line ≠ .lost → r.pMap ≤ r.pTc) ∧
        t.chan.channels.trailerControl.demand = r.pTc) ∧
      (s.store.cal.trailer = none → s.trailerCal.pAssist = 150))

/-- R39: every shift step publishes Gear State as the sequencer then holds it, and hands every commanded pressure to its
channel. R37: it leaves a preselect only while a speed or range clutch is APPLIED. With no cause of the neutral reaction and no upshift inhibit: R44, the start of a shift; R54, the end of its FINISH;
R55, the shift timeout. -/
def Obligations.ShiftStepPublishesGearState : Prop :=
  ∀ (s : State) (dt pedal : Nat), s.running = true →
    ∃ t, exec (.shiftStep dt pedal) s = .next t ∧
      t.seq.published =
        { gear := t.seq.gear, direction := t.seq.gear.direction, shiftKind := t.seq.shift.map ShiftRec.kind
          shiftPhase := t.seq.shift.map ShiftRec.phase, target := t.seq.target, pendingTarget := t.seq.pendingTarget
          autoMode := t.seq.autoMode, neutralStartOk := t.seq.neutralStartOk, draftHold := t.seq.draftHold
          shuttleDecel := t.seq.shuttleDecel } ∧
      (∀ c, (t.chan.channels.get (.clutch c)).demand = (t.seq.clutches.get c).commanded) ∧
      (t.seq.preselect ≠ none → ∃ c, isDirClutch c = false ∧ (t.seq.clutches.get c).state = .applied) ∧
      t.speed = s.speed ∧ t.build = s.build ∧ t.power = s.power ∧ t.svc = s.svc ∧ t.store.mem = s.store.mem ∧
      (s.holder .gear = .cab → s.active .vehicleLinkLost = false → s.gateOpen .trans = true → s.power.power = .run →
        s.runInProgress = false → s.upshiftInhibit = false →
        let now := s.now + dt
        let q := s.seq
        let clutch (c : Clutch) : ClutchState := (q.clutches.get c).state
        (q.shift = none → q.target ≠ .neutral → q.target ≠ q.gear → q.reengaged = false →
          (∀ c, c ∉ heldClutches q → clutch c = .vented) →
          t.seq.gear = q.gear ∧ t.seq.target = q.target ∧
          ∃ r, t.seq.shift = some r ∧ r.start = now ∧ r.timedOut = false ∧
            (r.kind = .shuttle ↔ q.gear.dir ≠ q.target.dir) ∧
            (r.kind = .simple ↔ q.gear.dir = q.target.dir ∧ rangeClutch q.gear.num = rangeClutch q.target.num) ∧
            (900 < pedal → r.declutched = true ∧ r.phase = .finish) ∧
            (pedal ≤ 900 → r.declutched = false ∧ r.lockCount = 0 ∧
              (r.kind ≠ .compound → r.torque = none ∧ r.degraded = false) ∧
              (∀ c, c ∈ r.onComing ↔ c ∈ elements q.target ∧ clutch c ≠ .applied) ∧
              (∀ c, c ∈ r.offGoing ↔ c ∉ elements q.target ∧ clutch c = .applied) ∧
              (r.kind = .simple → r.phase = .prefill) ∧ (r.kind = .compound → r.phase = .dirDown) ∧
              (r.kind = .shuttle → r.phase = .dirRelease ∨ r.phase = .dirFill))) ∧
        (∀ r, q.shift = some r → r.declutched = false → r.timedOut = false → pedal ≤ 900 →
          (r.phase = .finish → q.shiftLegal = true → (r.kind = .simple → ∀ c ∈ r.offGoing, clutch c = .vented) →
            q.slipSince = none →
            (100 ≤ pedal ∨ q.autoMode = false ∧ ∀ c, s.link.demandA = some c → c.val.autoMode = false) →
            t.seq.gear = q.target ∧ t.seq.target = q.pendingTarget.getD q.target ∧ t.seq.pendingTarget = none ∧
              t.seq.shift = none ∧ t.seq.lastDir = q.target.dir ∧ t.seq.preselect = none ∧
              t.active .shiftTimeout = false ∧ (r.torqueBegun = true → t.seq.draftEnd = some now)) ∧
          (r.phase ≠ .finish → r.start + 2000 ≤ now →
            t.seq.gear = q.gear ∧ t.seq.target = q.target ∧ t.active .shiftTimeout = true ∧
            ∃ d, t.seq.shift = some d ∧ d.phase = .finish ∧ d.timedOut = true ∧ d.eligible = false ∧ d.torque = none ∧
              d.kind = r.kind ∧ d.start = r.start ∧ d.onComing = r.onComing ∧ d.offGoing = r.offGoing ∧
              (∀ c ∈ r.onComing, c ∉ r.offGoing →
                (t.seq.clutches.get c).state = .applied ∧ (t.seq.clutches.get c).pressure = 2000) ∧
              (∀ c ∈ r.offGoing,
                (t.seq.clutches.get c).state = .releasing ∨ (t.seq.clutches.get c).state = .vented))))

/-- R60: at the first shift step at which the TRANS gate reads closed, every clutch is set out of its gear, any shift in
flight ends, and the part stands in N. -/
def Obligations.NeutralReactionToGateClosure : Prop :=
  ∀ (s : State) (dt pedal : Nat), s.running = true → s.gateOpen .trans = false → s.seq.causes.gateClosed = false →
    ∃ t, exec (.shiftStep dt pedal) s = .next t ∧
      t.seq.gear = .neutral ∧ t.seq.target = .neutral ∧ t.seq.shift = none ∧ t.seq.pendingTarget = none ∧
      t.seq.preselect = none ∧ t.seq.neutralStartOk = false ∧
      (∀ c, (t.seq.clutches.get c).state = .vented ∨ (t.seq.clutches.get c).state = .releasing) ∧
      (s.seq.shift ≠ none → t.seq.neutralNumber = s.seq.target.num) ∧
      (s.seq.shift = none → s.seq.gear ≠ .neutral → t.seq.neutralNumber = s.seq.gear.num) ∧
      (s.seq.shift = none → s.seq.gear = .neutral → t.seq.neutralNumber = s.seq.neutralNumber) ∧
      t.seq.published.gear = .neutral ∧ t.seq.published.direction = .neutral ∧
      t.speed = s.speed ∧ t.power = s.power ∧ t.store.mem = s.store.mem

/-- R41, R27: a tap that is taken reclaims SPEED and moves its base by one gear number: the neutral number in N, the pending
target during a shift, the target otherwise; the result is clamped to the table and in AUTO to the span. That a tap during a
SHUTTLE from N moves the neutral number too, and leaves pending_target, is the model's inference (log 30, DEDUCED). -/
def Obligations.TapMovesOneGear : Prop :=
  ∀ (s : State) (dt : Nat) (up : Bool), s.running = true →
    s.head .vehicle = some (if up then .gearUp else .gearDown) → s.holder .gear = .cab → s.runInProgress = false →
    s.active .vehicleLinkLost = false →
    let q : SeqState := s.seq
    let moved (n : Nat) : Nat := if up then n + 1 else n - 1
    let span (lo hi n : Nat) : Nat := if q.autoMode then clamp lo hi n else n
    let target (g : Gear) : Gear :=
      match g with
      | .fwd n => .fwd (span q.gMin q.gMax (clamp 1 12 (moved n)))
      | .rev n => .rev (span (min 8 q.gMin) (min 8 q.gMax) (clamp 1 8 (moved n)))
      | .neutral => .neutral
    ∃ t, exec (if up then .cabCommandGearUp dt else .cabCommandGearDown dt) s = .next t ∧
      (q.gear = .neutral → t.seq = { q with neutralNumber := clamp 1 12 (moved q.neutralNumber) }) ∧
      (q.gear ≠ .neutral → q.shift = none → q.target ≠ .neutral → t.seq = { q with target := target q.target }) ∧
      (∀ r, q.gear ≠ .neutral → q.shift = some r → (q.pendingTarget.getD q.target) ≠ .neutral →
        let g := target (q.pendingTarget.getD q.target)
        (g = q.target → t.seq = { q with pendingTarget := none }) ∧
          (g ≠ q.target → t.seq = { q with pendingTarget := some g })) ∧
      t.holder .speed ≠ .impl ∧ t.holder .speed ≠ .part ∧
      t.link.vehicle.inbox = s.link.vehicle.inbox.tail ∧
      t = { s.advance dt with auth := t.auth, seq := t.seq, axle := t.axle, hitch := t.hitch, link := t.link }

/-- R42: NEUTRAL opens the direction clutch and keeps the gear as preselect; a direction the part may take sets the target;
a reversal above 1200 is refused. In MANUAL mode. -/
def Obligations.DirectionRequest : Prop :=
  ∀ (s : State) (dt : Nat) (d : DirRequest), s.running = true → s.head .vehicle = some (.direction d) →
    s.holder .gear = .cab → s.runInProgress = false → s.seq.shift = none → s.seq.autoMode = false →
    ∃ t, exec (.cabCommandDirection dt) s = .next t ∧
      (d = .neutral → s.seq.gear ≠ .neutral →
        t.seq = { s.seq.onClutch (dirOf s.seq.gear) (releaseClutch (s.now + dt)) with
          gear := .neutral, target := .neutral, neutralNumber := s.seq.gear.num, preselect := some s.seq.gear.num
          reengaged := false }) ∧
      (d = .neutral → s.seq.gear = .neutral → t.seq = s.seq) ∧
      (d ≠ .neutral → s.power.power = .run → s.gateOpen .trans = true → s.active .vehicleLinkLost = false →
        s.seq.neutralStartOk = true →
        (s.speed.set.vGround ≤ 1200 →
          (d = .forward → s.seq.gear = .neutral →
            t.seq = { s.seq with target := .fwd (clamp 1 12 s.seq.neutralNumber) }) ∧
          (d = .reverse → s.seq.gear = .neutral →
            t.seq = { s.seq with target := .rev (clamp 1 8 s.seq.neutralNumber) }) ∧
          (∀ n, d = .reverse → s.seq.gear = .fwd n → t.seq = { s.seq with target := .rev (clamp 1 8 n) }) ∧
          (∀ n, d = .forward → s.seq.gear = .rev n → t.seq = { s.seq with target := .fwd (clamp 1 12 n) })) ∧
        (1200 < s.speed.set.vGround →
          (∀ n, d = .reverse → s.seq.gear = .fwd n → t.seq = s.seq) ∧
          (∀ n, d = .forward → s.seq.gear = .rev n → t.seq = s.seq)) ∧
        (∀ n, d = .forward → s.seq.gear = .fwd n → t.seq = s.seq) ∧
        (∀ n, d = .reverse → s.seq.gear = .rev n → t.seq = s.seq)) ∧
      (d ≠ .neutral → s.seq.neutralStartOk = false → t.seq = s.seq) ∧
      t = { s.advance dt with auth := t.auth, seq := t.seq, axle := t.axle, hitch := t.hitch, link := t.link }

/-- R66, R109, R20: IMPL_SPEED and IMPL_AXLE of an implement that holds the function are taken and renew its lease; out of
AUTO or FWD, or with a mode outside the three, and from a sender that does not hold the function, they change only the
queues of the link. -/
def Obligations.ImplementSpeedAndAxle : Prop :=
  ∀ (s : State) (dt : Nat), s.running = true →
    (∀ v, s.head .implement = some (.implSpeed v) →
      ∃ t, exec (.implSpeed dt) s = .next t ∧
        t.link.implement.inbox = s.link.implement.inbox.tail ∧
        (s.holder .speed = .impl → s.seq.gear.direction = .fwd → s.seq.autoMode = true →
          t.seq = { s.seq with vTarget := some (clamp 0 4000 v) } ∧
            t.auth = { s.auth with table := { s.auth.table with speed :=
              { s.auth.table.speed with leaseEnd := some (s.now + dt + 500) } } } ∧
            t = { s.advance dt with auth := t.auth, seq := t.seq, link := t.link }) ∧
        (s.holder .speed ≠ .impl ∨ s.seq.gear.direction ≠ .fwd ∨ s.seq.autoMode = false →
          t = { s.advance dt with link := t.link })) ∧
    (∀ a b, s.head .implement = some (.implAxle a b) →
      ∃ t, exec (.implAxle dt) s = .next t ∧
        t.link.implement.inbox = s.link.implement.inbox.tail ∧
        (∀ m d, s.holder .axle = .impl → modeOf a = some m → modeOf b = some d →
          t.axle = { s.axle with implModes := some (m, d) } ∧
            t.auth = { s.auth with table := { s.auth.table with axle :=
              { s.auth.table.axle with leaseEnd := some (s.now + dt + 500) } } } ∧
            t = { s.advance dt with auth := t.auth, axle := t.axle, link := t.link }) ∧
        (s.holder .axle ≠ .impl ∨ modeOf a = none ∨ modeOf b = none → t = { s.advance dt with link := t.link }))

/-! ### Solenoid Channels -/

/-- R82: the supply monitor moves on the reading of the channel step; fault 5 is raised as it becomes LOW, closes the four
gates, and is inactive at the valve-supply return. -/
def Obligations.SupplyMonitorMoves : Prop :=
  ∀ (s : State) (dt : Nat) (amps : PerChan Nat) (volts : Nat), s.running = true → volts ≤ 400 →
    let now := s.now + dt
    ∃ t, exec (.channelStep dt amps volts) s = .next t ∧
      (s.chan.monitor = .normal → t.chan.monitor = if volts < 90 then .dipping now else .normal) ∧
      (∀ u, s.chan.monitor = .dipping u →
        (90 ≤ volts → t.chan.monitor = .normal) ∧
        (volts < 90 → now < u + 50 → t.chan.monitor = .dipping u) ∧
        (volts < 90 → u + 50 ≤ now → t.chan.monitor = .low ∧ t.active .valveSupplyLow = true ∧
          ∀ g, t.gateOpen g = false)) ∧
      (s.chan.monitor = .low → t.chan.monitor = if volts < 100 then .low else .recovering now) ∧
      (∀ u, s.chan.monitor = .recovering u →
        (volts < 100 → t.chan.monitor = .low) ∧
        (100 ≤ volts → now < u + 500 → t.chan.monitor = .recovering u) ∧
        (100 ≤ volts → u + 500 ≤ now → t.chan.monitor = .normal ∧ t.active .valveSupplyLow = false)) ∧
      t.chan.snapshot = t.chan.channels ∧
      t.seq = s.seq ∧ t.speed = s.speed ∧ t.store = s.store ∧ t.run = s.run ∧ t.power = s.power ∧ t.svc = s.svc

/-- R78, R79: a channel that is OFF, DRIVING, in PULL_IN or in HOLD (a pull-in of 150 ms is HOLD already) and whose deviation
has lasted 200 ms is FAULTED with 0 mA at the step, its fault is active, and the gate of its group is closed; so is every
other channel that fails at the same step (log 16, DEDUCED: all are judged on the currents sampled, then the raises follow in
the order of the channels). -/
def Obligations.FailingChannelIsFaulted : Prop :=
  ∀ (s : State) (dt : Nat) (amps : PerChan Nat) (volts : Nat), s.running = true →
    s.chan.monitor = .normal → 90 ≤ volts → volts ≤ 400 →
    ∃ t, exec (.channelStep dt amps volts) s = .next t ∧
      (∀ (i : Chan) (u : Nat),
        let c := s.chan.channels.get i
        let held : Bool := decide (c.state = .pullIn) && decide (c.since + 150 ≤ s.now + dt)
        let commanded := if held then 500 else c.commanded
        c.fitted = true → amps.get i ≤ 1600 →
        (c.state = .driving ∨ c.state = .off ∨ c.state = .pullIn ∨ c.state = .hold) →
        max 50 (commanded * 15 / 100) < Sys2Proof.dist (amps.get i) commanded →
        c.faultTimer = some u → u + 200 ≤ s.now + dt →
        let d := t.chan.channels.get i
        d.state = .faulted ∧ d.commanded = 0 ∧ d.ackSeen = false ∧ d.faultTimer = some (s.now + dt) ∧
          d.raised = some (chanCode i, s.now + dt) ∧
          t.active (chanCode i) = true ∧ ∀ g, chanGroup i = some g → t.gateOpen g = false) ∧
      t.seq = s.seq ∧ t.speed = s.speed ∧ t.store = s.store ∧ t.run = s.run ∧ t.power = s.power

/-! ### The store and adaptation -/

/-- R89: the oil temperature in use, and fault 27 after 1000 ms of implausible, or of plausible, readings, counted from a sample
(after a start as well, log 56, DEDUCED). -/
def Obligations.OilTemperature : Prop :=
  ∀ (s : State) (dt : Nat) (temp : Int), s.running = true →
    let good := -40 ≤ temp ∧ temp ≤ 150
    ∃ t, exec (.oilTimer dt temp) s = .next t ∧
      (good → t.store.oil = some temp) ∧ (¬ good → t.store.oil = s.store.oil) ∧
      (∀ u, ¬ good → s.active .oilTemperature = false → s.store.oilBadSince = some u →
        (t.active .oilTemperature = true ↔ u + 1000 ≤ s.now + dt)) ∧
      (∀ u, good → s.active .oilTemperature = true → s.store.oilGoodSince = some u →
        (t.active .oilTemperature = false ↔ u + 1000 ≤ s.now + dt)) ∧
      t.store = { s.store with
        oil := t.store.oil, oilBadSince := t.store.oilBadSince, oilGoodSince := t.store.oilGoodSince } ∧
      t.seq = s.seq ∧ t.speed = s.speed ∧ t.run = s.run ∧ t.power = s.power ∧ t.svc = s.svc

/-- R102, R103: the end of a slot program. One of a write that reads back as meant puts the record in use; a first mismatch
leaves the record in use and begins the void of the slot, for one more try; at a second mismatch the slot is made void as well,
the write is dropped, fault 28 is active, the offsets of a clutch write return to the latest payload, and a run that waits in
WRITE fails with STORE. A copy of a compaction that reads back as meant goes on to the next copy, in the next slot, or after
the last one to the ACTIVE mark; a first mismatch makes its slot void for one more try; a second abandons the compaction, with
the old page in use, and drops the write in flight. No byte outside the slot changes. That a write of a run stays the run's
where a later one has replaced its payload is the model's choice (log 47). -/
def Obligations.SlotProgramEnds : Prop :=
  ∀ (s : State) (dt : Nat) (p : Page) (slot : Nat) (bytes : List Byte) (second : Bool), s.running = true →
    Memory.wf s.store.mem = true → bytes.length = 16 → s.store.opEnd ≤ s.now + dt →
    let leaves (t : State) (bs : List Byte) : Prop :=
      slotBytes t.store.mem p slot = bs ∧
        ∀ a, a < slotBase p slot ∨ slotBase p slot + 16 ≤ a → Memory.read t.store.mem a = Memory.read s.store.mem a
    let others (t : State) : Prop := t.speed = s.speed ∧ t.build = s.build ∧ t.power = s.power ∧ t.svc = s.svc
    let follows (t : State) (o : StoreOp) : Prop :=
      t.store = { s.store with mem := t.store.mem, op := some o, opEnd := s.now + dt + 3 } ∧
        t = { s.advance dt with store := t.store }
    let dropped (t : State) (w : Write) : Prop :=
      t.store.inFlight = none ∧ t.active .storeWrite = true ∧
        (w.fromRun = true → s.run.phase = .write → t.run.phase = .failed ∧ t.run.reason = some .store) ∧
        (w.fromRun = false ∨ s.run.phase ≠ .write → t.run = s.run ∧ t.seq = s.seq) ∧
        (∀ c v, w.record = .clutch c v →
          let latest := { s with store := { s.store with inFlight := none } }.latestClutch c
          (latest = none → t.store.saved.get c = 0) ∧ (∀ x, latest = some x → t.store.saved.get c = x.adapt) ∧
          t.store.working.get c = if w.fromRun then t.store.saved.get c else s.store.working.get c)
    (∀ w b, s.store.op = some (.writeSlot p slot bytes second) → s.store.inFlight = some (w, b) →
      (∃ t, exec (.slotProgramComplete dt .asMeant) s = .next t ∧ leaves t bytes ∧
        t.store.cal = s.store.cal.put w.record (recordSeq bytes) ∧
        (s.store.queue = [] → t.store.op = none ∧ t.store.inFlight = none ∧ t.active .storeWrite = false) ∧
        (w.fromRun = true → s.run.phase = .write → t.run.phase = .done) ∧ others t) ∧
      (∀ found, found.length = 16 → found ≠ bytes →
        ∃ t, exec (.slotProgramComplete dt (.other found)) s = .next t ∧ leaves t found ∧
          t.store.cal = s.store.cal ∧ t.store.queue = s.store.queue ∧
          t.store.op = some (.writeVoid p slot (!second)) ∧ t.store.opEnd = s.now + dt + 3 ∧
          (second = false → t.store.inFlight = some (w, true) ∧ t = { s.advance dt with store := t.store }) ∧
          (second = true → dropped t w ∧ others t))) ∧
    (∀ rest, s.store.op = some (.compactCopy p slot bytes rest second) →
      (∃ t, exec (.slotProgramComplete dt .asMeant) s = .next t ∧ leaves t bytes ∧
        (rest = [] → follows t (.compactActive p (slot + 1) false)) ∧
        (∀ r more, rest = r :: more → follows t (.compactCopy p (slot + 1) (recordBytes r.1 r.2) more false))) ∧
      (∀ found, found.length = 16 → found ≠ bytes →
        ∃ t, exec (.slotProgramComplete dt (.other found)) s = .next t ∧ leaves t found ∧
          (second = false → follows t (.compactVoid p slot (some bytes) rest)) ∧
          (second = true → t.store.op = some (.compactVoid p slot none rest) ∧ t.store.opEnd = s.now + dt + 3 ∧
            t.store.inUse = s.store.inUse ∧ t.store.cal = s.store.cal ∧ t.store.queue = s.store.queue ∧
            t.store.nextFree = s.store.nextFree ∧ t.store.nextSeq = s.store.nextSeq ∧
            (∀ w b, s.store.inFlight = some (w, b) → dropped t w) ∧ others t)))

/-- R102, R103: a void program leaves 0x00 in the key byte of its slot and no other byte changed. The retry of a write then
goes to the next free slot with the next sequence number (after 0xFFFFFFFF it goes on modulo 2 ^ 32, the model's choice,
log 36), or, with no free slot, calls for a compaction first; the retry of a compaction's copy goes to the next slot of the new
page with the same bytes. Without a retry the store is idle where nothing waits, and after an abandoned compaction the next
write that finds no free slot starts one again. -/
def Obligations.VoidProgramEnds : Prop :=
  ∀ (s : State) (dt : Nat) (p : Page) (slot : Nat), s.running = true → Memory.wf s.store.mem = true →
    s.store.opEnd ≤ s.now + dt →
    let voided (t : State) : Prop :=
      Memory.read t.store.mem (slotBase p slot) = 0 ∧
        (∀ a, a ≠ slotBase p slot → Memory.read t.store.mem a = Memory.read s.store.mem a) ∧
        t.store.cal = s.store.cal ∧ t.speed = s.speed ∧ t.power = s.power ∧ t.svc = s.svc
    let nextWrite (t : State) : Prop :=
      (s.store.queue = [] → t.store.op = none) ∧
        (∀ w q u, s.store.inFlight = none → s.store.queue = w :: q → s.store.inUse = some u →
          t.store.inFlight = some (w, false) ∧ t.store.queue = q ∧
          (s.store.nextFree ≤ 63 →
            t.store.op = some (.writeSlot u s.store.nextFree (recordBytes w.record s.store.nextSeq) false)) ∧
          (63 < s.store.nextFree →
            t.store.op = some (.compactErase u.other false) ∧ t.store.opEnd = s.now + dt + 40))
    (∀ retry, s.store.op = some (.writeVoid p slot retry) →
      ∃ t, exec (.voidProgramComplete dt) s = .next t ∧ voided t ∧
        (∀ w b q, retry = true → s.store.inFlight = some (w, b) → s.store.inUse = some q →
          t.store.inFlight = some (w, b) ∧
          (s.store.nextFree ≤ 63 →
            t.store.op = some (.writeSlot q s.store.nextFree (recordBytes w.record s.store.nextSeq) b) ∧
              t.store.opEnd = s.now + dt + 3 ∧ t.store.nextFree = s.store.nextFree + 1 ∧
              t.store.nextSeq = s.store.nextSeq + 1) ∧
          (63 < s.store.nextFree →
            t.store.op = some (.compactErase q.other false) ∧ t.store.opEnd = s.now + dt + 40)) ∧
        (retry = false → nextWrite t)) ∧
    (∀ retry rest, s.store.op = some (.compactVoid p slot retry rest) →
      ∃ t, exec (.voidProgramComplete dt) s = .next t ∧ voided t ∧
        (∀ bytes, retry = some bytes →
          t.store = { s.store with
            mem := t.store.mem, op := some (.compactCopy p (slot + 1) bytes rest true), opEnd := s.now + dt + 3 } ∧
          t = { s.advance dt with store := t.store }) ∧
        (retry = none → t.store.inUse = s.store.inUse ∧ nextWrite t))

/-- R100, R103: the page erases and the header programs of a format, of a compaction and of the preparing SPENT mark. An
operation that reads back as meant leaves its page erased, or its mark programmed, and goes on to the one that follows; a
first failure makes it once more; a second failure raises fault 28, and leaves no page in use (format), abandons the
compaction and drops the write (erase, RECEIVING and ACTIVE mark), or changes nothing else that is in use (SPENT mark). An
erase changes no byte outside its page, and a header program none outside slot 0 of its page. The places of the marks within
the header, what a second program of a mark is compared with, and a page sequence past 0xFFFFFFFF are the model's choice
(logs 7, 37 and 36). -/
def Obligations.EraseAndHeaderPrograms : Prop :=
  ∀ (s : State) (dt : Nat) (o : StoreOp), s.running = true → Memory.wf s.store.mem = true → s.store.op = some o →
    s.store.opEnd ≤ s.now + dt →
    let now := s.now + dt
    let m := s.store.mem
    let keeps (t : State) (lo n : Nat) : Prop := ∀ a, a < lo ∨ lo + n ≤ a → Memory.read t.store.mem a = Memory.read m a
    let follows (t : State) (o : StoreOp) : Prop :=
      t.store = { s.store with mem := t.store.mem, op := some o, opEnd := now + o.length } ∧
        t = { s.advance dt with store := t.store }
    let formatFailed (t : State) : Prop :=
      t.store.inUse = none ∧ t.active .storeWrite = true ∧ t.store.cal = s.store.cal ∧
        (s.store.queue = [] → t.store.op = none)
    let abandoned (t : State) : Prop :=
      t.store.inUse = s.store.inUse ∧ t.store.cal = s.store.cal ∧ (s.store.inFlight ≠ none → t.active .storeWrite = true) ∧
        (s.store.queue = [] → t.store.op = none ∧ t.store.inFlight = none)
    (∀ p, (∃ second, o = .compactErase p second) ∨ (p = .p0 ∧ ∃ second, o = .formatErase second) →
      let format : Bool := match o with
        | .formatErase _ => true
        | _ => false
      (∃ t, exec (.pageEraseComplete dt .asMeant) s = .next t ∧
        (∀ a, pageBase p ≤ a → a < pageBase p + 1024 → Memory.read t.store.mem a = erasedByte) ∧
        keeps t (pageBase p) 1024 ∧ follows t (if format then .formatReceiving false else .compactReceiving p false)) ∧
      (∀ bs, (∃ b ∈ bs.take 1024, b ≠ erasedByte) →
        ∃ t, exec (.pageEraseComplete dt (.other bs)) s = .next t ∧ keeps t (pageBase p) 1024 ∧
          (o = .compactErase p false → follows t (.compactErase p true)) ∧
          (o = .formatErase false → follows t (.formatErase true)) ∧
          (o = .compactErase p true → abandoned t) ∧ (o = .formatErase true → formatFailed t))) ∧
    (∀ p second meant,
      (o = .compactReceiving p second ∧ meant = receivingHeader m p) ∨
        (∃ k, o = .compactActive p k second ∧ meant = activeHeader m p (pageSequence m p.other + 1)) ∨
        ((o = .compactSpent p second ∨ o = .prepareSpent p second) ∧ meant = spentHeader m p) ∨
        (p = .p0 ∧ o = .formatReceiving second ∧ meant = receivingHeader m .p0) ∨
        (p = .p0 ∧ o = .formatActive second ∧ meant = activeHeader m .p0 1) →
      (∃ t, exec (.headerProgramComplete dt .asMeant) s = .next t ∧
        slotBytes t.store.mem p 0 = meant ∧ keeps t (pageBase p) 16 ∧ t.store.cal = s.store.cal ∧
        (o = .formatReceiving second → meant.headD 1 = 0 ∧ follows t (.formatActive false)) ∧
        (o = .formatActive second → (meant.getD 7 0 = erasedByte → pageState t.store.mem .p0 = .active 1) ∧
          t.store.inUse = some .p0 ∧ (s.store.queue = [] → t.store.op = none ∧ t.store.nextFree = 1)) ∧
        (o = .compactReceiving p second → meant.headD 1 = 0 ∧
          (recordsInUse s = [] → follows t (.compactActive p 1 false)) ∧
          (∀ r more, recordsInUse s = r :: more → follows t (.compactCopy p 1 (recordBytes r.1 r.2) more false))) ∧
        (∀ k, o = .compactActive p k second →
          (meant.getD 7 0 = erasedByte → pageSequence m p.other + 1 < 2 ^ 32 →
            pageState t.store.mem p = .active (pageSequence m p.other + 1)) ∧
          t.store.inUse = some p ∧ t.store.nextFree = k ∧
          t.store.op = some (.compactSpent p.other false) ∧ t.store.opEnd = now + 3 ∧
          t.store.nextSeq = s.store.nextSeq ∧ t.store.inFlight = s.store.inFlight) ∧
        (o = .compactSpent p second → meant.getD 7 1 = 0 ∧ t.store.inUse = s.store.inUse ∧
          (∀ w b q, s.store.inFlight = some (w, b) → s.store.inUse = some q → s.store.nextFree ≤ 63 →
            t.store.op = some (.writeSlot q s.store.nextFree (recordBytes w.record s.store.nextSeq) b) ∧
              t.store.opEnd = now + 3)) ∧
        (o = .prepareSpent p second → meant.getD 7 1 = 0 ∧ t.store.inUse = s.store.inUse ∧
          (s.store.queue = [] → t.store.op = none))) ∧
      (∀ found, found.length = 16 → found ≠ meant →
        ∃ t, exec (.headerProgramComplete dt (.other found)) s = .next t ∧
          slotBytes t.store.mem p 0 = found ∧ keeps t (pageBase p) 16 ∧ t.store.cal = s.store.cal ∧
          (o = .compactReceiving p false → follows t (.compactReceiving p true)) ∧
          (∀ k, o = .compactActive p k false → follows t (.compactActive p k true)) ∧
          (o = .compactSpent p false → follows t (.compactSpent p true)) ∧
          (o = .prepareSpent p false → follows t (.prepareSpent p true)) ∧
          (o = .formatReceiving false → follows t (.formatReceiving true)) ∧
          (o = .formatActive false → follows t (.formatActive true)) ∧
          (second = true →
            (o = .compactReceiving p true ∨ (∃ k, o = .compactActive p k true) → abandoned t) ∧
            (o = .compactSpent p true ∨ o = .prepareSpent p true →
              t.active .storeWrite = true ∧ t.store.inUse = s.store.inUse) ∧
            (o = .formatReceiving true ∨ o = .formatActive true → formatFailed t))))

/-- R168, R169, R85: the store's report that it is drained ends FLUSH. With no restart wanted the power state becomes OFF, the
power-hold line is released, and every channel that is not PARKED is OFF with 0 mA. With a restart wanted the part takes a Soft
restart in place of OFF: RUN with the hold kept, the start now, the Build Record and the memory as they were, an empty Fault
List, N, and no current. At any other time the report changes nothing. -/
def Obligations.DrainedReportEndsFlush : Prop :=
  ∀ (s : State) (dt : Nat), s.running = true →
    ∃ t, exec (.storeDrained dt) s = .next t ∧
      (s.power.power = .flush → s.drained = true → s.power.restartWanted = false →
        t.power = { s.power with power := .off, hold := false } ∧
          (∀ i, (s.chan.channels.get i).state ≠ .parked →
            (t.chan.channels.get i).state = .off ∧ (t.chan.channels.get i).commanded = 0) ∧
          (∀ i, (s.chan.channels.get i).state = .parked → t.chan.channels.get i = s.chan.channels.get i) ∧
          t = { s.advance dt with power := t.power, chan := t.chan }) ∧
      (s.power.power = .flush → s.drained = true → s.power.restartWanted = true →
        t.restartedFrom (s.advance dt) ∧ t.store.mem = s.store.mem) ∧
      (s.power.power ≠ .flush ∨ s.drained = false → t = s.advance dt)

/-- R93, R99, R168: a loss of the supply leaves the part without power and its coils without current. The memory keeps every
byte outside the operation under way: the 16 bytes of a slot or of a compaction copy, the key byte of a void, the page of an
erase, slot 0 of the page of a header program. -/
def Obligations.LossOfSupplyKeepsTheMemory : Prop :=
  ∀ (s : State) (dt : Nat) (mask : List Byte),
    ∃ t, exec (.lossOfSupply dt mask) s = .next t ∧
      t.life = .unpowered ∧ t.running = false ∧ (∀ i, (t.chan.channels.get i).commanded = 0) ∧
      (s.store.op = none → t.store.mem = s.store.mem) ∧
      (Memory.wf s.store.mem = true → ∀ o, s.store.op = some o →
        let keeps (lo n : Nat) : Prop := ∀ a, a < lo ∨ lo + n ≤ a → Memory.read t.store.mem a = Memory.read s.store.mem a
        match o with
        | .writeSlot p slot bytes _ | .compactCopy p slot bytes _ _ => bytes.length = 16 → keeps (slotBase p slot) 16
        | .writeVoid p slot _ | .compactVoid p slot _ _ => keeps (slotBase p slot) 1
        | .compactErase p _ => keeps (pageBase p) 1024
        | .formatErase _ => keeps (pageBase .p0) 1024
        | .compactReceiving p _ | .compactActive p _ _ | .compactSpent p _ | .prepareSpent p _ => keeps (pageBase p) 16
        | .formatReceiving _ | .formatActive _ => keeps (pageBase .p0) 16)

/-! ### The calibration run -/

/-- R98, R95: a run step with park released aborts the run with reason PARK_RELEASED, also where another abort condition holds
at the step (the model's choice, log 33), and lets go of the clutches; in KISS_SEARCH, where no abort condition holds and TIN has not fallen, the pressure rises by 20 every 200 ms, to 800. -/
def Obligations.RunStepAbortsOrRaises : Prop :=
  ∀ (s : State) (dt pedal : Nat) (c : Clutch), s.running = true → s.run.clutch = some c →
    (s.run.phase = .prepare ∨ s.run.phase = .kissSearch ∨ s.run.phase = .fillSearch →
      s.brake.demand.parkApplied = false →
      ∃ t, exec (.runStep dt pedal) s = .next t ∧
        t.run.phase = .failed ∧ t.run.reason = some .parkReleased ∧ t.run.named = 0 ∧ t.run.namedOthers = 0 ∧
        t.run.kiss = none ∧
        (∀ k, (t.seq.clutches.get k).state = .vented ∨ (t.seq.clutches.get k).state = .releasing) ∧
        t.seq.gear = s.seq.gear ∧ t.seq.target = s.seq.target ∧ t.seq.published = s.seq.published ∧
        t = { s.advance dt with run := t.run, seq := t.seq }) ∧
    (s.run.phase = .kissSearch → s.brake.demand.parkApplied = true → s.speed.set.vGround < 50 →
      800 ≤ s.speed.set.eng → pedal ≤ 100 → s.gateOpen .trans = true → s.power.power = .run →
      s.run.startTin < s.speed.set.tin + 60 → s.run.lastChange + 200 ≤ s.now + dt →
      ∃ t, exec (.runStep dt pedal) s = .next t ∧
        (s.run.named < 800 →
          t = { s.advance dt with
            run := { s.run with named := min 800 (s.run.named + 20), lastChange := s.now + dt } }) ∧
        (800 ≤ s.run.named → t.run.phase = .failed ∧ t.run.reason = some .kissNotFound))

/-- R94, R98: CAL_RUN that meets its conditions starts the run of the clutch it names and lets go of every clutch outside
the test gear; CAL_ABORT ends a run short of WRITE with reason ABORTED, is refused BUSY in WRITE, and changes nothing where
no run is in progress. -/
def Obligations.CalRunAndCalAbort : Prop :=
  ∀ (s : State) (dt : Nat), s.running = true → s.svc.unlock = .unlocked → s.holder .calib = .svc →
    (∀ (c : Clutch) (pedal : Nat), s.svc.frame = some (.calRun (Key.clutch c).code) → s.runInProgress = false →
      s.brake.demand.parkApplied = true → s.speed.set.vGround < 50 → 900 ≤ s.speed.set.eng → s.speed.set.eng ≤ 1600 →
      s.seq.published.gear = .neutral → s.seq.published.shiftKind = none → pedal ≤ 100 → s.gateOpen .trans = true →
      s.power.power = .run →
      ∃ t, exec (.calRun dt pedal) s = .next t ∧
        t.run.phase = .prepare ∧ t.run.clutch = some c ∧ t.run.entered = s.now + dt ∧
        t.run.startTin = s.speed.set.tin ∧ t.run.kiss = none ∧ t.run.fill = none ∧ t.run.reason = none ∧
        (∀ k, k ∉ elements (testGear c) →
          t.seq.clutches.get k = releaseClutch (s.now + dt) (s.seq.clutches.get k)) ∧
        (∀ k, k ∈ elements (testGear c) → t.seq.clutches.get k = s.seq.clutches.get k) ∧
        t.seq.preselect = none ∧ t.seq.gear = s.seq.gear ∧ t.answeredOk ∧
        t = { s.advance dt with run := t.run, seq := t.seq, svc := t.svc }) ∧
    (s.svc.frame = some .calAbort →
      ∃ t, exec (.calAbort dt) s = .next t ∧
        (s.run.phase = .prepare ∨ s.run.phase = .kissSearch ∨ s.run.phase = .fillSearch →
          t.run.phase = .failed ∧ t.run.reason = some .aborted ∧ t.run.kiss = none ∧ t.answeredOk) ∧
        (s.run.phase = .write → t.run = s.run ∧ t.seq = s.seq ∧ t.answeredRefused .busy) ∧
        (s.run.phase = .idle ∨ s.run.phase = .done ∨ s.run.phase = .failed →
          t.run = s.run ∧ t.seq = s.seq ∧ t.answeredOk) ∧
        t = { s.advance dt with run := t.run, seq := t.seq, svc := t.svc })

/-! ### Axle Engagement -/

/-- R111: the AUTO condition of an axle step, and its value after a restart. -/
def Obligations.AutoCondition : Prop :=
  (∀ (s : State) (dt : Nat) (closed : Bool), s.running = true →
    ∃ t, exec (.axleStep dt closed) s = .next t ∧
      (s.speed.set.vGround ≤ 1300 →
        (t.axle.autoCond = true ↔
          s.hitch.lift = .work ∨ (s.speed.set.slipValid = true ∧ 150 ≤ s.speed.set.slipF))) ∧
      (1300 < s.speed.set.vGround → s.speed.set.vGround < 1500 → t.axle.autoCond = s.axle.autoCond) ∧
      (1500 ≤ s.speed.set.vGround → t.axle.autoCond = false)) ∧
  (∀ (l : List Instr) (n now : Nat) (b : BuildRecord) (h : Holder) (m : StoreState) (r : Bool),
    (State.fresh l n now b h m r).axle.autoCond = false)

/-- R110, R112, R113: while a brake or fault engagement is in force, the AXLE gate is closed, the valve supply is not in
order, or a release is blocked, the applied demand of an axle step is engaged; channel 9 is on exactly while the clutch is
RELEASING or RELEASED, and the Axle State is published. -/
def Obligations.AxleStepEngages : Prop :=
  ∀ (s : State) (dt : Nat) (closed : Bool), s.running = true →
    ∃ t, exec (.axleStep dt closed) s = .next t ∧
      (s.axle.brakeEngagement = true → s.brake.demand.brakeActive = true → t.axle.appliedEngaged = true) ∧
      (s.brake.demand.brakeActive = true → 200 ≤ s.speed.set.vGround → t.axle.appliedEngaged = true) ∧
      (s.axle.faultEngagement = true → (s.active .vehicleLinkLost = true ∨ s.active .trailerSupplyLost = true) →
        t.axle.appliedEngaged = true) ∧
      (s.gateOpen .axle = false ∨ s.valveSupplyOk = false → t.axle.appliedEngaged = true) ∧
      (s.axle.own.releaseBlock = true → (s.axle.ackSeen = false ∨ s.active .axleReleaseFailed = true) →
        t.axle.appliedEngaged = true) ∧
      (t.chan.channels.fwdRelease.demand =
        if t.axle.own.fwd = .releasing ∨ t.axle.own.fwd = .released then 1 else 0) ∧
      t.axle.published = t.axle.own ∧
      t.seq = s.seq ∧ t.speed = s.speed ∧ t.auth = s.auth ∧ t.hitch = s.hitch ∧ t.brake = s.brake ∧
      t.store = s.store ∧ t.run = s.run ∧ t.power = s.power

/-- R117, R118: with a pedal switch closed, above v_ground 1500, without the diff lock fitted, with the AXLE gate closed or
the valve supply not in order, an axle step leaves the diff lock DISENGAGED with an off demand on channel 10; a drop cause
in mode ON sets dl_cancel. -/
def Obligations.DiffLockDrops : Prop :=
  ∀ (s : State) (dt : Nat) (closed : Bool), s.running = true →
    (s.brake.demand.pedalLeft = true ∨ s.brake.demand.pedalRight = true ∨ 1500 < s.speed.set.vGround ∨
      s.build.diffLockFitted = false ∨ s.gateOpen .axle = false ∨ s.valveSupplyOk = false) →
    ∃ t, exec (.axleStep dt closed) s = .next t ∧
      t.axle.own.dlEngaged = false ∧ t.axle.published.dlEngaged = false ∧ t.chan.channels.diffLock.demand = 0 ∧
      (s.brake.demand.pedalLeft = true ∨ s.brake.demand.pedalRight = true ∨ 1500 < s.speed.set.vGround →
        t.axle.own.dlMode = some .on → t.axle.own.dlCancel = true)

/-! ### Hitch Controller -/

/-- R126 to R129, R134, R137: the flow Q of a hitch step and its pilot currents. The setpoint in use of CAB and of IMPL and
what is used of it; Q by lift state, with the computation of R127 in WORK, LOWERING and RAISED, after the two limits; never
both pilots, none in STOPPED, without P_act or at flow 0, and otherwise the current of the HITCH entry. -/
def Obligations.HitchPilotCurrents : Prop :=
  ∀ (s : State) (dt : Nat) (inp : HitchInputs), s.running = true →
    ∃ t, exec (.hitchStep dt inp) s = .next t ∧
      let raise := t.chan.channels.hitchRaise.demand
      let lower := t.chan.channels.hitchLower.demand
      let h := t.hitch
      let c := t.hitch.cab
      let u := t.hitch.report
      let q := t.hitch.report.q
      let v := s.speed.set
      let slip : Int := if h.lift = .work ∧ c.sLim ≠ 0 ∧ v.slipValid = true ∧ c.sLim < v.slipF then
          min 1000 (((v.slipF - c.sLim) * c.gS / 8 : Nat) : Int)
        else 0
      let flow (p pSet m : Nat) : Int :=
        let errorD := clampZ (-1000) 1000 ((u.dSet : Int) - u.dUsed)
        let mixed := ((m : Int) * errorD + (100 - (m : Int)) * ((p : Int) - pSet)).tdiv 100
        let e := clampZ (-1000) 1000 (mixed - slip)
        let e' := if -(h.deadband : Int) ≤ e ∧ e ≤ h.deadband then 0 else if 0 < e then e - h.deadband else e + h.deadband
        clampZ (-1000) c.qDrop ((e' * h.gain).tdiv 32)
      let limited (p : Nat) (x : Int) : Int :=
        if (x < 0 ∧ c.uLim ≤ p) ∨ (0 < x ∧ (p ≤ c.lLim ∨ c.lock = true)) then 0 else x
      (s.holder .hitchSet = .cab → ∀ p, c.pLever = some p → h.inUse = some { p := p, d := c.dSet, m := c.mix }) ∧
      (s.holder .hitchSet = .impl → h.inUse = h.impl) ∧
      (∀ x, h.inUse = some x → u.pSetUsed = clamp c.lLim c.uLim x.p ∧ u.dSet = x.d ∧
        (s.build.draftFitted = false ∨ t.active .draftSensor = true → u.mUsed = 0) ∧
        (s.build.draftFitted = true → t.active .draftSensor = false → u.mUsed = x.m)) ∧
      u.dUsed = h.latch.getD h.dAct ∧
      (h.pAct = none → q = 0) ∧
      (∀ p, h.pAct = some p →
        (h.lift = .work ∨ h.lift = .lowering → q = limited p (flow p u.pSetUsed u.mUsed)) ∧
        (h.lift = .raised → q = limited p (flow p c.uLim 0)) ∧
        (h.lift = .raising → q = limited p (-1000)) ∧ (h.lift = .unmatched → q = 0) ∧
        (h.lift = .fender →
          (inp.fenderLeft = .up ∨ inp.fenderRight = .up → inp.fenderLeft ≠ .down → inp.fenderRight ≠ .down →
            q = limited p (-300)) ∧
          (inp.fenderLeft = .down ∨ inp.fenderRight = .down → inp.fenderLeft ≠ .up → inp.fenderRight ≠ .up →
            q = limited p (min 300 c.qDrop)) ∧
          ((inp.fenderLeft = .up ∧ inp.fenderRight = .down) ∨ (inp.fenderLeft = .down ∧ inp.fenderRight = .up) → q = 0)) ∧
        (c.uLim ≤ p → raise = 0) ∧ (p ≤ c.lLim ∨ c.lock = true → lower = 0)) ∧
      (raise = 0 ∨ lower = 0) ∧
      (h.lift = .stopped ∨ h.pAct = none ∨ q = 0 → raise = 0 ∧ lower = 0) ∧
      (∀ v, s.hitchCal = some v → h.lift ≠ .stopped →
        (q < 0 → raise = min 1600 (v.iThr + q.natAbs * (v.iMax - v.iThr) / 1000)) ∧
        (0 < q → lower = min 1600 (v.iThr + q.natAbs * (v.iMax - v.iThr) / 1000))) ∧
      t.seq = s.seq ∧ t.speed = s.speed ∧ t.store = s.store ∧ t.run = s.run ∧ t.power = s.power ∧ t.svc = s.svc

/-- R131, R137, R165: with valve_supply_ok false, no HITCH entry, strap service, or the HITCH gate closed as the step begins, a
hitch step leaves STOPPED with both pilots at 0 mA and no pending lift command, and a FENDER that ends so gives HITCH_LIFT to
PART. -/
def Obligations.HitchStops : Prop :=
  ∀ (s : State) (dt : Nat) (inp : HitchInputs), s.running = true →
    (s.valveSupplyOk = false ∨ s.hitchCal = none ∨ s.build.serviceStrap = true ∨ s.gateOpen .hitch = false) →
    ∃ t, exec (.hitchStep dt inp) s = .next t ∧
      t.hitch.lift = .stopped ∧ t.hitch.report.lift = .stopped ∧
      t.chan.channels.hitchRaise.demand = 0 ∧ t.chan.channels.hitchLower.demand = 0 ∧ t.hitch.pendingLift = none ∧
      (s.hitch.lift = .fender → t.holder .hitchLift = .part)

/-- R125, R130, R175, R20: the row of a part that an IMPL_HITCH carries takes the frame at the head of the queue, and each of
its parts is judged on its own at that event (log 5, DEDUCED). The setpoint of a holder becomes the shadow, clamped, and renews
the lease on HITCH_SET; the quick command of a holder becomes the pending lift command and renews the lease on HITCH_LIFT, but
is refused INHIBITED in STOPPED, and as WORK in UNMATCHED or under the transport lock; a part that is not taken changes no
function and nothing of the hitch. -/
def Obligations.ImplementHitchParts : Prop :=
  ∀ (s : State) (dt : Nat) (c : Instr) (set : Option Setpoint) (quick : Option LiftCmd), s.running = true →
    s.head .implement = some (.implHitch set quick) →
    (c = .implHitchSetpoint dt ∧ set ≠ none) ∨ (c = .implHitchRaise dt ∧ quick = some .raise) ∨
      (c = .implHitchWork dt ∧ quick = some .work) →
    let takenSet : Prop := set ≠ none ∧ s.holder .hitchSet = .impl
    let inhibited : Prop :=
      s.hitch.lift = .stopped ∨ (quick = some .work ∧ (s.hitch.lift = .unmatched ∨ s.hitch.cab.lock = true))
    let takenQuick : Prop := quick ≠ none ∧ s.holder .hitchLift = .impl ∧ ¬ inhibited
    ∃ t, exec c s = .next t ∧
      t.link.implement.inbox = s.link.implement.inbox.tail ∧
      (takenSet → ∀ p, set = some p →
        t.hitch.shadow = some { p := clamp 0 1000 p.p, d := clamp 0 1000 p.d, m := clamp 0 100 p.m } ∧
        t.auth.table.hitchSet = { s.auth.table.hitchSet with leaseEnd := some (s.now + dt + 500) }) ∧
      (¬ takenSet → t.hitch.shadow = s.hitch.shadow ∧ t.auth.table.hitchSet = s.auth.table.hitchSet) ∧
      (takenQuick → t.hitch.pendingLift = quick ∧
        t.auth.table.hitchLift = { s.auth.table.hitchLift with leaseEnd := some (s.now + dt + 500) }) ∧
      (¬ takenQuick → t.hitch.pendingLift = s.hitch.pendingLift ∧ t.auth.table.hitchLift = s.auth.table.hitchLift) ∧
      ((set = none ∨ takenSet) → (quick = none ∨ takenQuick) →
        t.link.implement = { s.link.implement with inbox := s.link.implement.inbox.tail }) ∧
      ((set = none ∨ takenSet) → quick ≠ none → s.holder .hitchLift = .impl → inhibited →
        s.link.implement.rejoin = none → s.link.implement.outbox.length < 8 →
        t.link.implement.outbox = s.link.implement.outbox ++
          [outFrame .refusal [3, 2, funcCode .hitchLift, reasonCode .inhibited]]) ∧
      t = { s.advance dt with
        auth := { s.auth with table :=
          { s.auth.table with hitchSet := t.auth.table.hitchSet, hitchLift := t.auth.table.hitchLift } }
        hitch := { s.hitch with shadow := t.hitch.shadow, pendingLift := t.hitch.pendingLift }
        link := { s.link with implement := t.link.implement } }

/-! ### Trailer Brake Controller -/

/-- R144: Brake Demand as a brake step sets it. -/
def Obligations.BrakeDemandOfTheStep : Prop :=
  ∀ (s : State) (dt : Nat) (inp : BrakeInputs), s.running = true →
    ∃ t, exec (.brakeStep dt inp) s = .next t ∧
      let d := t.brake.demand
      d.pedalLeft = inp.pedalLeft ∧ d.pedalRight = inp.pedalRight ∧ d.parkApplied = inp.parkApplied ∧
      d.sensorFailed = t.active .brakePressureSensor ∧
      (d.sensorFailed = true → d.pBrk = 0) ∧
      (s.active .brakePressureSensor = false → 200 ≤ inp.rawBrake → inp.rawBrake ≤ 3895 →
        d.pBrk = (clampZ 0 2000 ((((inp.rawBrake : Int) - 400) * 5).tdiv 8)).toNat) ∧
      (d.sensorFailed = false →
        (d.brakeActive = true ↔
          (inp.pedalLeft = true ∧ inp.pedalRight = true ∧ 50 ≤ d.pBrk) ∨ 200 ≤ d.pBrk)) ∧
      (d.sensorFailed = true → (d.brakeActive = true ↔ inp.pedalLeft = true ∧ inp.pedalRight = true))

/-- R147: P_map of a brake step, with the worked values. -/
def Obligations.TrailerMapValue : Prop :=
  ∀ (s : State) (dt : Nat) (inp : BrakeInputs), s.running = true → s.brake.trailer.line ≠ .notFitted →
    ∃ t, exec (.brakeStep dt inp) s = .next t ∧
      let d := t.brake.demand
      let c := s.trailerCal
      let p := if t.active .brakePressureSensor = true then 400 else d.pBrk
      (d.brakeActive = true → t.brake.trailer.pMap = clamp 0 1500 (c.pLead + (p * c.kTb + 32) / 64)) ∧
      (d.brakeActive = false → t.brake.trailer.pMap = 0) ∧
      (s.store.cal.trailer = none → c.kTb = 48 ∧ c.pLead = 50) ∧
      (c.kTb = 48 → c.pLead = 50 → d.brakeActive = true →
        (p = 50 → t.brake.trailer.pMap = 88) ∧ (p = 200 → t.brake.trailer.pMap = 200) ∧
        (p = 400 → t.brake.trailer.pMap = 350) ∧ (p = 1000 → t.brake.trailer.pMap = 800) ∧
        (p = 2000 → t.brake.trailer.pMap = 1500)) ∧
      (c.kTb = 255 → p = 2000 → d.brakeActive = true → t.brake.trailer.pMap = 1500) ∧
      (c.kTb = 0 → c.pLead ≤ 200 → d.brakeActive = true → t.brake.trailer.pMap = c.pLead)

/-- R148, R149: the control-line command follows the supply-line state, stands on channel 13, and is at least P_map while
the line is charging or ready; channel 14 is on in CHARGING, READY and LOST. R151: the recharge count of LOST, and the step at
which it clears the latch after an acknowledgement: READY, with fault 4 inactive (the map rules P_tc at that step already,
log 20, DEDUCED). -/
def Obligations.TrailerLineCommand : Prop :=
  ∀ (s : State) (dt : Nat) (inp : BrakeInputs), s.running = true → s.brake.trailer.line ≠ .notFitted →
    ∃ t, exec (.brakeStep dt inp) s = .next t ∧
      let old := s.brake.trailer
      let r := t.brake.trailer
      (r.line = .supplyOff → r.pTc = 0 ∧ t.chan.channels.trailerSupply.demand = 0) ∧
      (r.line = .charging ∨ r.line = .ready →
        (r.assist = true → r.pTc = max r.pMap s.trailerCal.pAssist) ∧ (r.assist = false → r.pTc = r.pMap) ∧
        r.pMap ≤ r.pTc ∧ t.chan.channels.trailerSupply.demand = 1) ∧
      (r.line = .lost → r.pTc = 1500 ∧ t.chan.channels.trailerSupply.demand = 1) ∧
      (old.line = .lost →
        (inp.supplyClosed = false → r.line = .lost ∧ r.closedSince = none) ∧
        (inp.supplyClosed = true →
          (old.closedSince = none → r.line = .lost ∧ r.closedSince = some (s.now + dt)) ∧
          (∀ u, old.closedSince = some u → s.now + dt < u + 500 ∨ old.ackSeen = false →
            r.line = .lost ∧ r.closedSince = some u) ∧
          (∀ u, old.closedSince = some u → u + 500 ≤ s.now + dt → old.ackSeen = true →
            r.line = .ready ∧ r.openSince = none ∧ t.active .trailerSupplyLost = false)) ∧
        (r.line = .lost → r.ackSeen = old.ackSeen)) ∧
      r.line ≠ .notFitted ∧ t.chan.channels.trailerControl.demand = r.pTc ∧
      t.seq = s.seq ∧ t.speed = s.speed ∧ t.store = s.store ∧ t.run = s.run ∧ t.power = s.power ∧ t.svc = s.svc

/-- R150: at the brake step where READY has seen the supply switch open for 200 ms, the state becomes LOST, fault 4 is
active, P_tc is 1500, the supply stays on, and the fault engagement of four-wheel drive and the upshift inhibit hold. -/
def Obligations.Breakaway : Prop :=
  ∀ (s : State) (dt u : Nat) (inp : BrakeInputs), s.running = true → s.brake.trailer.line = .ready →
    inp.parkApplied = false → inp.supplyClosed = false → s.gateOpen .trailer = true → s.valveSupplyOk = true →
    s.brake.trailer.openSince = some u → u + 200 ≤ s.now + dt →
    ∃ t, exec (.brakeStep dt inp) s = .next t ∧
      t.brake.trailer.line = .lost ∧ t.brake.trailer.ackSeen = false ∧ t.brake.trailer.closedSince = none ∧
      t.brake.trailer.pTc = 1500 ∧ t.chan.channels.trailerSupply.demand = 1 ∧
      t.active .trailerSupplyLost = true ∧ t.axle.faultEngagement = true ∧ t.upshiftInhibit = true

/-! ### Faults -/

/-- R161: an ACK of a known code, or of 0 for all, acknowledges the entries and the closing records it names and tells the
channels, the axle and the trailer; an unknown code changes no fault record. R151: one that names fault 4 in LOST clears the
latch at its event where the recharge holds, and otherwise is kept in ack_seen; any other leaves the trailer as it is. -/
def Obligations.Acknowledgement : Prop :=
  ∀ (s : State) (dt n : Nat), s.running = true → s.head .vehicle = some (.ack n) →
    ∃ t, exec (.cabCommandAck dt) s = .next t ∧
      t.link.vehicle.inbox = s.link.vehicle.inbox.tail ∧
      (∀ c, (n = 0 ∨ FaultCode.ofNum n = some c) →
        (∀ e ∈ t.fault.list, e.code = c → e.acked = true ∧ (e.active = false → e.removalDue ≠ none)) ∧
        (∀ g, ∀ k ∈ t.fault.gates.get g, k.code = c → k.acked = true ∧ k.active = true) ∧
        (∀ i, (s.chan.channels.get i).state = .faulted → (s.chan.channels.get i).fitted = true → chanCode i = c →
          (t.chan.channels.get i).ackSeen = true) ∧
        (c = .axleReleaseFailed → t.axle.ackSeen = true)) ∧
      (n = 0 ∨ n = 4 → s.brake.trailer.line = .lost →
        (s.brake.recharged = true →
          t.brake.trailer.line = .ready ∧ t.brake.trailer.openSince = none ∧
            t.brake.trailer.pTc = s.brake.trailer.pTc ∧ t.active .trailerSupplyLost = false) ∧
        (s.brake.recharged = false →
          t.brake = { s.brake with trailer := { s.brake.trailer with ackSeen := true } })) ∧
      ((n ≠ 0 ∧ n ≠ 4) ∨ s.brake.trailer.line ≠ .lost → t.brake = s.brake) ∧
      (n ≠ 0 → FaultCode.ofNum n = none → t = { s.advance dt with link := t.link }) ∧
      t = { s.advance dt with chan := t.chan, axle := t.axle, brake := t.brake, fault := t.fault, link := t.link }

/-- R160, R159: at removal_due an entry whose notice is not pending leaves the list, and list_full is cleared where 15 are
left; before it, nothing changes; the gates and the active codes do not depend on the entry. -/
def Obligations.EntryRemoval : Prop :=
  ∀ (s : State) (dt : Nat) (e : FaultEntry), s.running = true →
    s.fault.list.find? (fun d => decide (d.code = e.code)) = some e →
    ∃ t, exec (.entryRemoval dt e.code) s = .next t ∧
      (∀ u, e.removalDue = some u → u ≤ s.now + dt → e.noticePending = false →
        (∀ d ∈ t.fault.list, d.code ≠ e.code) ∧
          ((removeCode e.code s.fault.list).length = 15 → t.fault.listFull = false)) ∧
      (∀ u, e.removalDue = some u → s.now + dt < u → t = s.advance dt) ∧
      (e.removalDue = none ∨ e.noticePending = true → t = s.advance dt) ∧
      t.fault.gates = s.fault.gates ∧ t.fault.active = s.fault.active ∧
      t = { s.advance dt with fault := t.fault, link := t.link }

/-- R174, R35, R110: a link check that finds operator demand stale makes fault 3 active, moves SPEED to CAB and HITCH_SET and
HITCH_LIFT to PART from CAB and IMPL, and begins the fault engagement; one that finds it fresh makes fault 3 inactive. -/
def Obligations.LinkCheckJudgesDemand : Prop :=
  ∀ (s : State) (dt : Nat) (a : Copy DemandA) (b : Copy DemandB), s.running = true → s.link.demandA = some a →
    s.link.demandB = some b →
    ∃ t, exec (.linkCheck dt) s = .next t ∧
      (s.link.vehicle.rejoin ≠ none ∨ a.arrived + 200 < s.now + dt ∨ b.arrived + 200 < s.now + dt →
        t.active .vehicleLinkLost = true ∧
        (s.active .vehicleLinkLost = false →
          (s.holder .speed = .cab ∨ s.holder .speed = .impl → t.holder .speed = .cab) ∧
          (s.holder .hitchSet = .cab ∨ s.holder .hitchSet = .impl → t.holder .hitchSet = .part) ∧
          (s.holder .hitchLift = .cab ∨ s.holder .hitchLift = .impl → t.holder .hitchLift = .part) ∧
          t.holder .axle = s.holder .axle ∧ t.holder .gear = s.holder .gear ∧ t.axle.faultEngagement = true) ∧
        (s.active .vehicleLinkLost = true → t = s.advance dt)) ∧
      (s.link.vehicle.rejoin = none → s.now + dt ≤ a.arrived + 200 → s.now + dt ≤ b.arrived + 200 →
        t.active .vehicleLinkLost = false ∧ t.auth = s.auth ∧ t.axle = s.axle) ∧
      t.seq = s.seq ∧ t.speed = s.speed ∧ t.store = s.store ∧ t.run = s.run ∧ t.power = s.power ∧ t.svc = s.svc

/-! ### Power -/

/-- R167, R168, R169, R36: the power step judges the ignition after 50 ms, enters SETTLE from RUN and FLUSH from SETTLE,
returns to RUN when the ignition comes back in SETTLE, and in OFF opens the strap window when it comes back. An ignition judged
on in FLUSH marks a restart wanted, and one judged off again clears the mark; FLUSH ends after 500 ms in OFF, or with the mark
in a Soft restart with the hold kept, complete at this step whatever is left to drain (the model's choice, log 23). -/
def Obligations.PowerStepMoves : Prop :=
  ∀ (s : State) (dt u : Nat) (rbs : List ReadBack), s.life = .on →
    (∃ t, exec (.powerStep dt false rbs) s = .next t ∧
      (s.power.power = .run → s.power.ignitionOn = true → s.power.lowSince = some u → u + 50 ≤ s.now + dt →
        t.power.power = .settle ∧ t.power.settleStart = s.now + dt ∧ t.power.ignitionOn = false ∧
          (∀ f ∈ delegableFuncs, t.holder f ≠ .impl ∧ (t.auth.table.get f).pendingSince = none) ∧
          t.seq = s.seq ∧ t.store = s.store ∧ t.chan = s.chan) ∧
      (s.power.power = .run → s.power.ignitionOn = true → s.power.lowSince = some u → s.now + dt < u + 50 →
        t = { s.advance dt with power := t.power } ∧ t.power.power = .run) ∧
      (s.power.power = .settle → s.power.ignitionOn = false →
        (s.speed.set.vGround < 50 ∨ s.power.settleStart + 2000 ≤ s.now + dt →
          t.power.power = .flush ∧ t.power.flushStart = s.now + dt) ∧
        (50 ≤ s.speed.set.vGround → s.now + dt < s.power.settleStart + 2000 →
          t = { s.advance dt with power := t.power } ∧ t.power.power = .settle)) ∧
      (s.power.power = .flush →
        (s.power.ignitionOn = false ∧ s.power.restartWanted = false) ∨
          (s.power.ignitionOn = true ∧ s.power.lowSince = some u ∧ u + 50 ≤ s.now + dt) →
        (s.now + dt < s.power.flushStart + 500 →
          t.power.power = .flush ∧ t.power.restartWanted = false ∧ t.power.ignitionOn = false ∧
            t = { s.advance dt with power := t.power }) ∧
        (s.power.flushStart + 500 ≤ s.now + dt →
          t.power.power = .off ∧ t.power.hold = false ∧
            ∀ i, (s.chan.channels.get i).state ≠ .parked →
              (t.chan.channels.get i).state = .off ∧ (t.chan.channels.get i).commanded = 0))) ∧
    (∃ t, exec (.powerStep dt true rbs) s = .next t ∧
      (s.power.power = .settle → s.power.ignitionOn = false → s.power.highSince = some u → u + 50 ≤ s.now + dt →
        t.power.power = .run ∧ t.power.ignitionOn = true ∧ t.seq = { s.seq with neutralStartOk := false } ∧
          t.chan = s.chan ∧ t.auth = s.auth) ∧
      (s.power.power = .flush →
        (s.power.ignitionOn = true ∧ s.power.restartWanted = true) ∨
          (s.power.ignitionOn = false ∧ s.power.highSince = some u ∧ u + 50 ≤ s.now + dt) →
        (s.now + dt < s.power.flushStart + 500 →
          t.power.power = .flush ∧ t.power.restartWanted = true ∧ t.power.ignitionOn = true ∧ t.power.hold = s.power.hold ∧
            t = { s.advance dt with power := t.power }) ∧
        (s.power.flushStart + 500 ≤ s.now + dt → t.restartedFrom (s.advance dt))) ∧
      (s.power.power = .off → s.power.ignitionOn = false → s.power.highSince = some u → u + 50 ≤ s.now + dt →
        t.life = .strapWindow ∧ t.start = s.now + dt))

/-- R71, R187: the supply, or the ignition under it, opens the strap window; at its end, 50 ms later, the Build Record is
set from the fifty readings and the Power-on start is taken, from which time is counted. -/
def Obligations.SupplyAndStrapWindow : Prop :=
  ∀ (s : State) (dt : Nat),
    (∀ ignition, ∃ t, exec (.supplyApplied dt ignition) s = .next t ∧
      (s.life = .unpowered ∨ s.life = .supplyNoIgnition →
        (ignition = true → t.life = .strapWindow ∧ t.start = s.now + dt) ∧
        (ignition = false → t = { s.advance dt with life := .supplyNoIgnition })) ∧
      (s.life = .strapWindow ∨ s.life = .on → t = s.advance dt)) ∧
    (∀ l : List StrapReading, l.length = 50 →
      ∃ t, exec (.strapWindowEnd dt l) s = .next t ∧
        (s.life = .strapWindow → s.start + 50 ≤ s.now + dt →
          t.running = true ∧ t.now = 0 ∧ t.start = 0 ∧ t.pending = s.pending ∧ t.store.mem = s.store.mem ∧
          (t.build.trailerFitted = true ↔ ∀ r ∈ l.drop 40, r.trailerLow = true) ∧
          (t.build.draftFitted = true ↔ ∀ r ∈ l.drop 40, r.draftLow = true) ∧
          (t.build.radarFitted = true ↔ ∀ r ∈ l.drop 40, r.radarLow = true) ∧
          (t.build.diffLockFitted = true ↔ ∀ r ∈ l.drop 40, r.diffLockLow = true) ∧
          (t.build.serviceStrap = true ↔ ∀ r ∈ l, r.serviceLow = true) ∧
          (t.svc.unlock = .unlocked ↔ t.build.serviceStrap = true) ∧
          (t.speed.radar = .ok ↔ t.build.radarFitted = true) ∧
          (∀ i, (t.chan.channels.get i).commanded = 0)) ∧
        (s.life ≠ .strapWindow ∨ s.now + dt < s.start + 50 → t = s.advance dt))

/-! ### Links -/

/-- R173, R172, R181: a periodic frame of its kind's length, with its coded fields inside their lists, replaces the mailbox
copy with its arrival time; any other, and every frame on a BUS_OFF link, changes nothing. -/
def Obligations.PeriodicFrames : Prop :=
  ∀ (s : State) (dt : Nat) (data : List Byte), s.running = true →
    (∃ t, exec (.engineReport dt data) s = .next t ∧
      (s.link.vehicle.rejoin ≠ none ∨ data.length ≠ 4 → t = s.advance dt) ∧
      (∀ a b c d : Byte, s.link.vehicle.rejoin = none → data = [a, b, c, d] →
        let v : EngineReport := { eng := a.toNat + 256 * b.toNat, load := c.toNat, limitAck := decide (d.toNat % 2 = 1) }
        t = { s.advance dt with link := { s.link with engine := some { val := v, arrived := s.now + dt } } })) ∧
    (∃ t, exec (.operatorDemandA dt data) s = .next t ∧
      (s.link.vehicle.rejoin ≠ none ∨ decodeDemandA data = none → t = s.advance dt) ∧
      (data.length ≠ 8 → t = s.advance dt) ∧
      (∀ b rest, data = b :: rest → b.toNat % 4 = 3 → t = s.advance dt) ∧
      (∀ v, s.link.vehicle.rejoin = none → decodeDemandA data = some v →
        t = { s.advance dt with link := { s.link with demandA := some { val := v, arrived := s.now + dt } } })) ∧
    (∃ t, exec (.operatorDemandB dt data) s = .next t ∧
      (s.link.vehicle.rejoin ≠ none ∨ decodeDemandB data = none → t = s.advance dt) ∧
      (data.length ≠ 8 → t = s.advance dt) ∧
      (∀ v, s.link.vehicle.rejoin = none → decodeDemandB data = some v →
        v.pLever = 5 * (data.headD 0).toNat ∧
        t = { s.advance dt with link := { s.link with demandB := some { val := v, arrived := s.now + dt } } }))

/-- R173, R175: an event frame joins the tail of its link's queue, is refused BUSY with 8 entries in it, is refused UNKNOWN
where it is malformed, and is ignored under another identifier or on a BUS_OFF link. -/
def Obligations.EventFramesQueue : Prop :=
  ∀ (s : State) (dt : Nat) (l : Link) (ident : Nat) (data : List Byte), s.running = true →
    ∃ t, exec (.eventFrameReceived dt l ident data) s = .next t ∧
      (eventKind l ident = none ∨ (s.link.get l).rejoin ≠ none → t = s.advance dt) ∧
      (∀ k, (s.link.get l).rejoin = none → eventKind l ident = some k →
        (decodeEvent k data = none →
          (t.link.get l).inbox = (s.link.get l).inbox ∧
          ((s.link.get l).outbox.length < 8 →
            (t.link.get l).outbox = (s.link.get l).outbox ++
              [outFrame .refusal [k.message, refusedPart k data, 0, 9]])) ∧
        (∀ e, decodeEvent k data = some e → (s.link.get l).inbox.length < 8 →
          (t.link.get l).inbox = (s.link.get l).inbox ++ [e] ∧ (t.link.get l).outbox = (s.link.get l).outbox) ∧
        (∀ e, decodeEvent k data = some e → 8 ≤ (s.link.get l).inbox.length →
          (t.link.get l).inbox = (s.link.get l).inbox ∧
          ((s.link.get l).outbox.length < 8 →
            (t.link.get l).outbox = (s.link.get l).outbox ++
              [outFrame .refusal [k.message, refusedPart k data, 0, 4]]))) ∧
      (∀ m, m ≠ l → t.link.get m = s.link.get m) ∧
      t = { s.advance dt with link := t.link }

/-- R176, R178: a sent event frame leaves its queue, a sent copy leaves the queue as it is. The transmitter of an ACTIVE link
then chooses the lowest identifier among the copies that wait in the mailboxes and the head of the queue, and is idle only
where nothing waits. A chosen copy leaves its mailbox, and every other copy stays; the queue gains notices alone, on the vehicle
link. That the notices which the sent frame makes room for are placed before it chooses is the model's choice (log 44). -/
def Obligations.TransmitterChoosesLowest : Prop :=
  ∀ (s : State) (dt : Nat) (l : Link) (x : InTransmission), s.running = true → (s.link.get l).bounded = true →
    (s.link.get l).rejoin = none → (s.link.get l).tx = some x →
    ∃ t, exec (.frameSent dt l) s = .next t ∧
      let old := s.link.get l
      let k := t.link.get l
      (∃ notices, k.outbox = (if x = .event then old.outbox.tail else old.outbox) ++ notices ∧
        (∀ e ∈ notices, e.kind = .notice) ∧ (l = .implement → notices = [])) ∧
      (∀ m, k.tx = some (.mail m) →
        m ∈ old.mail ∧ k.mail = old.mail.filter (fun y => decide (y ≠ m)) ∧
        (∀ y ∈ k.mail, m.ident < y.ident) ∧ (∀ e, k.outbox.head? = some e → m.ident < outIdent l e.kind)) ∧
      (k.tx = some .event → k.mail = old.mail ∧
        ∃ e, k.outbox.head? = some e ∧ ∀ y ∈ k.mail, outIdent l e.kind ≤ y.ident) ∧
      (k.tx = none → old.mail = [] ∧ k.mail = [] ∧ k.outbox = []) ∧
      k.inbox = old.inbox ∧ k.rejoin = none ∧ (∀ j, j ≠ l → t.link.get j = s.link.get j) ∧
      t.link = { s.link with vehicle := t.link.vehicle, implement := t.link.implement } ∧
      t = { s.advance dt with fault := t.fault, link := t.link }

/-- R172, R25: bus-off empties the event queue, keeps only notices to send, and on the implement link takes the implement's
functions and requests; the rejoin time is 200 ms, and its expiry makes the link ACTIVE again. -/
def Obligations.BusOffAndRejoin : Prop :=
  ∀ (s : State) (dt : Nat) (l : Link), s.running = true →
    (∃ t, exec (.busOff dt l) s = .next t ∧
      ((s.link.get l).rejoin = none →
        (t.link.get l).rejoin = some (s.now + dt + 200) ∧ (t.link.get l).inbox = [] ∧ (t.link.get l).tx = none ∧
        (∀ e, e ∈ (t.link.get l).outbox ↔ e ∈ (s.link.get l).outbox ∧ e.kind = .notice) ∧
        (∀ m ∈ (s.link.get l).mail, m ∈ (t.link.get l).mail) ∧
        (l = .implement → ∀ f ∈ delegableFuncs,
          (s.holder f = .impl → t.holder f = s.target f) ∧ t.holder f ≠ .impl ∧
          (t.auth.table.get f).pendingSince = none)) ∧
      ((s.link.get l).rejoin ≠ none → t = s.advance dt) ∧
      (∀ m, m ≠ l → t.link.get m = s.link.get m) ∧
      (l = .vehicle → t = { s.advance dt with link := t.link })) ∧
    (∃ t, exec (.linkRejoin dt l) s = .next t ∧
      (∀ u, (s.link.get l).rejoin = some u → u ≤ s.now + dt →
        (t.link.get l).rejoin = none ∧ (t.link.get l).inbox = (s.link.get l).inbox ∧
        (s.link.get l).outbox <+: (t.link.get l).outbox) ∧
      (∀ u, (s.link.get l).rejoin = some u → s.now + dt < u → t = s.advance dt) ∧
      ((s.link.get l).rejoin = none → t = s.advance dt) ∧
      t = { s.advance dt with fault := t.fault, link := t.link })

/-- R139, R155, R177, R176: HITCH_STATUS, TRAILER_STATUS and DRIVE_STATUS are placed as copies, each taking the place of an
unsent one of its kind: the copy stands in its mailbox or is the frame in transmission; the report timer places IMPL_STATUS
at every second expiry. Every waiting copy of another kind stands or is in transmission, a frame in transmission stays, and
the queues and the inbound mailboxes are as they were. The bits of an absent value in a frame are the model's choice
(log 39). -/
def Obligations.StatusCopiesArePlaced : Prop :=
  ∀ (s : State) (dt : Nat), s.running = true → s.link.vehicle.bounded = true → s.link.implement.bounded = true →
    let placed (old k : LinkState) (ident : Nat) (data : List Byte) : Prop :=
      let copy : Mail := { ident := ident, data := data }
      (copy ∈ k.mail ∨ k.tx = some (.mail copy)) ∧ (∀ m ∈ k.mail, m.ident = ident → m = copy) ∧
        (∀ m ∈ old.mail, m.ident ≠ ident → m ∈ k.mail ∨ k.tx = some (.mail m)) ∧
        (∀ m ∈ k.mail, m = copy ∨ m ∈ old.mail) ∧
        (∀ x, old.tx = some x → k.tx = some x) ∧
        (old.tx = none → ∀ m, k.tx = some (.mail m) → m = copy ∨ m ∈ old.mail) ∧
        k.inbox = old.inbox ∧ k.outbox = old.outbox ∧ k.rejoin = old.rejoin
    (∃ t, exec (.hitchStatus dt) s = .next t ∧
      placed s.link.vehicle t.link.vehicle 0x308 (hitchStatusFrame s) ∧
      t = { s.advance dt with link := { s.link with vehicle := t.link.vehicle } }) ∧
    (∃ t, exec (.trailerStatus dt) s = .next t ∧
      placed s.link.vehicle t.link.vehicle 0x310 (trailerStatusFrame s) ∧
      t = { s.advance dt with link := { s.link with vehicle := t.link.vehicle } }) ∧
    (∃ t, exec (.reportTimer dt) s = .next t ∧
      placed s.link.vehicle t.link.vehicle 0x300 (driveStatus s) ∧
      (s.link.secondReport = true → placed s.link.implement t.link.implement 0x1B8 (implStatus s)) ∧
      (s.link.secondReport = false → t.link.implement = s.link.implement) ∧
      t = { s.advance dt with link :=
        { s.link with
          vehicle := t.link.vehicle, implement := t.link.implement, secondReport := !s.link.secondReport } })

/-! ### Service line -/

/-- R182, R187: the receiver of the service line: the first byte is the length, a frame completes with n + 3 bytes, a sum
other than 0 or a length above 32 discards it, a gap of 5 ms discards it, and no byte is taken while an answer is under way
or before the line's first rise. -/
def Obligations.ServiceReceiver : Prop :=
  ∀ (s : State) (dt : Nat) (b : Byte), s.running = true →
    (∃ t, exec (.serviceByte dt b) s = .next t ∧
      (s.svc.lineRisen = false ∨ s.svc.rx = .answering → t = s.advance dt) ∧
      (s.svc.lineRisen = true → s.svc.rx = .idle →
        (32 < b.toNat → t = s.advance dt) ∧
        (b.toNat ≤ 32 →
          t = { s.advance dt with svc := { s.svc with rx := .receiving, buf := [b], lastByte := s.now + dt } })) ∧
      (∀ n rest, s.svc.lineRisen = true → s.svc.rx = .receiving → s.svc.buf = n :: rest →
        (rest.length + 2 < n.toNat + 3 →
          t = { s.advance dt with svc := { s.svc with buf := n :: rest ++ [b], lastByte := s.now + dt } }) ∧
        (n.toNat + 3 ≤ rest.length + 2 →
          ((n :: rest ++ [b]).foldl (· + ·) 0 ≠ 0 →
            t = { s.advance dt with svc := { s.svc with rx := .idle, buf := [] } }) ∧
          ((n :: rest ++ [b]).foldl (· + ·) 0 = 0 →
            t.svc.rx = .answering ∧ t.svc.buf = [] ∧ t.svc.unlock = s.svc.unlock ∧
              (s.build.serviceStrap = false → t.svc.silence = some (s.now + dt + 5000)) ∧
              t = { s.advance dt with svc := t.svc })))) ∧
    (∃ t, exec (.serviceGapExpiry dt) s = .next t ∧
      (s.svc.rx = .receiving → s.svc.lastByte + 5 ≤ s.now + dt →
        t = { s.advance dt with svc := { s.svc with rx := .idle, buf := [] } }) ∧
      (s.svc.rx ≠ .receiving ∨ s.now + dt < s.svc.lastByte + 5 → t = s.advance dt)) ∧
    (∃ t, exec (.serviceLineFirstRise dt) s = .next t ∧
      t = { s.advance dt with svc := { s.svc with lineRisen := true } })

/-- R182, R188, R68, R72, R86, R170, R189: an answer that begins and ends returns the receiver to IDLE and dates the next KEY;
the answer to a RESTART ends in a Soft restart, which keeps the Build Record, empties the Fault List, leaves N and no current,
and locks the service line but in strap service. That it is complete at this event, whatever the store has left to drain, is
the model's choice (log 23). -/
def Obligations.AnswersEnd : Prop :=
  ∀ (s : State) (dt : Nat) (rbs : List ReadBack), s.running = true →
    (∃ t, exec (.answerStart dt) s = .next t ∧
      (s.svc.rx = .answering → s.svc.answer ≠ none →
        t = { s.advance dt with svc := { s.svc with sending := true } }) ∧
      (s.svc.rx ≠ .answering ∨ s.svc.answer = none → t = s.advance dt)) ∧
    (∃ t, exec (.answerSent dt rbs) s = .next t ∧
      (s.svc.sending = false → t = s.advance dt) ∧
      (s.svc.sending = true → s.svc.restartAfter = false →
        t = { s.advance dt with svc :=
          { s.svc with rx := .idle, answer := none, sending := false, lastAnswer := some (s.now + dt) } }) ∧
      (s.svc.sending = true → s.svc.restartAfter = true →
        t.running = true ∧ t.restartedFrom (s.advance dt)))

/-- R185: SYNC and KEY, state by state. -/
def Obligations.SyncAndKey : Prop :=
  ∀ (s : State) (dt word : Nat), s.running = true →
    (s.svc.frame = some (.sync word) →
      ∃ t, exec (.sync dt) s = .next t ∧
        (word ≠ 0x4B2D → t.answeredRefused .unknown ∧ t.svc.unlock = s.svc.unlock ∧ t.svc.words = s.svc.words) ∧
        (word = 0x4B2D → s.svc.unlock = .unlocked →
          t.svc.unlock = .unlocked ∧ t.svc.answer = some (frameBytes 0x81 [0xAD, 0x4B])) ∧
        (word = 0x4B2D → s.svc.unlock ≠ .unlocked → s.svc.syncBlock ≠ none →
          t.answeredRefused .locked ∧ t.svc.unlock = s.svc.unlock ∧ t.svc.words = s.svc.words) ∧
        (word = 0x4B2D → s.svc.unlock ≠ .unlocked → s.svc.syncBlock = none →
          t.svc.unlock = .synced ∧ t.svc.words = [] ∧ t.svc.answer = some (frameBytes 0x81 [0xAD, 0x4B])) ∧
        t.svc.syncBlock = s.svc.syncBlock ∧ t = { s.advance dt with svc := t.svc }) ∧
    (s.svc.frame = some (.key word) →
      ∃ t, exec (.key dt) s = .next t ∧
        (s.svc.unlock = .locked ∨ s.svc.unlock = .unlocked →
          t.answeredRefused .locked ∧ t.svc.unlock = s.svc.unlock) ∧
        (s.svc.unlock = .synced ∨ s.svc.unlock = .keying →
          (∀ u, s.svc.lastAnswer = some u → s.now + dt < u + 50 →
            t.svc.answer = some (frameBytes 0x82 []) ∧ t.svc.unlock = s.svc.unlock ∧ t.svc.words = s.svc.words) ∧
          (∀ u, s.svc.lastAnswer = some u → u + 50 ≤ s.now + dt →
            (s.svc.words.length < 4 →
              t.svc.unlock = .keying ∧ t.svc.words = s.svc.words ++ [word] ∧ t.answeredOk) ∧
            (s.svc.words.length = 4 →
              (s.svc.words ++ [word] = keyWords s.serviceKey →
                t.svc.unlock = .unlocked ∧ t.svc.words = [] ∧ t.answeredOk ∧ t.svc.syncBlock = s.svc.syncBlock) ∧
              (s.svc.words ++ [word] ≠ keyWords s.serviceKey →
                t.svc.unlock = .locked ∧ t.svc.words = [] ∧ t.svc.syncBlock = some (s.now + dt) ∧
                  t.answeredRefused .locked)))) ∧
        t = { s.advance dt with svc := t.svc })

/-- R185, R186, R187, R30, R98: CANCEL and LOCK are refused in strap service and otherwise end in LOCKED (LOCK only from
UNLOCKED), the silence deadline ends in LOCKED, a speed sample that publishes v_ground of 100 or more locks an UNLOCKED line
outside strap service, and the SYNC block ends after 10,000 ms. Where UNLOCKED ends, every function SVC holds goes to its
target, and a calibration run short of WRITE fails with CALIB_LOST as CALIB leaves SVC; one in WRITE goes on. -/
def Obligations.UnlockedEnds : Prop :=
  ∀ (s : State) (dt : Nat), s.running = true →
    let early : Prop := s.run.phase = .prepare ∨ s.run.phase = .kissSearch ∨ s.run.phase = .fillSearch
    let ended (t : State) : Prop :=
      t.svc.unlock = .locked ∧ t.svc.words = [] ∧ (∀ f, s.holder f = .svc → t.holder f = s.target f) ∧
        (s.holder .calib = .svc → early → t.run.phase = .failed ∧ t.run.reason = some .calibLost ∧ t.run.kiss = none ∧
          t.run.named = 0 ∧ t.run.namedOthers = 0) ∧
        (s.holder .calib ≠ .svc ∨ ¬ early → t.run = s.run)
    (s.svc.frame = some .cancel →
      ∃ t, exec (.cancel dt) s = .next t ∧
        (s.build.serviceStrap = true → t.answeredRefused .notPermitted ∧ t = { s.advance dt with svc := t.svc } ∧
          t.svc.unlock = s.svc.unlock) ∧
        (s.build.serviceStrap = false → t.answeredOk ∧ t.svc.unlock = .locked ∧ t.svc.words = [] ∧
          (s.svc.unlock = .unlocked → ended t))) ∧
    (s.svc.frame = some .lock →
      ∃ t, exec (.lock dt) s = .next t ∧
        (s.build.serviceStrap = true → t.answeredRefused .notPermitted ∧ t = { s.advance dt with svc := t.svc } ∧
          t.svc.unlock = s.svc.unlock) ∧
        (s.build.serviceStrap = false → t.answeredOk ∧
          (s.svc.unlock = .unlocked → ended t) ∧
          (s.svc.unlock ≠ .unlocked → t.svc.unlock = s.svc.unlock ∧ t.svc.words = s.svc.words))) ∧
    (∃ t, exec (.silenceExpiry dt) s = .next t ∧
      (∀ u, s.svc.silence = some u → u ≤ s.now + dt → s.build.serviceStrap = false →
        t.svc.unlock = .locked ∧ t.svc.answer = s.svc.answer ∧ (s.svc.unlock = .unlocked → ended t)) ∧
      (∀ u, s.svc.silence = some u → s.now + dt < u → t = s.advance dt) ∧
      (s.svc.silence = none ∨ s.build.serviceStrap = true → t = s.advance dt)) ∧
    (∀ pedal, ∃ t, exec (.speedSample dt pedal) s = .next t ∧
      (s.svc.unlock = .unlocked → s.build.serviceStrap = false → 100 ≤ t.speed.set.vGround →
        ended t ∧ t.svc.answer = s.svc.answer) ∧
      (s.svc.unlock ≠ .unlocked ∨ s.build.serviceStrap = true ∨ t.speed.set.vGround < 100 →
        t.svc = s.svc ∧ t.run = s.run)) ∧
    (∃ t, exec (.syncBlockExpiry dt) s = .next t ∧
      (∀ u, s.svc.syncBlock = some u → u + 10000 ≤ s.now + dt →
        t = { s.advance dt with svc := { s.svc with syncBlock := none } }) ∧
      (∀ u, s.svc.syncBlock = some u → s.now + dt < u + 10000 → t = s.advance dt) ∧
      (s.svc.syncBlock = none → t = s.advance dt))

/-- R183, R184, R88, R101, R124: READ_ITEM by access class, and WRITE_ITEM of an unknown item, of an OPEN, an RO, an SVC and a
PROT item, and of a value of another width. A taken write: the hitch loop gain and the deadband, clamped; a working
adapt_offset, clamped and a multiple of 4; and a calibration field, which hands a store write of the latest payload with that
one field replaced, clamped to its range and against its neighbour; both are refused UNCALIBRATED for a clutch key with no
latest payload. That READ_ITEM judges an unknown item first, whatever the unlock state, and that WRITE_ITEM judges the access
class before the width of the value, is the model's choice (log 9). What a write leaves in the store is said under the
invariant of the queues (QueuesStayBounded). -/
def Obligations.ItemAccess : Prop :=
  ∀ (s : State) (dt item : Nat), s.running = true →
    (s.svc.frame = some (.readItem item) →
      ∃ t, exec (.readItem dt) s = .next t ∧
        (itemValue s item = none → t.answeredRefused .unknown) ∧
        (∀ v, itemValue s item = some v →
          (item / 256 = 0x4D → t.answeredRefused .notPermitted) ∧
          (item / 256 ≠ 0x4D → item / 256 ≠ 0 → s.svc.unlock ≠ .unlocked → t.answeredRefused .locked) ∧
          (item / 256 = 0 ∨ (item / 256 ≠ 0x4D ∧ s.svc.unlock = .unlocked) →
            t.svc.answer = some (frameBytes 0x84 (BitVec.ofNat 8 item :: BitVec.ofNat 8 (item / 256) ::
              (itemValue (s.advance dt) item).getD [])))) ∧
        t = { s.advance dt with svc := t.svc }) ∧
    (∀ value, s.svc.frame = some (.writeItem item value) →
      let taken : Prop :=
        s.svc.unlock = .unlocked ∧
          (itemClass item = .svc ∨
            (itemClass item = .prot ∧ s.speed.set.vGround < 50 ∧ s.brake.demand.parkApplied = true))
      let refusedOnly (t : State) (r : Reason) : Prop := t.answeredRefused r ∧ t = { s.advance dt with svc := t.svc }
      ∃ t, exec (.writeItem dt) s = .next t ∧
        (itemValue s item = none → refusedOnly t .unknown) ∧
        (itemValue s item ≠ none → itemClass item = .open_ ∨ itemClass item = .ro → refusedOnly t .notPermitted) ∧
        (itemValue s item ≠ none → itemClass item = .svc → s.svc.unlock ≠ .unlocked → refusedOnly t .locked) ∧
        (itemValue s item ≠ none → itemClass item = .prot →
          (s.svc.unlock ≠ .unlocked ∨ 50 ≤ s.speed.set.vGround ∨ s.brake.demand.parkApplied = false) →
          refusedOnly t .locked) ∧
        (∀ old, itemValue s item = some old → taken → value.length ≠ old.length → refusedOnly t .unknown) ∧
        (∀ a b : Byte, value = [a, b] → taken →
          let n : Int := (a.toNat : Int) + 256 * b.toNat
          let v : Int := if b.toNat < 128 then n else n - 65536
          let offset : Int := (clampZ (-40) 40 v).tdiv 4 * 4
          (item = 0x040A → t.answeredOk ∧ t.hitch = { s.hitch with gain := (clampZ 1 255 v).toNat } ∧
            t = { s.advance dt with svc := t.svc, hitch := t.hitch }) ∧
          (item = 0x040B → t.answeredOk ∧ t.hitch = { s.hitch with deadband := (clampZ 0 50 v).toNat } ∧
            t = { s.advance dt with svc := t.svc, hitch := t.hitch }) ∧
          (∀ i c, item = 0x3200 + i → allClutches[i]? = some c →
            (s.latestClutch c = none → refusedOnly t .uncalibrated) ∧
            (∀ x, s.latestClutch c = some x → t.answeredOk ∧
              (s.store.inUse ≠ none → s.queuesBounded = true →
                t.store.working = s.store.working.set c offset ∧
                (offset = s.store.working.get c ∨ (offset - s.store.saved.get c).natAbs < 12 →
                  t.store.queue = s.store.queue ∧ t.store.saved = s.store.saved) ∧
                (offset ≠ s.store.working.get c → 12 ≤ (offset - s.store.saved.get c).natAbs →
                  t.latestClutch c = some { x with adapt := offset } ∧
                    t.store.saved = s.store.saved.set c offset) ∧
                t = { s.advance dt with svc := t.svc, store := t.store }))) ∧
          (∀ k i, item = (0x40 + k.code) * 256 + i → i < fieldCount k →
            let base := match s.latestPayload k with
              | some r => some r
              | none => if k = .hitch then
                  some (.hitch { adcLow := 0, adcHigh := 4095, dFs := 4095, iThr := 200, iMax := 1500 })
                else none
            (base = none → refusedOnly t .uncalibrated) ∧
            (∀ r, base = some r → t.answeredOk ∧
              (s.store.inUse ≠ none → s.queuesBounded = true →
                (∃ r', t.latestPayload k = some r' ∧ r'.key = k ∧
                  (∀ j, j ≠ i → (calFields r')[j]? = (calFields r)[j]?) ∧
                  (∀ lo hi, (fieldRange r)[i]? = some (lo, hi) →
                    (calFields r')[i]? = some (match k with
                      | .clutch _ => if i = 4 then offset else clampZ lo hi v
                      | .serviceKey => n
                      | _ => clampZ lo hi v))) ∧
                t.store.cal = s.store.cal ∧ t.store.working = s.store.working ∧
                t = { s.advance dt with svc := t.svc, store := t.store })))) ∧
        t.store.mem = s.store.mem ∧ t.speed = s.speed ∧ t.build = s.build ∧ t.power = s.power)

/-- R30, R188: TAKE and RELEASE at the Arbiter, and their refusals. -/
def Obligations.ServiceTakesAndReleases : Prop :=
  ∀ (s : State) (dt code : Nat), s.running = true →
    (s.svc.frame = some (.take code) →
      ∃ t, exec (.take dt) s = .next t ∧
        (s.svc.unlock ≠ .unlocked → t.answeredRefused .locked ∧ t = { s.advance dt with svc := t.svc }) ∧
        (s.svc.unlock = .unlocked → funcOf code = none →
          t.answeredRefused .unknown ∧ t = { s.advance dt with svc := t.svc }) ∧
        (∀ f, s.svc.unlock = .unlocked → funcOf code = some f →
          (s.holder f = .cab ∨ s.holder f = .impl ∨ s.holder f = .part →
            t.holder f = .svc ∧ (t.auth.table.get f).leaseEnd = none ∧ (t.auth.table.get f).pendingSince = none ∧
              (∀ g, g ≠ f → t.auth.table.get g = s.auth.table.get g) ∧ t.answeredOk) ∧
          (s.holder f = .svc → t.auth = s.auth ∧ t.answeredOk) ∧
          (s.holder f = .fender → t.auth = s.auth ∧ t.answeredRefused .busy))) ∧
    (s.svc.frame = some (.release code) →
      ∃ t, exec (.release dt) s = .next t ∧
        (s.svc.unlock ≠ .unlocked → t.answeredRefused .locked ∧ t = { s.advance dt with svc := t.svc }) ∧
        (∀ f, s.svc.unlock = .unlocked → funcOf code = some f →
          (s.holder f = .svc → t.holder f = s.target f ∧ (∀ g, g ≠ f → t.auth.table.get g = s.auth.table.get g) ∧
            t.answeredOk) ∧
          (s.holder f ≠ .svc → t.auth = s.auth ∧ t.answeredRefused .notHolder)))

/-- R93, R188: STORE_NOW hands the write of every clutch whose working offset differs from its saved one, so that with a
page in use each saved offset that has a payload follows the working one; RESTART is refused at speed and outside RUN, and
otherwise marks the restart that follows its answer. That v_ground is judged before the power state is the model's choice
(log 59). -/
def Obligations.StoreNowAndRestart : Prop :=
  ∀ (s : State) (dt : Nat), s.running = true →
    (s.svc.frame = some .storeNow →
      ∃ t, exec (.storeNow dt) s = .next t ∧
        (s.svc.unlock ≠ .unlocked → t.answeredRefused .locked ∧ t = { s.advance dt with svc := t.svc }) ∧
        (s.svc.unlock = .unlocked → t.answeredOk ∧ t.store.mem = s.store.mem ∧
          (s.store.inUse ≠ none → t.store.working = s.store.working ∧
            ∀ c, s.latestClutch c ≠ none → t.store.saved.get c = s.store.working.get c)) ∧
        t.speed = s.speed ∧ t.power = s.power ∧ t.build = s.build) ∧
    (s.svc.frame = some .restart →
      ∃ t, exec (.restart dt) s = .next t ∧
        (s.svc.unlock ≠ .unlocked → t.answeredRefused .locked) ∧
        (s.svc.unlock = .unlocked → 50 ≤ s.speed.set.vGround → t.answeredRefused .inhibited) ∧
        (s.svc.unlock = .unlocked → s.speed.set.vGround < 50 → s.power.power ≠ .run → t.answeredRefused .notPermitted) ∧
        (s.svc.unlock = .unlocked → s.speed.set.vGround < 50 → s.power.power = .run →
          t.answeredOk ∧ t.svc.restartAfter = true) ∧
        t = { s.advance dt with svc := t.svc })
end

