-- ==== Sys2Proof/Laws/State.lean ====
section
/-! SUPPORT. What every small update of the state leaves in every field: one lemma per field per update; the values per
clutch, channel, function and gate; events. -/

namespace Sys2Proof.Machine

/-! ### Time passes -/

@[simp] theorem State.advance_pending (s : State) (dt : Nat) : (s.advance dt).pending = s.pending := rfl
@[simp] theorem State.advance_life (s : State) (dt : Nat) : (s.advance dt).life = s.life := rfl
@[simp] theorem State.advance_now (s : State) (dt : Nat) : (s.advance dt).now = s.now + dt := rfl
@[simp] theorem State.advance_start (s : State) (dt : Nat) : (s.advance dt).start = s.start := rfl
@[simp] theorem State.advance_free (s : State) (dt : Nat) : (s.advance dt).free = s.free := rfl
@[simp] theorem State.advance_build (s : State) (dt : Nat) : (s.advance dt).build = s.build := rfl
@[simp] theorem State.advance_speed (s : State) (dt : Nat) : (s.advance dt).speed = s.speed := rfl
@[simp] theorem State.advance_auth (s : State) (dt : Nat) : (s.advance dt).auth = s.auth := rfl
@[simp] theorem State.advance_seq (s : State) (dt : Nat) : (s.advance dt).seq = s.seq := rfl
@[simp] theorem State.advance_chan (s : State) (dt : Nat) : (s.advance dt).chan = s.chan := rfl
@[simp] theorem State.advance_store (s : State) (dt : Nat) : (s.advance dt).store = s.store := rfl
@[simp] theorem State.advance_run (s : State) (dt : Nat) : (s.advance dt).run = s.run := rfl
@[simp] theorem State.advance_axle (s : State) (dt : Nat) : (s.advance dt).axle = s.axle := rfl
@[simp] theorem State.advance_hitch (s : State) (dt : Nat) : (s.advance dt).hitch = s.hitch := rfl
@[simp] theorem State.advance_brake (s : State) (dt : Nat) : (s.advance dt).brake = s.brake := rfl
@[simp] theorem State.advance_fault (s : State) (dt : Nat) : (s.advance dt).fault = s.fault := rfl
@[simp] theorem State.advance_power (s : State) (dt : Nat) : (s.advance dt).power = s.power := rfl
@[simp] theorem State.advance_link (s : State) (dt : Nat) : (s.advance dt).link = s.link := rfl
@[simp] theorem State.advance_svc (s : State) (dt : Nat) : (s.advance dt).svc = s.svc := rfl

/-! ### The record `store` changed -/

@[simp] theorem State.onStore_pending (s : State) (f : StoreState → StoreState) : (s.onStore f).pending = s.pending := rfl
@[simp] theorem State.onStore_life (s : State) (f : StoreState → StoreState) : (s.onStore f).life = s.life := rfl
@[simp] theorem State.onStore_now (s : State) (f : StoreState → StoreState) : (s.onStore f).now = s.now := rfl
@[simp] theorem State.onStore_start (s : State) (f : StoreState → StoreState) : (s.onStore f).start = s.start := rfl
@[simp] theorem State.onStore_free (s : State) (f : StoreState → StoreState) : (s.onStore f).free = s.free := rfl
@[simp] theorem State.onStore_build (s : State) (f : StoreState → StoreState) : (s.onStore f).build = s.build := rfl
@[simp] theorem State.onStore_speed (s : State) (f : StoreState → StoreState) : (s.onStore f).speed = s.speed := rfl
@[simp] theorem State.onStore_auth (s : State) (f : StoreState → StoreState) : (s.onStore f).auth = s.auth := rfl
@[simp] theorem State.onStore_seq (s : State) (f : StoreState → StoreState) : (s.onStore f).seq = s.seq := rfl
@[simp] theorem State.onStore_chan (s : State) (f : StoreState → StoreState) : (s.onStore f).chan = s.chan := rfl
@[simp] theorem State.onStore_store (s : State) (f : StoreState → StoreState) : (s.onStore f).store = f s.store := rfl
@[simp] theorem State.onStore_run (s : State) (f : StoreState → StoreState) : (s.onStore f).run = s.run := rfl
@[simp] theorem State.onStore_axle (s : State) (f : StoreState → StoreState) : (s.onStore f).axle = s.axle := rfl
@[simp] theorem State.onStore_hitch (s : State) (f : StoreState → StoreState) : (s.onStore f).hitch = s.hitch := rfl
@[simp] theorem State.onStore_brake (s : State) (f : StoreState → StoreState) : (s.onStore f).brake = s.brake := rfl
@[simp] theorem State.onStore_fault (s : State) (f : StoreState → StoreState) : (s.onStore f).fault = s.fault := rfl
@[simp] theorem State.onStore_power (s : State) (f : StoreState → StoreState) : (s.onStore f).power = s.power := rfl
@[simp] theorem State.onStore_link (s : State) (f : StoreState → StoreState) : (s.onStore f).link = s.link := rfl
@[simp] theorem State.onStore_svc (s : State) (f : StoreState → StoreState) : (s.onStore f).svc = s.svc := rfl

/-! ### The record `run` changed -/

@[simp] theorem State.onRun_pending (s : State) (f : Run → Run) : (s.onRun f).pending = s.pending := rfl
@[simp] theorem State.onRun_life (s : State) (f : Run → Run) : (s.onRun f).life = s.life := rfl
@[simp] theorem State.onRun_now (s : State) (f : Run → Run) : (s.onRun f).now = s.now := rfl
@[simp] theorem State.onRun_start (s : State) (f : Run → Run) : (s.onRun f).start = s.start := rfl
@[simp] theorem State.onRun_free (s : State) (f : Run → Run) : (s.onRun f).free = s.free := rfl
@[simp] theorem State.onRun_build (s : State) (f : Run → Run) : (s.onRun f).build = s.build := rfl
@[simp] theorem State.onRun_speed (s : State) (f : Run → Run) : (s.onRun f).speed = s.speed := rfl
@[simp] theorem State.onRun_auth (s : State) (f : Run → Run) : (s.onRun f).auth = s.auth := rfl
@[simp] theorem State.onRun_seq (s : State) (f : Run → Run) : (s.onRun f).seq = s.seq := rfl
@[simp] theorem State.onRun_chan (s : State) (f : Run → Run) : (s.onRun f).chan = s.chan := rfl
@[simp] theorem State.onRun_store (s : State) (f : Run → Run) : (s.onRun f).store = s.store := rfl
@[simp] theorem State.onRun_run (s : State) (f : Run → Run) : (s.onRun f).run = f s.run := rfl
@[simp] theorem State.onRun_axle (s : State) (f : Run → Run) : (s.onRun f).axle = s.axle := rfl
@[simp] theorem State.onRun_hitch (s : State) (f : Run → Run) : (s.onRun f).hitch = s.hitch := rfl
@[simp] theorem State.onRun_brake (s : State) (f : Run → Run) : (s.onRun f).brake = s.brake := rfl
@[simp] theorem State.onRun_fault (s : State) (f : Run → Run) : (s.onRun f).fault = s.fault := rfl
@[simp] theorem State.onRun_power (s : State) (f : Run → Run) : (s.onRun f).power = s.power := rfl
@[simp] theorem State.onRun_link (s : State) (f : Run → Run) : (s.onRun f).link = s.link := rfl
@[simp] theorem State.onRun_svc (s : State) (f : Run → Run) : (s.onRun f).svc = s.svc := rfl

/-! ### The record `seq` changed -/

@[simp] theorem State.onSeq_pending (s : State) (f : SeqState → SeqState) : (s.onSeq f).pending = s.pending := rfl
@[simp] theorem State.onSeq_life (s : State) (f : SeqState → SeqState) : (s.onSeq f).life = s.life := rfl
@[simp] theorem State.onSeq_now (s : State) (f : SeqState → SeqState) : (s.onSeq f).now = s.now := rfl
@[simp] theorem State.onSeq_start (s : State) (f : SeqState → SeqState) : (s.onSeq f).start = s.start := rfl
@[simp] theorem State.onSeq_free (s : State) (f : SeqState → SeqState) : (s.onSeq f).free = s.free := rfl
@[simp] theorem State.onSeq_build (s : State) (f : SeqState → SeqState) : (s.onSeq f).build = s.build := rfl
@[simp] theorem State.onSeq_speed (s : State) (f : SeqState → SeqState) : (s.onSeq f).speed = s.speed := rfl
@[simp] theorem State.onSeq_auth (s : State) (f : SeqState → SeqState) : (s.onSeq f).auth = s.auth := rfl
@[simp] theorem State.onSeq_seq (s : State) (f : SeqState → SeqState) : (s.onSeq f).seq = f s.seq := rfl
@[simp] theorem State.onSeq_chan (s : State) (f : SeqState → SeqState) : (s.onSeq f).chan = s.chan := rfl
@[simp] theorem State.onSeq_store (s : State) (f : SeqState → SeqState) : (s.onSeq f).store = s.store := rfl
@[simp] theorem State.onSeq_run (s : State) (f : SeqState → SeqState) : (s.onSeq f).run = s.run := rfl
@[simp] theorem State.onSeq_axle (s : State) (f : SeqState → SeqState) : (s.onSeq f).axle = s.axle := rfl
@[simp] theorem State.onSeq_hitch (s : State) (f : SeqState → SeqState) : (s.onSeq f).hitch = s.hitch := rfl
@[simp] theorem State.onSeq_brake (s : State) (f : SeqState → SeqState) : (s.onSeq f).brake = s.brake := rfl
@[simp] theorem State.onSeq_fault (s : State) (f : SeqState → SeqState) : (s.onSeq f).fault = s.fault := rfl
@[simp] theorem State.onSeq_power (s : State) (f : SeqState → SeqState) : (s.onSeq f).power = s.power := rfl
@[simp] theorem State.onSeq_link (s : State) (f : SeqState → SeqState) : (s.onSeq f).link = s.link := rfl
@[simp] theorem State.onSeq_svc (s : State) (f : SeqState → SeqState) : (s.onSeq f).svc = s.svc := rfl

/-! ### The record `axle` changed -/

@[simp] theorem State.onAxle_pending (s : State) (f : AxleState → AxleState) : (s.onAxle f).pending = s.pending := rfl
@[simp] theorem State.onAxle_life (s : State) (f : AxleState → AxleState) : (s.onAxle f).life = s.life := rfl
@[simp] theorem State.onAxle_now (s : State) (f : AxleState → AxleState) : (s.onAxle f).now = s.now := rfl
@[simp] theorem State.onAxle_start (s : State) (f : AxleState → AxleState) : (s.onAxle f).start = s.start := rfl
@[simp] theorem State.onAxle_free (s : State) (f : AxleState → AxleState) : (s.onAxle f).free = s.free := rfl
@[simp] theorem State.onAxle_build (s : State) (f : AxleState → AxleState) : (s.onAxle f).build = s.build := rfl
@[simp] theorem State.onAxle_speed (s : State) (f : AxleState → AxleState) : (s.onAxle f).speed = s.speed := rfl
@[simp] theorem State.onAxle_auth (s : State) (f : AxleState → AxleState) : (s.onAxle f).auth = s.auth := rfl
@[simp] theorem State.onAxle_seq (s : State) (f : AxleState → AxleState) : (s.onAxle f).seq = s.seq := rfl
@[simp] theorem State.onAxle_chan (s : State) (f : AxleState → AxleState) : (s.onAxle f).chan = s.chan := rfl
@[simp] theorem State.onAxle_store (s : State) (f : AxleState → AxleState) : (s.onAxle f).store = s.store := rfl
@[simp] theorem State.onAxle_run (s : State) (f : AxleState → AxleState) : (s.onAxle f).run = s.run := rfl
@[simp] theorem State.onAxle_axle (s : State) (f : AxleState → AxleState) : (s.onAxle f).axle = f s.axle := rfl
@[simp] theorem State.onAxle_hitch (s : State) (f : AxleState → AxleState) : (s.onAxle f).hitch = s.hitch := rfl
@[simp] theorem State.onAxle_brake (s : State) (f : AxleState → AxleState) : (s.onAxle f).brake = s.brake := rfl
@[simp] theorem State.onAxle_fault (s : State) (f : AxleState → AxleState) : (s.onAxle f).fault = s.fault := rfl
@[simp] theorem State.onAxle_power (s : State) (f : AxleState → AxleState) : (s.onAxle f).power = s.power := rfl
@[simp] theorem State.onAxle_link (s : State) (f : AxleState → AxleState) : (s.onAxle f).link = s.link := rfl
@[simp] theorem State.onAxle_svc (s : State) (f : AxleState → AxleState) : (s.onAxle f).svc = s.svc := rfl

/-! ### The record `hitch` changed -/

@[simp] theorem State.onHitch_pending (s : State) (f : HitchState → HitchState) : (s.onHitch f).pending = s.pending := rfl
@[simp] theorem State.onHitch_life (s : State) (f : HitchState → HitchState) : (s.onHitch f).life = s.life := rfl
@[simp] theorem State.onHitch_now (s : State) (f : HitchState → HitchState) : (s.onHitch f).now = s.now := rfl
@[simp] theorem State.onHitch_start (s : State) (f : HitchState → HitchState) : (s.onHitch f).start = s.start := rfl
@[simp] theorem State.onHitch_free (s : State) (f : HitchState → HitchState) : (s.onHitch f).free = s.free := rfl
@[simp] theorem State.onHitch_build (s : State) (f : HitchState → HitchState) : (s.onHitch f).build = s.build := rfl
@[simp] theorem State.onHitch_speed (s : State) (f : HitchState → HitchState) : (s.onHitch f).speed = s.speed := rfl
@[simp] theorem State.onHitch_auth (s : State) (f : HitchState → HitchState) : (s.onHitch f).auth = s.auth := rfl
@[simp] theorem State.onHitch_seq (s : State) (f : HitchState → HitchState) : (s.onHitch f).seq = s.seq := rfl
@[simp] theorem State.onHitch_chan (s : State) (f : HitchState → HitchState) : (s.onHitch f).chan = s.chan := rfl
@[simp] theorem State.onHitch_store (s : State) (f : HitchState → HitchState) : (s.onHitch f).store = s.store := rfl
@[simp] theorem State.onHitch_run (s : State) (f : HitchState → HitchState) : (s.onHitch f).run = s.run := rfl
@[simp] theorem State.onHitch_axle (s : State) (f : HitchState → HitchState) : (s.onHitch f).axle = s.axle := rfl
@[simp] theorem State.onHitch_hitch (s : State) (f : HitchState → HitchState) : (s.onHitch f).hitch = f s.hitch := rfl
@[simp] theorem State.onHitch_brake (s : State) (f : HitchState → HitchState) : (s.onHitch f).brake = s.brake := rfl
@[simp] theorem State.onHitch_fault (s : State) (f : HitchState → HitchState) : (s.onHitch f).fault = s.fault := rfl
@[simp] theorem State.onHitch_power (s : State) (f : HitchState → HitchState) : (s.onHitch f).power = s.power := rfl
@[simp] theorem State.onHitch_link (s : State) (f : HitchState → HitchState) : (s.onHitch f).link = s.link := rfl
@[simp] theorem State.onHitch_svc (s : State) (f : HitchState → HitchState) : (s.onHitch f).svc = s.svc := rfl

/-! ### The record `brake` changed -/

@[simp] theorem State.onBrake_pending (s : State) (f : BrakeState → BrakeState) : (s.onBrake f).pending = s.pending := rfl
@[simp] theorem State.onBrake_life (s : State) (f : BrakeState → BrakeState) : (s.onBrake f).life = s.life := rfl
@[simp] theorem State.onBrake_now (s : State) (f : BrakeState → BrakeState) : (s.onBrake f).now = s.now := rfl
@[simp] theorem State.onBrake_start (s : State) (f : BrakeState → BrakeState) : (s.onBrake f).start = s.start := rfl
@[simp] theorem State.onBrake_free (s : State) (f : BrakeState → BrakeState) : (s.onBrake f).free = s.free := rfl
@[simp] theorem State.onBrake_build (s : State) (f : BrakeState → BrakeState) : (s.onBrake f).build = s.build := rfl
@[simp] theorem State.onBrake_speed (s : State) (f : BrakeState → BrakeState) : (s.onBrake f).speed = s.speed := rfl
@[simp] theorem State.onBrake_auth (s : State) (f : BrakeState → BrakeState) : (s.onBrake f).auth = s.auth := rfl
@[simp] theorem State.onBrake_seq (s : State) (f : BrakeState → BrakeState) : (s.onBrake f).seq = s.seq := rfl
@[simp] theorem State.onBrake_chan (s : State) (f : BrakeState → BrakeState) : (s.onBrake f).chan = s.chan := rfl
@[simp] theorem State.onBrake_store (s : State) (f : BrakeState → BrakeState) : (s.onBrake f).store = s.store := rfl
@[simp] theorem State.onBrake_run (s : State) (f : BrakeState → BrakeState) : (s.onBrake f).run = s.run := rfl
@[simp] theorem State.onBrake_axle (s : State) (f : BrakeState → BrakeState) : (s.onBrake f).axle = s.axle := rfl
@[simp] theorem State.onBrake_hitch (s : State) (f : BrakeState → BrakeState) : (s.onBrake f).hitch = s.hitch := rfl
@[simp] theorem State.onBrake_brake (s : State) (f : BrakeState → BrakeState) : (s.onBrake f).brake = f s.brake := rfl
@[simp] theorem State.onBrake_fault (s : State) (f : BrakeState → BrakeState) : (s.onBrake f).fault = s.fault := rfl
@[simp] theorem State.onBrake_power (s : State) (f : BrakeState → BrakeState) : (s.onBrake f).power = s.power := rfl
@[simp] theorem State.onBrake_link (s : State) (f : BrakeState → BrakeState) : (s.onBrake f).link = s.link := rfl
@[simp] theorem State.onBrake_svc (s : State) (f : BrakeState → BrakeState) : (s.onBrake f).svc = s.svc := rfl

/-! ### The record `power` changed -/

@[simp] theorem State.onPower_pending (s : State) (f : PowerState → PowerState) : (s.onPower f).pending = s.pending := rfl
@[simp] theorem State.onPower_life (s : State) (f : PowerState → PowerState) : (s.onPower f).life = s.life := rfl
@[simp] theorem State.onPower_now (s : State) (f : PowerState → PowerState) : (s.onPower f).now = s.now := rfl
@[simp] theorem State.onPower_start (s : State) (f : PowerState → PowerState) : (s.onPower f).start = s.start := rfl
@[simp] theorem State.onPower_free (s : State) (f : PowerState → PowerState) : (s.onPower f).free = s.free := rfl
@[simp] theorem State.onPower_build (s : State) (f : PowerState → PowerState) : (s.onPower f).build = s.build := rfl
@[simp] theorem State.onPower_speed (s : State) (f : PowerState → PowerState) : (s.onPower f).speed = s.speed := rfl
@[simp] theorem State.onPower_auth (s : State) (f : PowerState → PowerState) : (s.onPower f).auth = s.auth := rfl
@[simp] theorem State.onPower_seq (s : State) (f : PowerState → PowerState) : (s.onPower f).seq = s.seq := rfl
@[simp] theorem State.onPower_chan (s : State) (f : PowerState → PowerState) : (s.onPower f).chan = s.chan := rfl
@[simp] theorem State.onPower_store (s : State) (f : PowerState → PowerState) : (s.onPower f).store = s.store := rfl
@[simp] theorem State.onPower_run (s : State) (f : PowerState → PowerState) : (s.onPower f).run = s.run := rfl
@[simp] theorem State.onPower_axle (s : State) (f : PowerState → PowerState) : (s.onPower f).axle = s.axle := rfl
@[simp] theorem State.onPower_hitch (s : State) (f : PowerState → PowerState) : (s.onPower f).hitch = s.hitch := rfl
@[simp] theorem State.onPower_brake (s : State) (f : PowerState → PowerState) : (s.onPower f).brake = s.brake := rfl
@[simp] theorem State.onPower_fault (s : State) (f : PowerState → PowerState) : (s.onPower f).fault = s.fault := rfl
@[simp] theorem State.onPower_power (s : State) (f : PowerState → PowerState) : (s.onPower f).power = f s.power := rfl
@[simp] theorem State.onPower_link (s : State) (f : PowerState → PowerState) : (s.onPower f).link = s.link := rfl
@[simp] theorem State.onPower_svc (s : State) (f : PowerState → PowerState) : (s.onPower f).svc = s.svc := rfl

/-! ### The record `svc` changed -/

@[simp] theorem State.onSvc_pending (s : State) (f : SvcState → SvcState) : (s.onSvc f).pending = s.pending := rfl
@[simp] theorem State.onSvc_life (s : State) (f : SvcState → SvcState) : (s.onSvc f).life = s.life := rfl
@[simp] theorem State.onSvc_now (s : State) (f : SvcState → SvcState) : (s.onSvc f).now = s.now := rfl
@[simp] theorem State.onSvc_start (s : State) (f : SvcState → SvcState) : (s.onSvc f).start = s.start := rfl
@[simp] theorem State.onSvc_free (s : State) (f : SvcState → SvcState) : (s.onSvc f).free = s.free := rfl
@[simp] theorem State.onSvc_build (s : State) (f : SvcState → SvcState) : (s.onSvc f).build = s.build := rfl
@[simp] theorem State.onSvc_speed (s : State) (f : SvcState → SvcState) : (s.onSvc f).speed = s.speed := rfl
@[simp] theorem State.onSvc_auth (s : State) (f : SvcState → SvcState) : (s.onSvc f).auth = s.auth := rfl
@[simp] theorem State.onSvc_seq (s : State) (f : SvcState → SvcState) : (s.onSvc f).seq = s.seq := rfl
@[simp] theorem State.onSvc_chan (s : State) (f : SvcState → SvcState) : (s.onSvc f).chan = s.chan := rfl
@[simp] theorem State.onSvc_store (s : State) (f : SvcState → SvcState) : (s.onSvc f).store = s.store := rfl
@[simp] theorem State.onSvc_run (s : State) (f : SvcState → SvcState) : (s.onSvc f).run = s.run := rfl
@[simp] theorem State.onSvc_axle (s : State) (f : SvcState → SvcState) : (s.onSvc f).axle = s.axle := rfl
@[simp] theorem State.onSvc_hitch (s : State) (f : SvcState → SvcState) : (s.onSvc f).hitch = s.hitch := rfl
@[simp] theorem State.onSvc_brake (s : State) (f : SvcState → SvcState) : (s.onSvc f).brake = s.brake := rfl
@[simp] theorem State.onSvc_fault (s : State) (f : SvcState → SvcState) : (s.onSvc f).fault = s.fault := rfl
@[simp] theorem State.onSvc_power (s : State) (f : SvcState → SvcState) : (s.onSvc f).power = s.power := rfl
@[simp] theorem State.onSvc_link (s : State) (f : SvcState → SvcState) : (s.onSvc f).link = s.link := rfl
@[simp] theorem State.onSvc_svc (s : State) (f : SvcState → SvcState) : (s.onSvc f).svc = f s.svc := rfl

/-! ### An entry of the authority table changed -/

@[simp] theorem State.onEntry_pending (s : State) (f : Func) (g : AuthEntry → AuthEntry) : (s.onEntry f g).pending = s.pending := rfl
@[simp] theorem State.onEntry_life (s : State) (f : Func) (g : AuthEntry → AuthEntry) : (s.onEntry f g).life = s.life := rfl
@[simp] theorem State.onEntry_now (s : State) (f : Func) (g : AuthEntry → AuthEntry) : (s.onEntry f g).now = s.now := rfl
@[simp] theorem State.onEntry_start (s : State) (f : Func) (g : AuthEntry → AuthEntry) : (s.onEntry f g).start = s.start := rfl
@[simp] theorem State.onEntry_free (s : State) (f : Func) (g : AuthEntry → AuthEntry) : (s.onEntry f g).free = s.free := rfl
@[simp] theorem State.onEntry_build (s : State) (f : Func) (g : AuthEntry → AuthEntry) : (s.onEntry f g).build = s.build := rfl
@[simp] theorem State.onEntry_speed (s : State) (f : Func) (g : AuthEntry → AuthEntry) : (s.onEntry f g).speed = s.speed := rfl
@[simp] theorem State.onEntry_auth (s : State) (f : Func) (g : AuthEntry → AuthEntry) : (s.onEntry f g).auth = { s.auth with table := s.auth.table.set f (g (s.auth.table.get f)) } := rfl
@[simp] theorem State.onEntry_seq (s : State) (f : Func) (g : AuthEntry → AuthEntry) : (s.onEntry f g).seq = s.seq := rfl
@[simp] theorem State.onEntry_chan (s : State) (f : Func) (g : AuthEntry → AuthEntry) : (s.onEntry f g).chan = s.chan := rfl
@[simp] theorem State.onEntry_store (s : State) (f : Func) (g : AuthEntry → AuthEntry) : (s.onEntry f g).store = s.store := rfl
@[simp] theorem State.onEntry_run (s : State) (f : Func) (g : AuthEntry → AuthEntry) : (s.onEntry f g).run = s.run := rfl
@[simp] theorem State.onEntry_axle (s : State) (f : Func) (g : AuthEntry → AuthEntry) : (s.onEntry f g).axle = s.axle := rfl
@[simp] theorem State.onEntry_hitch (s : State) (f : Func) (g : AuthEntry → AuthEntry) : (s.onEntry f g).hitch = s.hitch := rfl
@[simp] theorem State.onEntry_brake (s : State) (f : Func) (g : AuthEntry → AuthEntry) : (s.onEntry f g).brake = s.brake := rfl
@[simp] theorem State.onEntry_fault (s : State) (f : Func) (g : AuthEntry → AuthEntry) : (s.onEntry f g).fault = s.fault := rfl
@[simp] theorem State.onEntry_power (s : State) (f : Func) (g : AuthEntry → AuthEntry) : (s.onEntry f g).power = s.power := rfl
@[simp] theorem State.onEntry_link (s : State) (f : Func) (g : AuthEntry → AuthEntry) : (s.onEntry f g).link = s.link := rfl
@[simp] theorem State.onEntry_svc (s : State) (f : Func) (g : AuthEntry → AuthEntry) : (s.onEntry f g).svc = s.svc := rfl

/-! ### A channel record changed -/

@[simp] theorem State.onChan_pending (s : State) (i : Chan) (f : Channel → Channel) : (s.onChan i f).pending = s.pending := rfl
@[simp] theorem State.onChan_life (s : State) (i : Chan) (f : Channel → Channel) : (s.onChan i f).life = s.life := rfl
@[simp] theorem State.onChan_now (s : State) (i : Chan) (f : Channel → Channel) : (s.onChan i f).now = s.now := rfl
@[simp] theorem State.onChan_start (s : State) (i : Chan) (f : Channel → Channel) : (s.onChan i f).start = s.start := rfl
@[simp] theorem State.onChan_free (s : State) (i : Chan) (f : Channel → Channel) : (s.onChan i f).free = s.free := rfl
@[simp] theorem State.onChan_build (s : State) (i : Chan) (f : Channel → Channel) : (s.onChan i f).build = s.build := rfl
@[simp] theorem State.onChan_speed (s : State) (i : Chan) (f : Channel → Channel) : (s.onChan i f).speed = s.speed := rfl
@[simp] theorem State.onChan_auth (s : State) (i : Chan) (f : Channel → Channel) : (s.onChan i f).auth = s.auth := rfl
@[simp] theorem State.onChan_seq (s : State) (i : Chan) (f : Channel → Channel) : (s.onChan i f).seq = s.seq := rfl
@[simp] theorem State.onChan_chan (s : State) (i : Chan) (f : Channel → Channel) : (s.onChan i f).chan = { s.chan with channels := s.chan.channels.set i (f (s.chan.channels.get i)) } := rfl
@[simp] theorem State.onChan_store (s : State) (i : Chan) (f : Channel → Channel) : (s.onChan i f).store = s.store := rfl
@[simp] theorem State.onChan_run (s : State) (i : Chan) (f : Channel → Channel) : (s.onChan i f).run = s.run := rfl
@[simp] theorem State.onChan_axle (s : State) (i : Chan) (f : Channel → Channel) : (s.onChan i f).axle = s.axle := rfl
@[simp] theorem State.onChan_hitch (s : State) (i : Chan) (f : Channel → Channel) : (s.onChan i f).hitch = s.hitch := rfl
@[simp] theorem State.onChan_brake (s : State) (i : Chan) (f : Channel → Channel) : (s.onChan i f).brake = s.brake := rfl
@[simp] theorem State.onChan_fault (s : State) (i : Chan) (f : Channel → Channel) : (s.onChan i f).fault = s.fault := rfl
@[simp] theorem State.onChan_power (s : State) (i : Chan) (f : Channel → Channel) : (s.onChan i f).power = s.power := rfl
@[simp] theorem State.onChan_link (s : State) (i : Chan) (f : Channel → Channel) : (s.onChan i f).link = s.link := rfl
@[simp] theorem State.onChan_svc (s : State) (i : Chan) (f : Channel → Channel) : (s.onChan i f).svc = s.svc := rfl

/-! ### Every channel record changed -/

@[simp] theorem State.onChans_pending (s : State) (f : Chan → Channel → Channel) : (s.onChans f).pending = s.pending := rfl
@[simp] theorem State.onChans_life (s : State) (f : Chan → Channel → Channel) : (s.onChans f).life = s.life := rfl
@[simp] theorem State.onChans_now (s : State) (f : Chan → Channel → Channel) : (s.onChans f).now = s.now := rfl
@[simp] theorem State.onChans_start (s : State) (f : Chan → Channel → Channel) : (s.onChans f).start = s.start := rfl
@[simp] theorem State.onChans_free (s : State) (f : Chan → Channel → Channel) : (s.onChans f).free = s.free := rfl
@[simp] theorem State.onChans_build (s : State) (f : Chan → Channel → Channel) : (s.onChans f).build = s.build := rfl
@[simp] theorem State.onChans_speed (s : State) (f : Chan → Channel → Channel) : (s.onChans f).speed = s.speed := rfl
@[simp] theorem State.onChans_auth (s : State) (f : Chan → Channel → Channel) : (s.onChans f).auth = s.auth := rfl
@[simp] theorem State.onChans_seq (s : State) (f : Chan → Channel → Channel) : (s.onChans f).seq = s.seq := rfl
@[simp] theorem State.onChans_chan (s : State) (f : Chan → Channel → Channel) : (s.onChans f).chan = { s.chan with channels := s.chan.channels.mapWith f } := rfl
@[simp] theorem State.onChans_store (s : State) (f : Chan → Channel → Channel) : (s.onChans f).store = s.store := rfl
@[simp] theorem State.onChans_run (s : State) (f : Chan → Channel → Channel) : (s.onChans f).run = s.run := rfl
@[simp] theorem State.onChans_axle (s : State) (f : Chan → Channel → Channel) : (s.onChans f).axle = s.axle := rfl
@[simp] theorem State.onChans_hitch (s : State) (f : Chan → Channel → Channel) : (s.onChans f).hitch = s.hitch := rfl
@[simp] theorem State.onChans_brake (s : State) (f : Chan → Channel → Channel) : (s.onChans f).brake = s.brake := rfl
@[simp] theorem State.onChans_fault (s : State) (f : Chan → Channel → Channel) : (s.onChans f).fault = s.fault := rfl
@[simp] theorem State.onChans_power (s : State) (f : Chan → Channel → Channel) : (s.onChans f).power = s.power := rfl
@[simp] theorem State.onChans_link (s : State) (f : Chan → Channel → Channel) : (s.onChans f).link = s.link := rfl
@[simp] theorem State.onChans_svc (s : State) (f : Chan → Channel → Channel) : (s.onChans f).svc = s.svc := rfl

/-! ### The shift record changed -/

@[simp] theorem State.onShift_pending (s : State) (f : ShiftRec → ShiftRec) : (s.onShift f).pending = s.pending := rfl
@[simp] theorem State.onShift_life (s : State) (f : ShiftRec → ShiftRec) : (s.onShift f).life = s.life := rfl
@[simp] theorem State.onShift_now (s : State) (f : ShiftRec → ShiftRec) : (s.onShift f).now = s.now := rfl
@[simp] theorem State.onShift_start (s : State) (f : ShiftRec → ShiftRec) : (s.onShift f).start = s.start := rfl
@[simp] theorem State.onShift_free (s : State) (f : ShiftRec → ShiftRec) : (s.onShift f).free = s.free := rfl
@[simp] theorem State.onShift_build (s : State) (f : ShiftRec → ShiftRec) : (s.onShift f).build = s.build := rfl
@[simp] theorem State.onShift_speed (s : State) (f : ShiftRec → ShiftRec) : (s.onShift f).speed = s.speed := rfl
@[simp] theorem State.onShift_auth (s : State) (f : ShiftRec → ShiftRec) : (s.onShift f).auth = s.auth := rfl
@[simp] theorem State.onShift_seq (s : State) (f : ShiftRec → ShiftRec) : (s.onShift f).seq = { s.seq with shift := s.seq.shift.map f } := rfl
@[simp] theorem State.onShift_chan (s : State) (f : ShiftRec → ShiftRec) : (s.onShift f).chan = s.chan := rfl
@[simp] theorem State.onShift_store (s : State) (f : ShiftRec → ShiftRec) : (s.onShift f).store = s.store := rfl
@[simp] theorem State.onShift_run (s : State) (f : ShiftRec → ShiftRec) : (s.onShift f).run = s.run := rfl
@[simp] theorem State.onShift_axle (s : State) (f : ShiftRec → ShiftRec) : (s.onShift f).axle = s.axle := rfl
@[simp] theorem State.onShift_hitch (s : State) (f : ShiftRec → ShiftRec) : (s.onShift f).hitch = s.hitch := rfl
@[simp] theorem State.onShift_brake (s : State) (f : ShiftRec → ShiftRec) : (s.onShift f).brake = s.brake := rfl
@[simp] theorem State.onShift_fault (s : State) (f : ShiftRec → ShiftRec) : (s.onShift f).fault = s.fault := rfl
@[simp] theorem State.onShift_power (s : State) (f : ShiftRec → ShiftRec) : (s.onShift f).power = s.power := rfl
@[simp] theorem State.onShift_link (s : State) (f : ShiftRec → ShiftRec) : (s.onShift f).link = s.link := rfl
@[simp] theorem State.onShift_svc (s : State) (f : ShiftRec → ShiftRec) : (s.onShift f).svc = s.svc := rfl

/-! ### The Axle State changed -/

@[simp] theorem State.onOwn_pending (s : State) (f : AxleRec → AxleRec) : (s.onOwn f).pending = s.pending := rfl
@[simp] theorem State.onOwn_life (s : State) (f : AxleRec → AxleRec) : (s.onOwn f).life = s.life := rfl
@[simp] theorem State.onOwn_now (s : State) (f : AxleRec → AxleRec) : (s.onOwn f).now = s.now := rfl
@[simp] theorem State.onOwn_start (s : State) (f : AxleRec → AxleRec) : (s.onOwn f).start = s.start := rfl
@[simp] theorem State.onOwn_free (s : State) (f : AxleRec → AxleRec) : (s.onOwn f).free = s.free := rfl
@[simp] theorem State.onOwn_build (s : State) (f : AxleRec → AxleRec) : (s.onOwn f).build = s.build := rfl
@[simp] theorem State.onOwn_speed (s : State) (f : AxleRec → AxleRec) : (s.onOwn f).speed = s.speed := rfl
@[simp] theorem State.onOwn_auth (s : State) (f : AxleRec → AxleRec) : (s.onOwn f).auth = s.auth := rfl
@[simp] theorem State.onOwn_seq (s : State) (f : AxleRec → AxleRec) : (s.onOwn f).seq = s.seq := rfl
@[simp] theorem State.onOwn_chan (s : State) (f : AxleRec → AxleRec) : (s.onOwn f).chan = s.chan := rfl
@[simp] theorem State.onOwn_store (s : State) (f : AxleRec → AxleRec) : (s.onOwn f).store = s.store := rfl
@[simp] theorem State.onOwn_run (s : State) (f : AxleRec → AxleRec) : (s.onOwn f).run = s.run := rfl
@[simp] theorem State.onOwn_axle (s : State) (f : AxleRec → AxleRec) : (s.onOwn f).axle = { s.axle with own := f s.axle.own } := rfl
@[simp] theorem State.onOwn_hitch (s : State) (f : AxleRec → AxleRec) : (s.onOwn f).hitch = s.hitch := rfl
@[simp] theorem State.onOwn_brake (s : State) (f : AxleRec → AxleRec) : (s.onOwn f).brake = s.brake := rfl
@[simp] theorem State.onOwn_fault (s : State) (f : AxleRec → AxleRec) : (s.onOwn f).fault = s.fault := rfl
@[simp] theorem State.onOwn_power (s : State) (f : AxleRec → AxleRec) : (s.onOwn f).power = s.power := rfl
@[simp] theorem State.onOwn_link (s : State) (f : AxleRec → AxleRec) : (s.onOwn f).link = s.link := rfl
@[simp] theorem State.onOwn_svc (s : State) (f : AxleRec → AxleRec) : (s.onOwn f).svc = s.svc := rfl

/-! ### The Axle State published -/

@[simp] theorem State.publishAxle_pending (s : State) : (s.publishAxle).pending = s.pending := rfl
@[simp] theorem State.publishAxle_life (s : State) : (s.publishAxle).life = s.life := rfl
@[simp] theorem State.publishAxle_now (s : State) : (s.publishAxle).now = s.now := rfl
@[simp] theorem State.publishAxle_start (s : State) : (s.publishAxle).start = s.start := rfl
@[simp] theorem State.publishAxle_free (s : State) : (s.publishAxle).free = s.free := rfl
@[simp] theorem State.publishAxle_build (s : State) : (s.publishAxle).build = s.build := rfl
@[simp] theorem State.publishAxle_speed (s : State) : (s.publishAxle).speed = s.speed := rfl
@[simp] theorem State.publishAxle_auth (s : State) : (s.publishAxle).auth = s.auth := rfl
@[simp] theorem State.publishAxle_seq (s : State) : (s.publishAxle).seq = s.seq := rfl
@[simp] theorem State.publishAxle_chan (s : State) : (s.publishAxle).chan = s.chan := rfl
@[simp] theorem State.publishAxle_store (s : State) : (s.publishAxle).store = s.store := rfl
@[simp] theorem State.publishAxle_run (s : State) : (s.publishAxle).run = s.run := rfl
@[simp] theorem State.publishAxle_axle (s : State) : (s.publishAxle).axle = { s.axle with published := s.axle.own } := rfl
@[simp] theorem State.publishAxle_hitch (s : State) : (s.publishAxle).hitch = s.hitch := rfl
@[simp] theorem State.publishAxle_brake (s : State) : (s.publishAxle).brake = s.brake := rfl
@[simp] theorem State.publishAxle_fault (s : State) : (s.publishAxle).fault = s.fault := rfl
@[simp] theorem State.publishAxle_power (s : State) : (s.publishAxle).power = s.power := rfl
@[simp] theorem State.publishAxle_link (s : State) : (s.publishAxle).link = s.link := rfl
@[simp] theorem State.publishAxle_svc (s : State) : (s.publishAxle).svc = s.svc := rfl

/-! ### Brake Demand changed -/

@[simp] theorem State.onDemand_pending (s : State) (f : BrakeDemand → BrakeDemand) : (s.onDemand f).pending = s.pending := rfl
@[simp] theorem State.onDemand_life (s : State) (f : BrakeDemand → BrakeDemand) : (s.onDemand f).life = s.life := rfl
@[simp] theorem State.onDemand_now (s : State) (f : BrakeDemand → BrakeDemand) : (s.onDemand f).now = s.now := rfl
@[simp] theorem State.onDemand_start (s : State) (f : BrakeDemand → BrakeDemand) : (s.onDemand f).start = s.start := rfl
@[simp] theorem State.onDemand_free (s : State) (f : BrakeDemand → BrakeDemand) : (s.onDemand f).free = s.free := rfl
@[simp] theorem State.onDemand_build (s : State) (f : BrakeDemand → BrakeDemand) : (s.onDemand f).build = s.build := rfl
@[simp] theorem State.onDemand_speed (s : State) (f : BrakeDemand → BrakeDemand) : (s.onDemand f).speed = s.speed := rfl
@[simp] theorem State.onDemand_auth (s : State) (f : BrakeDemand → BrakeDemand) : (s.onDemand f).auth = s.auth := rfl
@[simp] theorem State.onDemand_seq (s : State) (f : BrakeDemand → BrakeDemand) : (s.onDemand f).seq = s.seq := rfl
@[simp] theorem State.onDemand_chan (s : State) (f : BrakeDemand → BrakeDemand) : (s.onDemand f).chan = s.chan := rfl
@[simp] theorem State.onDemand_store (s : State) (f : BrakeDemand → BrakeDemand) : (s.onDemand f).store = s.store := rfl
@[simp] theorem State.onDemand_run (s : State) (f : BrakeDemand → BrakeDemand) : (s.onDemand f).run = s.run := rfl
@[simp] theorem State.onDemand_axle (s : State) (f : BrakeDemand → BrakeDemand) : (s.onDemand f).axle = s.axle := rfl
@[simp] theorem State.onDemand_hitch (s : State) (f : BrakeDemand → BrakeDemand) : (s.onDemand f).hitch = s.hitch := rfl
@[simp] theorem State.onDemand_brake (s : State) (f : BrakeDemand → BrakeDemand) : (s.onDemand f).brake = { s.brake with demand := f s.brake.demand } := rfl
@[simp] theorem State.onDemand_fault (s : State) (f : BrakeDemand → BrakeDemand) : (s.onDemand f).fault = s.fault := rfl
@[simp] theorem State.onDemand_power (s : State) (f : BrakeDemand → BrakeDemand) : (s.onDemand f).power = s.power := rfl
@[simp] theorem State.onDemand_link (s : State) (f : BrakeDemand → BrakeDemand) : (s.onDemand f).link = s.link := rfl
@[simp] theorem State.onDemand_svc (s : State) (f : BrakeDemand → BrakeDemand) : (s.onDemand f).svc = s.svc := rfl

/-! ### The Trailer State changed -/

@[simp] theorem State.onTrailer_pending (s : State) (f : TrailerRec → TrailerRec) : (s.onTrailer f).pending = s.pending := rfl
@[simp] theorem State.onTrailer_life (s : State) (f : TrailerRec → TrailerRec) : (s.onTrailer f).life = s.life := rfl
@[simp] theorem State.onTrailer_now (s : State) (f : TrailerRec → TrailerRec) : (s.onTrailer f).now = s.now := rfl
@[simp] theorem State.onTrailer_start (s : State) (f : TrailerRec → TrailerRec) : (s.onTrailer f).start = s.start := rfl
@[simp] theorem State.onTrailer_free (s : State) (f : TrailerRec → TrailerRec) : (s.onTrailer f).free = s.free := rfl
@[simp] theorem State.onTrailer_build (s : State) (f : TrailerRec → TrailerRec) : (s.onTrailer f).build = s.build := rfl
@[simp] theorem State.onTrailer_speed (s : State) (f : TrailerRec → TrailerRec) : (s.onTrailer f).speed = s.speed := rfl
@[simp] theorem State.onTrailer_auth (s : State) (f : TrailerRec → TrailerRec) : (s.onTrailer f).auth = s.auth := rfl
@[simp] theorem State.onTrailer_seq (s : State) (f : TrailerRec → TrailerRec) : (s.onTrailer f).seq = s.seq := rfl
@[simp] theorem State.onTrailer_chan (s : State) (f : TrailerRec → TrailerRec) : (s.onTrailer f).chan = s.chan := rfl
@[simp] theorem State.onTrailer_store (s : State) (f : TrailerRec → TrailerRec) : (s.onTrailer f).store = s.store := rfl
@[simp] theorem State.onTrailer_run (s : State) (f : TrailerRec → TrailerRec) : (s.onTrailer f).run = s.run := rfl
@[simp] theorem State.onTrailer_axle (s : State) (f : TrailerRec → TrailerRec) : (s.onTrailer f).axle = s.axle := rfl
@[simp] theorem State.onTrailer_hitch (s : State) (f : TrailerRec → TrailerRec) : (s.onTrailer f).hitch = s.hitch := rfl
@[simp] theorem State.onTrailer_brake (s : State) (f : TrailerRec → TrailerRec) : (s.onTrailer f).brake = { s.brake with trailer := f s.brake.trailer } := rfl
@[simp] theorem State.onTrailer_fault (s : State) (f : TrailerRec → TrailerRec) : (s.onTrailer f).fault = s.fault := rfl
@[simp] theorem State.onTrailer_power (s : State) (f : TrailerRec → TrailerRec) : (s.onTrailer f).power = s.power := rfl
@[simp] theorem State.onTrailer_link (s : State) (f : TrailerRec → TrailerRec) : (s.onTrailer f).link = s.link := rfl
@[simp] theorem State.onTrailer_svc (s : State) (f : TrailerRec → TrailerRec) : (s.onTrailer f).svc = s.svc := rfl

/-! ### An operation of the store begins -/

@[simp] theorem State.startOp_pending (s : State) (o : StoreOp) : (s.startOp o).pending = s.pending := rfl
@[simp] theorem State.startOp_life (s : State) (o : StoreOp) : (s.startOp o).life = s.life := rfl
@[simp] theorem State.startOp_now (s : State) (o : StoreOp) : (s.startOp o).now = s.now := rfl
@[simp] theorem State.startOp_start (s : State) (o : StoreOp) : (s.startOp o).start = s.start := rfl
@[simp] theorem State.startOp_free (s : State) (o : StoreOp) : (s.startOp o).free = s.free := rfl
@[simp] theorem State.startOp_build (s : State) (o : StoreOp) : (s.startOp o).build = s.build := rfl
@[simp] theorem State.startOp_speed (s : State) (o : StoreOp) : (s.startOp o).speed = s.speed := rfl
@[simp] theorem State.startOp_auth (s : State) (o : StoreOp) : (s.startOp o).auth = s.auth := rfl
@[simp] theorem State.startOp_seq (s : State) (o : StoreOp) : (s.startOp o).seq = s.seq := rfl
@[simp] theorem State.startOp_chan (s : State) (o : StoreOp) : (s.startOp o).chan = s.chan := rfl
@[simp] theorem State.startOp_store (s : State) (o : StoreOp) : (s.startOp o).store = { s.store with op := some o, opEnd := s.now + o.length } := rfl
@[simp] theorem State.startOp_run (s : State) (o : StoreOp) : (s.startOp o).run = s.run := rfl
@[simp] theorem State.startOp_axle (s : State) (o : StoreOp) : (s.startOp o).axle = s.axle := rfl
@[simp] theorem State.startOp_hitch (s : State) (o : StoreOp) : (s.startOp o).hitch = s.hitch := rfl
@[simp] theorem State.startOp_brake (s : State) (o : StoreOp) : (s.startOp o).brake = s.brake := rfl
@[simp] theorem State.startOp_fault (s : State) (o : StoreOp) : (s.startOp o).fault = s.fault := rfl
@[simp] theorem State.startOp_power (s : State) (o : StoreOp) : (s.startOp o).power = s.power := rfl
@[simp] theorem State.startOp_link (s : State) (o : StoreOp) : (s.startOp o).link = s.link := rfl
@[simp] theorem State.startOp_svc (s : State) (o : StoreOp) : (s.startOp o).svc = s.svc := rfl

/-! ### No operation of the store runs -/

@[simp] theorem State.noOp_pending (s : State) : (s.noOp).pending = s.pending := rfl
@[simp] theorem State.noOp_life (s : State) : (s.noOp).life = s.life := rfl
@[simp] theorem State.noOp_now (s : State) : (s.noOp).now = s.now := rfl
@[simp] theorem State.noOp_start (s : State) : (s.noOp).start = s.start := rfl
@[simp] theorem State.noOp_free (s : State) : (s.noOp).free = s.free := rfl
@[simp] theorem State.noOp_build (s : State) : (s.noOp).build = s.build := rfl
@[simp] theorem State.noOp_speed (s : State) : (s.noOp).speed = s.speed := rfl
@[simp] theorem State.noOp_auth (s : State) : (s.noOp).auth = s.auth := rfl
@[simp] theorem State.noOp_seq (s : State) : (s.noOp).seq = s.seq := rfl
@[simp] theorem State.noOp_chan (s : State) : (s.noOp).chan = s.chan := rfl
@[simp] theorem State.noOp_store (s : State) : (s.noOp).store = { s.store with op := none } := rfl
@[simp] theorem State.noOp_run (s : State) : (s.noOp).run = s.run := rfl
@[simp] theorem State.noOp_axle (s : State) : (s.noOp).axle = s.axle := rfl
@[simp] theorem State.noOp_hitch (s : State) : (s.noOp).hitch = s.hitch := rfl
@[simp] theorem State.noOp_brake (s : State) : (s.noOp).brake = s.brake := rfl
@[simp] theorem State.noOp_fault (s : State) : (s.noOp).fault = s.fault := rfl
@[simp] theorem State.noOp_power (s : State) : (s.noOp).power = s.power := rfl
@[simp] theorem State.noOp_link (s : State) : (s.noOp).link = s.link := rfl
@[simp] theorem State.noOp_svc (s : State) : (s.noOp).svc = s.svc := rfl

/-! ### A link changed -/

@[simp] theorem State.onLink_pending (s : State) (l : Link) (f : LinkState → LinkState) : (s.onLink l f).pending = s.pending := by
  cases l <;> rfl
@[simp] theorem State.onLink_life (s : State) (l : Link) (f : LinkState → LinkState) : (s.onLink l f).life = s.life := by
  cases l <;> rfl
@[simp] theorem State.onLink_now (s : State) (l : Link) (f : LinkState → LinkState) : (s.onLink l f).now = s.now := by
  cases l <;> rfl
@[simp] theorem State.onLink_start (s : State) (l : Link) (f : LinkState → LinkState) : (s.onLink l f).start = s.start := by
  cases l <;> rfl
@[simp] theorem State.onLink_free (s : State) (l : Link) (f : LinkState → LinkState) : (s.onLink l f).free = s.free := by
  cases l <;> rfl
@[simp] theorem State.onLink_build (s : State) (l : Link) (f : LinkState → LinkState) : (s.onLink l f).build = s.build := by
  cases l <;> rfl
@[simp] theorem State.onLink_speed (s : State) (l : Link) (f : LinkState → LinkState) : (s.onLink l f).speed = s.speed := by
  cases l <;> rfl
@[simp] theorem State.onLink_auth (s : State) (l : Link) (f : LinkState → LinkState) : (s.onLink l f).auth = s.auth := by
  cases l <;> rfl
@[simp] theorem State.onLink_seq (s : State) (l : Link) (f : LinkState → LinkState) : (s.onLink l f).seq = s.seq := by
  cases l <;> rfl
@[simp] theorem State.onLink_chan (s : State) (l : Link) (f : LinkState → LinkState) : (s.onLink l f).chan = s.chan := by
  cases l <;> rfl
@[simp] theorem State.onLink_store (s : State) (l : Link) (f : LinkState → LinkState) : (s.onLink l f).store = s.store := by
  cases l <;> rfl
@[simp] theorem State.onLink_run (s : State) (l : Link) (f : LinkState → LinkState) : (s.onLink l f).run = s.run := by
  cases l <;> rfl
@[simp] theorem State.onLink_axle (s : State) (l : Link) (f : LinkState → LinkState) : (s.onLink l f).axle = s.axle := by
  cases l <;> rfl
@[simp] theorem State.onLink_hitch (s : State) (l : Link) (f : LinkState → LinkState) : (s.onLink l f).hitch = s.hitch := by
  cases l <;> rfl
@[simp] theorem State.onLink_brake (s : State) (l : Link) (f : LinkState → LinkState) : (s.onLink l f).brake = s.brake := by
  cases l <;> rfl
@[simp] theorem State.onLink_fault (s : State) (l : Link) (f : LinkState → LinkState) : (s.onLink l f).fault = s.fault := by
  cases l <;> rfl
@[simp] theorem State.onLink_power (s : State) (l : Link) (f : LinkState → LinkState) : (s.onLink l f).power = s.power := by
  cases l <;> rfl
@[simp] theorem State.onLink_svc (s : State) (l : Link) (f : LinkState → LinkState) : (s.onLink l f).svc = s.svc := by
  cases l <;> rfl

/-- The link changed reads as the change made it. -/
@[simp] theorem State.onLink_get (s : State) (l : Link) (f : LinkState → LinkState) :
    (s.onLink l f).link.get l = f (s.link.get l) := by cases l <;> rfl

/-- The other link reads as before. -/
theorem State.onLink_get_other (s : State) (l k : Link) (f : LinkState → LinkState) (h : k ≠ l) :
    (s.onLink l f).link.get k = s.link.get k := by cases l <;> cases k <;> first | rfl | exact absurd rfl h

/-! ### One value per name -/

/-- The value of the clutch set. -/
@[simp] theorem clutch_get_set {α : Type} (p : PerClutch α) (c : Clutch) (a : α) : (p.set c a).get c = a := by
  cases c <;> rfl

/-- The value of another clutch. -/
theorem clutch_get_set_other {α : Type} (p : PerClutch α) (c d : Clutch) (a : α) (h : d ≠ c) :
    (p.set c a).get d = p.get d := by
  cases c <;> cases d <;> first | rfl | exact absurd rfl h

/-- The value of a clutch after a function is applied to each. -/
@[simp] theorem clutch_get_mapWith {α β : Type} (p : PerClutch α) (f : Clutch → α → β) (c : Clutch) :
    (p.mapWith f).get c = f c (p.get c) := by
  cases c <;> rfl

/-- The value of the channel set. -/
@[simp] theorem chan_get_set {α : Type} (p : PerChan α) (i : Chan) (a : α) : (p.set i a).get i = a := by
  cases i <;> simp [PerChan.set, PerChan.get]

/-- The value of another channel. -/
theorem chan_get_set_other {α : Type} (p : PerChan α) (i j : Chan) (a : α) (h : j ≠ i) : (p.set i a).get j = p.get j := by
  cases i <;> cases j <;> simp_all [PerChan.set, PerChan.get, clutch_get_set_other]

/-- The value of a channel after a function is applied to each. -/
@[simp] theorem chan_get_mapWith {α β : Type} (p : PerChan α) (f : Chan → α → β) (i : Chan) :
    (p.mapWith f).get i = f i (p.get i) := by
  cases i <;> simp [PerChan.mapWith, PerChan.get]

/-- The value of the function set. -/
@[simp] theorem func_get_set {α : Type} (p : PerFunc α) (f : Func) (a : α) : (p.set f a).get f = a := by
  cases f <;> rfl

/-- The value of another function. -/
theorem func_get_set_other {α : Type} (p : PerFunc α) (f g : Func) (a : α) (h : g ≠ f) : (p.set f a).get g = p.get g := by
  cases f <;> cases g <;> first | rfl | exact absurd rfl h

/-- The value of the gate set. -/
@[simp] theorem group_get_set {α : Type} (p : PerGroup α) (g : Group) (a : α) : (p.set g a).get g = a := by
  cases g <;> rfl

/-- The value of another gate. -/
theorem group_get_set_other {α : Type} (p : PerGroup α) (g k : Group) (a : α) (h : k ≠ g) :
    (p.set g a).get k = p.get k := by
  cases g <;> cases k <;> first | rfl | exact absurd rfl h

/-! ### Events -/

/-- An event while the blocks take events has its effect (R71, R168). -/
theorem State.event_running (s : State) (dt : Nat) (f : State → State) (h : (s.advance dt).running = true) :
    s.event dt f = f (s.advance dt) := by simp [State.event, h]

/-- An event while the blocks take none lets time pass (R71, R168). -/
theorem State.event_waiting (s : State) (dt : Nat) (f : State → State) (h : (s.advance dt).running = false) :
    s.event dt f = s.advance dt := by simp [State.event, h]

/-- Time does not change whether the blocks take events. -/
@[simp] theorem State.running_advance (s : State) (dt : Nat) : (s.advance dt).running = s.running := rfl

end Sys2Proof.Machine
end

