-- ==== Sys2Proof/Laws/Frames.lean ====
section
/-! SUPPORT. What each shared operation leaves as it was: one lemma per operation, over every field it does not write. The
clutch records apart, a calibration run that ends changes nothing of the Shift Sequencer (`SeqState.besides`). -/

namespace Sys2Proof.Machine

/-- The Shift Sequencer's records but the clutches. -/
def SeqState.besides (q : SeqState) : SeqState := { q with clutches := everyClutch { state := .vented } }

/-- Releasing every clutch changes nothing else. -/
@[simp] theorem SeqState.releaseAll_besides (q : SeqState) (now : Nat) : (q.releaseAll now).besides = q.besides := rfl

/-- What holds of a state and is kept by each step of a fold holds of the fold's result. -/
theorem foldl_keeps {σ α : Type} (P : σ → Prop) (f : σ → α → σ) (l : List α) (s : σ) (h0 : P s)
    (hs : ∀ t a, a ∈ l → P t → P (f t a)) : P (l.foldl f s) := by
  induction l generalizing s with
  | nil => exact h0
  | cons a rest ih =>
    exact ih (f s a) (hs s a (List.mem_cons_self ..) h0) (fun t b hb => hs t b (List.mem_cons_of_mem _ hb))

/-- No delegable function is CALIB. -/
theorem ne_calib_of_delegable {f : Func} (h : f ∈ delegableFuncs) : f ≠ .calib := by
  rintro rfl; exact absurd h (by decide)

@[simp] theorem State.endRun_frame (s : State) (reason : Option RunReason) :
    (State.endRun s reason).pending = s.pending ∧ (State.endRun s reason).life = s.life ∧
      (State.endRun s reason).now = s.now ∧ (State.endRun s reason).start = s.start ∧
      (State.endRun s reason).free = s.free ∧ (State.endRun s reason).build = s.build ∧
      (State.endRun s reason).speed = s.speed ∧ (State.endRun s reason).auth = s.auth ∧
      (State.endRun s reason).chan = s.chan ∧ (State.endRun s reason).store = s.store ∧
      (State.endRun s reason).axle = s.axle ∧ (State.endRun s reason).hitch = s.hitch ∧
      (State.endRun s reason).brake = s.brake ∧ (State.endRun s reason).fault = s.fault ∧
      (State.endRun s reason).power = s.power ∧ (State.endRun s reason).link = s.link ∧
      (State.endRun s reason).svc = s.svc ∧ (State.endRun s reason).seq.besides = s.seq.besides := by
  unfold State.endRun
  dsimp only
  all_goals simp

@[simp] theorem State.abortRun_frame (s : State) (reason : RunReason) :
    (State.abortRun s reason).pending = s.pending ∧ (State.abortRun s reason).life = s.life ∧
      (State.abortRun s reason).now = s.now ∧ (State.abortRun s reason).start = s.start ∧
      (State.abortRun s reason).free = s.free ∧ (State.abortRun s reason).build = s.build ∧
      (State.abortRun s reason).speed = s.speed ∧ (State.abortRun s reason).auth = s.auth ∧
      (State.abortRun s reason).chan = s.chan ∧ (State.abortRun s reason).store = s.store ∧
      (State.abortRun s reason).axle = s.axle ∧ (State.abortRun s reason).hitch = s.hitch ∧
      (State.abortRun s reason).brake = s.brake ∧ (State.abortRun s reason).fault = s.fault ∧
      (State.abortRun s reason).power = s.power ∧ (State.abortRun s reason).link = s.link ∧
      (State.abortRun s reason).svc = s.svc ∧ (State.abortRun s reason).seq.besides = s.seq.besides := by
  unfold State.abortRun
  dsimp only
  repeat' split
  all_goals simp

@[simp] theorem State.placeMail_frame (s : State) (l : Link) (ident : Nat) (data : List Byte) :
    (State.placeMail s l ident data).pending = s.pending ∧ (State.placeMail s l ident data).life = s.life ∧
      (State.placeMail s l ident data).now = s.now ∧ (State.placeMail s l ident data).start = s.start ∧
      (State.placeMail s l ident data).free = s.free ∧ (State.placeMail s l ident data).build = s.build ∧
      (State.placeMail s l ident data).speed = s.speed ∧ (State.placeMail s l ident data).auth = s.auth ∧
      (State.placeMail s l ident data).seq = s.seq ∧ (State.placeMail s l ident data).chan = s.chan ∧
      (State.placeMail s l ident data).store = s.store ∧ (State.placeMail s l ident data).run = s.run ∧
      (State.placeMail s l ident data).axle = s.axle ∧ (State.placeMail s l ident data).hitch = s.hitch ∧
      (State.placeMail s l ident data).brake = s.brake ∧ (State.placeMail s l ident data).fault = s.fault ∧
      (State.placeMail s l ident data).power = s.power ∧ (State.placeMail s l ident data).svc = s.svc := by
  simp [State.placeMail]

@[simp] theorem State.emptyMail_frame (s : State) (l : Link) (ident : Nat) :
    (State.emptyMail s l ident).pending = s.pending ∧ (State.emptyMail s l ident).life = s.life ∧
      (State.emptyMail s l ident).now = s.now ∧ (State.emptyMail s l ident).start = s.start ∧
      (State.emptyMail s l ident).free = s.free ∧ (State.emptyMail s l ident).build = s.build ∧
      (State.emptyMail s l ident).speed = s.speed ∧ (State.emptyMail s l ident).auth = s.auth ∧
      (State.emptyMail s l ident).seq = s.seq ∧ (State.emptyMail s l ident).chan = s.chan ∧
      (State.emptyMail s l ident).store = s.store ∧ (State.emptyMail s l ident).run = s.run ∧
      (State.emptyMail s l ident).axle = s.axle ∧ (State.emptyMail s l ident).hitch = s.hitch ∧
      (State.emptyMail s l ident).brake = s.brake ∧ (State.emptyMail s l ident).fault = s.fault ∧
      (State.emptyMail s l ident).power = s.power ∧ (State.emptyMail s l ident).svc = s.svc := by
  simp [State.emptyMail]

@[simp] theorem State.pushOut_frame (s : State) (l : Link) (e : OutEvent) :
    (State.pushOut s l e).pending = s.pending ∧ (State.pushOut s l e).life = s.life ∧
      (State.pushOut s l e).now = s.now ∧ (State.pushOut s l e).start = s.start ∧
      (State.pushOut s l e).free = s.free ∧ (State.pushOut s l e).build = s.build ∧
      (State.pushOut s l e).speed = s.speed ∧ (State.pushOut s l e).auth = s.auth ∧
      (State.pushOut s l e).seq = s.seq ∧ (State.pushOut s l e).chan = s.chan ∧
      (State.pushOut s l e).store = s.store ∧ (State.pushOut s l e).run = s.run ∧
      (State.pushOut s l e).axle = s.axle ∧ (State.pushOut s l e).hitch = s.hitch ∧
      (State.pushOut s l e).brake = s.brake ∧ (State.pushOut s l e).fault = s.fault ∧
      (State.pushOut s l e).power = s.power ∧ (State.pushOut s l e).svc = s.svc := by
  simp [State.pushOut]

@[simp] theorem State.refuse_frame (s : State) (l : Link) (message part func : Nat) (r : Reason) :
    (State.refuse s l message part func r).pending = s.pending ∧
      (State.refuse s l message part func r).life = s.life ∧ (State.refuse s l message part func r).now = s.now ∧
      (State.refuse s l message part func r).start = s.start ∧ (State.refuse s l message part func r).free = s.free ∧
      (State.refuse s l message part func r).build = s.build ∧
      (State.refuse s l message part func r).speed = s.speed ∧ (State.refuse s l message part func r).auth = s.auth ∧
      (State.refuse s l message part func r).seq = s.seq ∧ (State.refuse s l message part func r).chan = s.chan ∧
      (State.refuse s l message part func r).store = s.store ∧ (State.refuse s l message part func r).run = s.run ∧
      (State.refuse s l message part func r).axle = s.axle ∧ (State.refuse s l message part func r).hitch = s.hitch ∧
      (State.refuse s l message part func r).brake = s.brake ∧
      (State.refuse s l message part func r).fault = s.fault ∧
      (State.refuse s l message part func r).power = s.power ∧ (State.refuse s l message part func r).svc = s.svc := by
  simp [State.refuse]

@[simp] theorem State.reply_frame (s : State) (func : Nat) (r : ReplyResult) :
    (State.reply s func r).pending = s.pending ∧ (State.reply s func r).life = s.life ∧
      (State.reply s func r).now = s.now ∧ (State.reply s func r).start = s.start ∧
      (State.reply s func r).free = s.free ∧ (State.reply s func r).build = s.build ∧
      (State.reply s func r).speed = s.speed ∧ (State.reply s func r).auth = s.auth ∧
      (State.reply s func r).seq = s.seq ∧ (State.reply s func r).chan = s.chan ∧
      (State.reply s func r).store = s.store ∧ (State.reply s func r).run = s.run ∧
      (State.reply s func r).axle = s.axle ∧ (State.reply s func r).hitch = s.hitch ∧
      (State.reply s func r).brake = s.brake ∧ (State.reply s func r).fault = s.fault ∧
      (State.reply s func r).power = s.power ∧ (State.reply s func r).svc = s.svc := by
  unfold State.reply
  dsimp only
  repeat' split
  all_goals simp

@[simp] theorem State.holderMoved_frame (s : State) (f : Func) (before after : Holder) :
    (State.holderMoved s f before after).pending = s.pending ∧ (State.holderMoved s f before after).life = s.life ∧
      (State.holderMoved s f before after).now = s.now ∧ (State.holderMoved s f before after).start = s.start ∧
      (State.holderMoved s f before after).free = s.free ∧ (State.holderMoved s f before after).build = s.build ∧
      (State.holderMoved s f before after).speed = s.speed ∧ (State.holderMoved s f before after).auth = s.auth ∧
      (State.holderMoved s f before after).chan = s.chan ∧ (State.holderMoved s f before after).store = s.store ∧
      (State.holderMoved s f before after).brake = s.brake ∧ (State.holderMoved s f before after).fault = s.fault ∧
      (State.holderMoved s f before after).power = s.power ∧ (State.holderMoved s f before after).link = s.link ∧
      (State.holderMoved s f before after).svc = s.svc ∧
      (State.holderMoved s f before after).seq.besides = s.seq.besides := by
  unfold State.holderMoved
  dsimp only
  repeat' split
  all_goals simp

@[simp] theorem State.holderMoved_frame_run (s : State) (f : Func) (before after : Holder) (hf : f ≠ .calib) :
    (State.holderMoved s f before after).seq = s.seq ∧ (State.holderMoved s f before after).run = s.run := by
  unfold State.holderMoved
  repeat' split
  all_goals simp_all

@[simp] theorem State.setHolder_frame (s : State) (f : Func) (h : Holder) :
    (State.setHolder s f h).pending = s.pending ∧ (State.setHolder s f h).life = s.life ∧
      (State.setHolder s f h).now = s.now ∧ (State.setHolder s f h).start = s.start ∧
      (State.setHolder s f h).free = s.free ∧ (State.setHolder s f h).build = s.build ∧
      (State.setHolder s f h).speed = s.speed ∧ (State.setHolder s f h).chan = s.chan ∧
      (State.setHolder s f h).store = s.store ∧ (State.setHolder s f h).brake = s.brake ∧
      (State.setHolder s f h).fault = s.fault ∧ (State.setHolder s f h).power = s.power ∧
      (State.setHolder s f h).link = s.link ∧ (State.setHolder s f h).svc = s.svc ∧
      (State.setHolder s f h).seq.besides = s.seq.besides := by
  unfold State.setHolder
  dsimp only
  repeat' split
  all_goals simp

@[simp] theorem State.setHolder_frame_run (s : State) (f : Func) (h : Holder) (hf : f ≠ .calib) :
    (State.setHolder s f h).seq = s.seq ∧ (State.setHolder s f h).run = s.run := by
  unfold State.setHolder
  dsimp only
  repeat' split
  all_goals simp [hf]

@[simp] theorem State.dropPending_frame (s : State) (f : Func) :
    (State.dropPending s f).pending = s.pending ∧ (State.dropPending s f).life = s.life ∧
      (State.dropPending s f).now = s.now ∧ (State.dropPending s f).start = s.start ∧
      (State.dropPending s f).free = s.free ∧ (State.dropPending s f).build = s.build ∧
      (State.dropPending s f).speed = s.speed ∧ (State.dropPending s f).seq = s.seq ∧
      (State.dropPending s f).chan = s.chan ∧ (State.dropPending s f).store = s.store ∧
      (State.dropPending s f).run = s.run ∧ (State.dropPending s f).axle = s.axle ∧
      (State.dropPending s f).hitch = s.hitch ∧ (State.dropPending s f).brake = s.brake ∧
      (State.dropPending s f).fault = s.fault ∧ (State.dropPending s f).power = s.power ∧
      (State.dropPending s f).link = s.link ∧ (State.dropPending s f).svc = s.svc := by
  unfold State.dropPending
  dsimp only
  repeat' split
  all_goals simp

@[simp] theorem State.refusePending_frame (s : State) (f : Func) (r : Reason) :
    (State.refusePending s f r).pending = s.pending ∧ (State.refusePending s f r).life = s.life ∧
      (State.refusePending s f r).now = s.now ∧ (State.refusePending s f r).start = s.start ∧
      (State.refusePending s f r).free = s.free ∧ (State.refusePending s f r).build = s.build ∧
      (State.refusePending s f r).speed = s.speed ∧ (State.refusePending s f r).seq = s.seq ∧
      (State.refusePending s f r).chan = s.chan ∧ (State.refusePending s f r).store = s.store ∧
      (State.refusePending s f r).run = s.run ∧ (State.refusePending s f r).axle = s.axle ∧
      (State.refusePending s f r).hitch = s.hitch ∧ (State.refusePending s f r).brake = s.brake ∧
      (State.refusePending s f r).fault = s.fault ∧ (State.refusePending s f r).power = s.power ∧
      (State.refusePending s f r).svc = s.svc := by
  unfold State.refusePending
  repeat' split
  all_goals simp

@[simp] theorem State.moveAway_frame (s : State) (f : Func) (h : Holder) :
    (State.moveAway s f h).pending = s.pending ∧ (State.moveAway s f h).life = s.life ∧
      (State.moveAway s f h).now = s.now ∧ (State.moveAway s f h).start = s.start ∧
      (State.moveAway s f h).free = s.free ∧ (State.moveAway s f h).build = s.build ∧
      (State.moveAway s f h).speed = s.speed ∧ (State.moveAway s f h).chan = s.chan ∧
      (State.moveAway s f h).store = s.store ∧ (State.moveAway s f h).brake = s.brake ∧
      (State.moveAway s f h).fault = s.fault ∧ (State.moveAway s f h).power = s.power ∧
      (State.moveAway s f h).svc = s.svc ∧ (State.moveAway s f h).seq.besides = s.seq.besides := by
  unfold State.moveAway
  repeat' split
  all_goals simp

@[simp] theorem State.moveAway_frame_run (s : State) (f : Func) (h : Holder) (hf : f ≠ .calib) :
    (State.moveAway s f h).seq = s.seq ∧ (State.moveAway s f h).run = s.run := by
  unfold State.moveAway
  repeat' split
  all_goals simp [hf]

@[simp] theorem State.renew_frame (s : State) (f : Func) :
    (State.renew s f).pending = s.pending ∧ (State.renew s f).life = s.life ∧ (State.renew s f).now = s.now ∧
      (State.renew s f).start = s.start ∧ (State.renew s f).free = s.free ∧ (State.renew s f).build = s.build ∧
      (State.renew s f).speed = s.speed ∧ (State.renew s f).seq = s.seq ∧ (State.renew s f).chan = s.chan ∧
      (State.renew s f).store = s.store ∧ (State.renew s f).run = s.run ∧ (State.renew s f).axle = s.axle ∧
      (State.renew s f).hitch = s.hitch ∧ (State.renew s f).brake = s.brake ∧ (State.renew s f).fault = s.fault ∧
      (State.renew s f).power = s.power ∧ (State.renew s f).link = s.link ∧ (State.renew s f).svc = s.svc := by
  simp [State.renew]

@[simp] theorem State.reclaim_frame (s : State) (f : Func) :
    (State.reclaim s f).pending = s.pending ∧ (State.reclaim s f).life = s.life ∧ (State.reclaim s f).now = s.now ∧
      (State.reclaim s f).start = s.start ∧ (State.reclaim s f).free = s.free ∧ (State.reclaim s f).build = s.build ∧
      (State.reclaim s f).speed = s.speed ∧ (State.reclaim s f).chan = s.chan ∧ (State.reclaim s f).store = s.store ∧
      (State.reclaim s f).brake = s.brake ∧ (State.reclaim s f).fault = s.fault ∧
      (State.reclaim s f).power = s.power ∧ (State.reclaim s f).svc = s.svc ∧
      (State.reclaim s f).seq.besides = s.seq.besides := by
  unfold State.reclaim
  dsimp only
  repeat' split
  all_goals simp

@[simp] theorem State.reclaim_frame_run (s : State) (f : Func) (hf : f ≠ .calib) :
    (State.reclaim s f).seq = s.seq ∧ (State.reclaim s f).run = s.run := by
  unfold State.reclaim
  dsimp only
  repeat' split
  all_goals simp [hf]

@[simp] theorem State.reclaimByCommand_frame (s : State) :
    (State.reclaimByCommand s).pending = s.pending ∧ (State.reclaimByCommand s).life = s.life ∧
      (State.reclaimByCommand s).now = s.now ∧ (State.reclaimByCommand s).start = s.start ∧
      (State.reclaimByCommand s).free = s.free ∧ (State.reclaimByCommand s).build = s.build ∧
      (State.reclaimByCommand s).speed = s.speed ∧ (State.reclaimByCommand s).seq = s.seq ∧
      (State.reclaimByCommand s).chan = s.chan ∧ (State.reclaimByCommand s).store = s.store ∧
      (State.reclaimByCommand s).run = s.run ∧ (State.reclaimByCommand s).brake = s.brake ∧
      (State.reclaimByCommand s).fault = s.fault ∧ (State.reclaimByCommand s).power = s.power ∧
      (State.reclaimByCommand s).svc = s.svc := by
  unfold State.reclaimByCommand
  repeat' split
  all_goals simp

@[simp] theorem State.grant_frame (s : State) (f : Func) :
    (State.grant s f).pending = s.pending ∧ (State.grant s f).life = s.life ∧ (State.grant s f).now = s.now ∧
      (State.grant s f).start = s.start ∧ (State.grant s f).free = s.free ∧ (State.grant s f).build = s.build ∧
      (State.grant s f).speed = s.speed ∧ (State.grant s f).chan = s.chan ∧ (State.grant s f).store = s.store ∧
      (State.grant s f).brake = s.brake ∧ (State.grant s f).fault = s.fault ∧ (State.grant s f).power = s.power ∧
      (State.grant s f).svc = s.svc ∧ (State.grant s f).seq.besides = s.seq.besides := by
  simp [State.grant]

@[simp] theorem State.grant_frame_run (s : State) (f : Func) (hf : f ≠ .calib) :
    (State.grant s f).seq = s.seq ∧ (State.grant s f).run = s.run := by
  simp [State.grant, hf]

@[simp] theorem State.popEvent_frame (s : State) (l : Link) :
    (State.popEvent s l).pending = s.pending ∧ (State.popEvent s l).life = s.life ∧
      (State.popEvent s l).now = s.now ∧ (State.popEvent s l).start = s.start ∧ (State.popEvent s l).free = s.free ∧
      (State.popEvent s l).build = s.build ∧ (State.popEvent s l).speed = s.speed ∧
      (State.popEvent s l).auth = s.auth ∧ (State.popEvent s l).seq = s.seq ∧ (State.popEvent s l).chan = s.chan ∧
      (State.popEvent s l).store = s.store ∧ (State.popEvent s l).run = s.run ∧ (State.popEvent s l).axle = s.axle ∧
      (State.popEvent s l).hitch = s.hitch ∧ (State.popEvent s l).brake = s.brake ∧
      (State.popEvent s l).fault = s.fault ∧ (State.popEvent s l).power = s.power ∧ (State.popEvent s l).svc = s.svc := by
  simp [State.popEvent]

@[simp] theorem judgeRequest_frame (s : State) (code : Nat) :
    (judgeRequest s code).pending = s.pending ∧ (judgeRequest s code).life = s.life ∧
      (judgeRequest s code).now = s.now ∧ (judgeRequest s code).start = s.start ∧
      (judgeRequest s code).free = s.free ∧ (judgeRequest s code).build = s.build ∧
      (judgeRequest s code).speed = s.speed ∧ (judgeRequest s code).seq = s.seq ∧
      (judgeRequest s code).chan = s.chan ∧ (judgeRequest s code).store = s.store ∧
      (judgeRequest s code).run = s.run ∧ (judgeRequest s code).brake = s.brake ∧
      (judgeRequest s code).fault = s.fault ∧ (judgeRequest s code).power = s.power ∧
      (judgeRequest s code).svc = s.svc := by
  unfold judgeRequest
  repeat' split
  all_goals simp_all

@[simp] theorem judgeKeep_frame (s : State) (code : Nat) :
    (judgeKeep s code).pending = s.pending ∧ (judgeKeep s code).life = s.life ∧ (judgeKeep s code).now = s.now ∧
      (judgeKeep s code).start = s.start ∧ (judgeKeep s code).free = s.free ∧ (judgeKeep s code).build = s.build ∧
      (judgeKeep s code).speed = s.speed ∧ (judgeKeep s code).seq = s.seq ∧ (judgeKeep s code).chan = s.chan ∧
      (judgeKeep s code).store = s.store ∧ (judgeKeep s code).run = s.run ∧ (judgeKeep s code).axle = s.axle ∧
      (judgeKeep s code).hitch = s.hitch ∧ (judgeKeep s code).brake = s.brake ∧ (judgeKeep s code).fault = s.fault ∧
      (judgeKeep s code).power = s.power ∧ (judgeKeep s code).svc = s.svc := by
  unfold judgeKeep
  repeat' split
  all_goals simp

@[simp] theorem judgeRelease_frame (s : State) (code : Nat) :
    (judgeRelease s code).pending = s.pending ∧ (judgeRelease s code).life = s.life ∧
      (judgeRelease s code).now = s.now ∧ (judgeRelease s code).start = s.start ∧
      (judgeRelease s code).free = s.free ∧ (judgeRelease s code).build = s.build ∧
      (judgeRelease s code).speed = s.speed ∧ (judgeRelease s code).seq = s.seq ∧
      (judgeRelease s code).chan = s.chan ∧ (judgeRelease s code).store = s.store ∧
      (judgeRelease s code).run = s.run ∧ (judgeRelease s code).brake = s.brake ∧
      (judgeRelease s code).fault = s.fault ∧ (judgeRelease s code).power = s.power ∧
      (judgeRelease s code).svc = s.svc := by
  unfold judgeRelease
  repeat' split
  all_goals simp_all

@[simp] theorem takeRequest_frame (s : State) :
    (takeRequest s).pending = s.pending ∧ (takeRequest s).life = s.life ∧ (takeRequest s).now = s.now ∧
      (takeRequest s).start = s.start ∧ (takeRequest s).free = s.free ∧ (takeRequest s).build = s.build ∧
      (takeRequest s).speed = s.speed ∧ (takeRequest s).seq = s.seq ∧ (takeRequest s).chan = s.chan ∧
      (takeRequest s).store = s.store ∧ (takeRequest s).run = s.run ∧ (takeRequest s).brake = s.brake ∧
      (takeRequest s).fault = s.fault ∧ (takeRequest s).power = s.power ∧ (takeRequest s).svc = s.svc := by
  unfold takeRequest
  repeat' split
  all_goals simp

@[simp] theorem takeKeep_frame (s : State) :
    (takeKeep s).pending = s.pending ∧ (takeKeep s).life = s.life ∧ (takeKeep s).now = s.now ∧
      (takeKeep s).start = s.start ∧ (takeKeep s).free = s.free ∧ (takeKeep s).build = s.build ∧
      (takeKeep s).speed = s.speed ∧ (takeKeep s).seq = s.seq ∧ (takeKeep s).chan = s.chan ∧
      (takeKeep s).store = s.store ∧ (takeKeep s).run = s.run ∧ (takeKeep s).axle = s.axle ∧
      (takeKeep s).hitch = s.hitch ∧ (takeKeep s).brake = s.brake ∧ (takeKeep s).fault = s.fault ∧
      (takeKeep s).power = s.power ∧ (takeKeep s).svc = s.svc := by
  unfold takeKeep
  repeat' split
  all_goals simp

@[simp] theorem takeRelease_frame (s : State) :
    (takeRelease s).pending = s.pending ∧ (takeRelease s).life = s.life ∧ (takeRelease s).now = s.now ∧
      (takeRelease s).start = s.start ∧ (takeRelease s).free = s.free ∧ (takeRelease s).build = s.build ∧
      (takeRelease s).speed = s.speed ∧ (takeRelease s).seq = s.seq ∧ (takeRelease s).chan = s.chan ∧
      (takeRelease s).store = s.store ∧ (takeRelease s).run = s.run ∧ (takeRelease s).brake = s.brake ∧
      (takeRelease s).fault = s.fault ∧ (takeRelease s).power = s.power ∧ (takeRelease s).svc = s.svc := by
  unfold takeRelease
  repeat' split
  all_goals simp

@[simp] theorem applyFlag_frame (v : Seen) (s : State) (f : Func) :
    (applyFlag v s f).pending = s.pending ∧ (applyFlag v s f).life = s.life ∧ (applyFlag v s f).now = s.now ∧
      (applyFlag v s f).start = s.start ∧ (applyFlag v s f).free = s.free ∧ (applyFlag v s f).build = s.build ∧
      (applyFlag v s f).speed = s.speed ∧ (applyFlag v s f).chan = s.chan ∧ (applyFlag v s f).store = s.store ∧
      (applyFlag v s f).brake = s.brake ∧ (applyFlag v s f).fault = s.fault ∧ (applyFlag v s f).power = s.power ∧
      (applyFlag v s f).svc = s.svc ∧ (applyFlag v s f).seq.besides = s.seq.besides := by
  unfold applyFlag
  dsimp only
  repeat' split
  all_goals simp

@[simp] theorem applyFlag_frame_run (v : Seen) (s : State) (f : Func) (hf : f ≠ .calib) :
    (applyFlag v s f).seq = s.seq ∧ (applyFlag v s f).run = s.run := by
  unfold applyFlag
  dsimp only
  repeat' split
  all_goals simp [hf]

@[simp] theorem judgeReclaims_frame (s : State) (v : Seen) :
    (judgeReclaims s v).pending = s.pending ∧ (judgeReclaims s v).life = s.life ∧ (judgeReclaims s v).now = s.now ∧
      (judgeReclaims s v).start = s.start ∧ (judgeReclaims s v).free = s.free ∧ (judgeReclaims s v).build = s.build ∧
      (judgeReclaims s v).speed = s.speed ∧ (judgeReclaims s v).seq = s.seq ∧ (judgeReclaims s v).chan = s.chan ∧
      (judgeReclaims s v).store = s.store ∧ (judgeReclaims s v).run = s.run ∧ (judgeReclaims s v).brake = s.brake ∧
      (judgeReclaims s v).fault = s.fault ∧ (judgeReclaims s v).power = s.power ∧ (judgeReclaims s v).svc = s.svc := by
  unfold judgeReclaims
  have hr : (fun (t : State) => t.pending = s.pending ∧ t.life = s.life ∧ t.now = s.now ∧ t.start = s.start ∧ t.free = s.free ∧ t.build = s.build ∧ t.speed = s.speed ∧ t.seq = s.seq ∧ t.chan = s.chan ∧ t.store = s.store ∧ t.run = s.run ∧ t.brake = s.brake ∧ t.fault = s.fault ∧ t.power = s.power ∧ t.svc = s.svc) (delegableFuncs.foldl (fun s f => if reclaimShown s v f then s.reclaim f else s) s) := by
    refine foldl_keeps (fun (t : State) => t.pending = s.pending ∧ t.life = s.life ∧ t.now = s.now ∧ t.start = s.start ∧ t.free = s.free ∧ t.build = s.build ∧ t.speed = s.speed ∧ t.seq = s.seq ∧ t.chan = s.chan ∧ t.store = s.store ∧ t.run = s.run ∧ t.brake = s.brake ∧ t.fault = s.fault ∧ t.power = s.power ∧ t.svc = s.svc) _ _ _ ?_ ?_
    · simp
    · intro t f hm ht
      have hf := ne_calib_of_delegable hm
      split
      all_goals simp_all
  split
  · simpa using hr
  · simp [allFuncs]

@[simp] theorem settleRequest_frame (s : State) (f : Func) :
    (settleRequest s f).pending = s.pending ∧ (settleRequest s f).life = s.life ∧ (settleRequest s f).now = s.now ∧
      (settleRequest s f).start = s.start ∧ (settleRequest s f).free = s.free ∧ (settleRequest s f).build = s.build ∧
      (settleRequest s f).speed = s.speed ∧ (settleRequest s f).chan = s.chan ∧ (settleRequest s f).store = s.store ∧
      (settleRequest s f).brake = s.brake ∧ (settleRequest s f).fault = s.fault ∧
      (settleRequest s f).power = s.power ∧ (settleRequest s f).svc = s.svc ∧
      (settleRequest s f).seq.besides = s.seq.besides := by
  unfold settleRequest
  repeat' split
  all_goals simp

@[simp] theorem settleRequest_frame_run (s : State) (f : Func) (hf : f ≠ .calib) :
    (settleRequest s f).seq = s.seq ∧ (settleRequest s f).run = s.run := by
  unfold settleRequest
  repeat' split
  all_goals simp [hf]

@[simp] theorem sendAuthorityStatus_frame (s : State) :
    (sendAuthorityStatus s).pending = s.pending ∧ (sendAuthorityStatus s).life = s.life ∧
      (sendAuthorityStatus s).now = s.now ∧ (sendAuthorityStatus s).start = s.start ∧
      (sendAuthorityStatus s).free = s.free ∧ (sendAuthorityStatus s).build = s.build ∧
      (sendAuthorityStatus s).speed = s.speed ∧ (sendAuthorityStatus s).seq = s.seq ∧
      (sendAuthorityStatus s).chan = s.chan ∧ (sendAuthorityStatus s).store = s.store ∧
      (sendAuthorityStatus s).run = s.run ∧ (sendAuthorityStatus s).axle = s.axle ∧
      (sendAuthorityStatus s).hitch = s.hitch ∧ (sendAuthorityStatus s).brake = s.brake ∧
      (sendAuthorityStatus s).fault = s.fault ∧ (sendAuthorityStatus s).power = s.power ∧
      (sendAuthorityStatus s).svc = s.svc := by
  unfold sendAuthorityStatus
  dsimp only
  repeat' split
  all_goals simp

@[simp] theorem authorityReview_frame (s : State) :
    (authorityReview s).pending = s.pending ∧ (authorityReview s).life = s.life ∧ (authorityReview s).now = s.now ∧
      (authorityReview s).start = s.start ∧ (authorityReview s).free = s.free ∧ (authorityReview s).build = s.build ∧
      (authorityReview s).speed = s.speed ∧ (authorityReview s).seq = s.seq ∧ (authorityReview s).chan = s.chan ∧
      (authorityReview s).store = s.store ∧ (authorityReview s).run = s.run ∧ (authorityReview s).brake = s.brake ∧
      (authorityReview s).fault = s.fault ∧ (authorityReview s).power = s.power ∧ (authorityReview s).svc = s.svc := by
  unfold authorityReview
  have hs (u : State) : (fun (t : State) => t.pending = u.pending ∧ t.life = u.life ∧ t.now = u.now ∧ t.start = u.start ∧ t.free = u.free ∧ t.build = u.build ∧ t.speed = u.speed ∧ t.seq = u.seq ∧ t.chan = u.chan ∧ t.store = u.store ∧ t.run = u.run ∧ t.brake = u.brake ∧ t.fault = u.fault ∧ t.power = u.power ∧ t.svc = u.svc) (delegableFuncs.foldl settleRequest u) := by
    refine foldl_keeps (fun (t : State) => t.pending = u.pending ∧ t.life = u.life ∧ t.now = u.now ∧ t.start = u.start ∧ t.free = u.free ∧ t.build = u.build ∧ t.speed = u.speed ∧ t.seq = u.seq ∧ t.chan = u.chan ∧ t.store = u.store ∧ t.run = u.run ∧ t.brake = u.brake ∧ t.fault = u.fault ∧ t.power = u.power ∧ t.svc = u.svc) _ _ _ ?_ ?_
    · simp
    · intro t f hm ht
      have hf := ne_calib_of_delegable hm
      simp_all
  have ha (v : Seen) : (fun (t : State) => t.pending = s.pending ∧ t.life = s.life ∧ t.now = s.now ∧ t.start = s.start ∧ t.free = s.free ∧ t.build = s.build ∧ t.speed = s.speed ∧ t.seq = s.seq ∧ t.chan = s.chan ∧ t.store = s.store ∧ t.run = s.run ∧ t.brake = s.brake ∧ t.fault = s.fault ∧ t.power = s.power ∧ t.svc = s.svc) (delegableFuncs.foldl (applyFlag v) s) := by
    refine foldl_keeps (fun (t : State) => t.pending = s.pending ∧ t.life = s.life ∧ t.now = s.now ∧ t.start = s.start ∧ t.free = s.free ∧ t.build = s.build ∧ t.speed = s.speed ∧ t.seq = s.seq ∧ t.chan = s.chan ∧ t.store = s.store ∧ t.run = s.run ∧ t.brake = s.brake ∧ t.fault = s.fault ∧ t.power = s.power ∧ t.svc = s.svc) _ _ _ ?_ ?_
    · simp
    · intro t f hm ht
      have hf := ne_calib_of_delegable hm
      simp_all
  dsimp only
  split
  · rename_i v _
    have ha := ha v
    have hs := hs (judgeReclaims (delegableFuncs.foldl (applyFlag v) s) v)
    simp_all
  · simpa using hs s

@[simp] theorem pendingTimeout_frame (f : Func) (s : State) :
    (pendingTimeout f s).pending = s.pending ∧ (pendingTimeout f s).life = s.life ∧
      (pendingTimeout f s).now = s.now ∧ (pendingTimeout f s).start = s.start ∧ (pendingTimeout f s).free = s.free ∧
      (pendingTimeout f s).build = s.build ∧ (pendingTimeout f s).speed = s.speed ∧
      (pendingTimeout f s).seq = s.seq ∧ (pendingTimeout f s).chan = s.chan ∧ (pendingTimeout f s).store = s.store ∧
      (pendingTimeout f s).run = s.run ∧ (pendingTimeout f s).axle = s.axle ∧ (pendingTimeout f s).hitch = s.hitch ∧
      (pendingTimeout f s).brake = s.brake ∧ (pendingTimeout f s).fault = s.fault ∧
      (pendingTimeout f s).power = s.power ∧ (pendingTimeout f s).svc = s.svc := by
  unfold pendingTimeout
  repeat' split
  all_goals simp

@[simp] theorem leaseLapse_frame (f : Func) (s : State) :
    (leaseLapse f s).pending = s.pending ∧ (leaseLapse f s).life = s.life ∧ (leaseLapse f s).now = s.now ∧
      (leaseLapse f s).start = s.start ∧ (leaseLapse f s).free = s.free ∧ (leaseLapse f s).build = s.build ∧
      (leaseLapse f s).speed = s.speed ∧ (leaseLapse f s).chan = s.chan ∧ (leaseLapse f s).store = s.store ∧
      (leaseLapse f s).brake = s.brake ∧ (leaseLapse f s).fault = s.fault ∧ (leaseLapse f s).power = s.power ∧
      (leaseLapse f s).svc = s.svc ∧ (leaseLapse f s).seq.besides = s.seq.besides := by
  unfold leaseLapse
  repeat' split
  all_goals simp

@[simp] theorem leaseLapse_frame_run (f : Func) (s : State) (hf : f ≠ .calib) :
    (leaseLapse f s).seq = s.seq ∧ (leaseLapse f s).run = s.run := by
  unfold leaseLapse
  repeat' split
  all_goals simp [hf]

@[simp] theorem lapseAllSilently_frame (s : State) :
    (lapseAllSilently s).pending = s.pending ∧ (lapseAllSilently s).life = s.life ∧
      (lapseAllSilently s).now = s.now ∧ (lapseAllSilently s).start = s.start ∧ (lapseAllSilently s).free = s.free ∧
      (lapseAllSilently s).build = s.build ∧ (lapseAllSilently s).speed = s.speed ∧
      (lapseAllSilently s).seq = s.seq ∧ (lapseAllSilently s).chan = s.chan ∧ (lapseAllSilently s).store = s.store ∧
      (lapseAllSilently s).run = s.run ∧ (lapseAllSilently s).brake = s.brake ∧
      (lapseAllSilently s).fault = s.fault ∧ (lapseAllSilently s).power = s.power ∧
      (lapseAllSilently s).link = s.link ∧ (lapseAllSilently s).svc = s.svc := by
  unfold lapseAllSilently
  refine foldl_keeps (fun (t : State) => t.pending = s.pending ∧ t.life = s.life ∧ t.now = s.now ∧ t.start = s.start ∧ t.free = s.free ∧ t.build = s.build ∧ t.speed = s.speed ∧ t.seq = s.seq ∧ t.chan = s.chan ∧ t.store = s.store ∧ t.run = s.run ∧ t.brake = s.brake ∧ t.fault = s.fault ∧ t.power = s.power ∧ t.link = s.link ∧ t.svc = s.svc) _ _ _ ?_ ?_
  · simp
  · intro t f hm ht
    have hf := ne_calib_of_delegable hm
    dsimp only
    repeat' split
    all_goals simp_all

@[simp] theorem returnAtShutdown_frame (s : State) :
    (returnAtShutdown s).pending = s.pending ∧ (returnAtShutdown s).life = s.life ∧
      (returnAtShutdown s).now = s.now ∧ (returnAtShutdown s).start = s.start ∧ (returnAtShutdown s).free = s.free ∧
      (returnAtShutdown s).build = s.build ∧ (returnAtShutdown s).speed = s.speed ∧
      (returnAtShutdown s).seq = s.seq ∧ (returnAtShutdown s).chan = s.chan ∧ (returnAtShutdown s).store = s.store ∧
      (returnAtShutdown s).run = s.run ∧ (returnAtShutdown s).brake = s.brake ∧
      (returnAtShutdown s).fault = s.fault ∧ (returnAtShutdown s).power = s.power ∧ (returnAtShutdown s).svc = s.svc := by
  unfold returnAtShutdown
  refine foldl_keeps (fun (t : State) => t.pending = s.pending ∧ t.life = s.life ∧ t.now = s.now ∧ t.start = s.start ∧ t.free = s.free ∧ t.build = s.build ∧ t.speed = s.speed ∧ t.seq = s.seq ∧ t.chan = s.chan ∧ t.store = s.store ∧ t.run = s.run ∧ t.brake = s.brake ∧ t.fault = s.fault ∧ t.power = s.power ∧ t.svc = s.svc) _ _ _ ?_ ?_
  · simp
  · intro t f hm ht
    have hf := ne_calib_of_delegable hm
    dsimp only
    repeat' split
    all_goals simp_all

@[simp] theorem returnAtLinkLoss_frame (s : State) :
    (returnAtLinkLoss s).pending = s.pending ∧ (returnAtLinkLoss s).life = s.life ∧
      (returnAtLinkLoss s).now = s.now ∧ (returnAtLinkLoss s).start = s.start ∧ (returnAtLinkLoss s).free = s.free ∧
      (returnAtLinkLoss s).build = s.build ∧ (returnAtLinkLoss s).speed = s.speed ∧
      (returnAtLinkLoss s).seq = s.seq ∧ (returnAtLinkLoss s).chan = s.chan ∧ (returnAtLinkLoss s).store = s.store ∧
      (returnAtLinkLoss s).run = s.run ∧ (returnAtLinkLoss s).brake = s.brake ∧
      (returnAtLinkLoss s).fault = s.fault ∧ (returnAtLinkLoss s).power = s.power ∧ (returnAtLinkLoss s).svc = s.svc := by
  unfold returnAtLinkLoss
  refine foldl_keeps (fun (t : State) => t.pending = s.pending ∧ t.life = s.life ∧ t.now = s.now ∧ t.start = s.start ∧ t.free = s.free ∧ t.build = s.build ∧ t.speed = s.speed ∧ t.seq = s.seq ∧ t.chan = s.chan ∧ t.store = s.store ∧ t.run = s.run ∧ t.brake = s.brake ∧ t.fault = s.fault ∧ t.power = s.power ∧ t.svc = s.svc) _ _ _ ?_ ?_
  · simp
  · intro t f hm ht
    have hf : f ≠ .calib := by rintro rfl; simp at hm
    dsimp only
    repeat' split
    all_goals simp_all

@[simp] theorem returnFromService_frame (s : State) :
    (returnFromService s).pending = s.pending ∧ (returnFromService s).life = s.life ∧
      (returnFromService s).now = s.now ∧ (returnFromService s).start = s.start ∧
      (returnFromService s).free = s.free ∧ (returnFromService s).build = s.build ∧
      (returnFromService s).speed = s.speed ∧ (returnFromService s).chan = s.chan ∧
      (returnFromService s).store = s.store ∧ (returnFromService s).brake = s.brake ∧
      (returnFromService s).fault = s.fault ∧ (returnFromService s).power = s.power ∧
      (returnFromService s).link = s.link ∧ (returnFromService s).svc = s.svc ∧
      (returnFromService s).seq.besides = s.seq.besides := by
  unfold returnFromService
  refine foldl_keeps (fun (t : State) => t.pending = s.pending ∧ t.life = s.life ∧ t.now = s.now ∧ t.start = s.start ∧ t.free = s.free ∧ t.build = s.build ∧ t.speed = s.speed ∧ t.chan = s.chan ∧ t.store = s.store ∧ t.brake = s.brake ∧ t.fault = s.fault ∧ t.power = s.power ∧ t.link = s.link ∧ t.svc = s.svc ∧ t.seq.besides = s.seq.besides) _ _ _ ?_ ?_
  · simp
  · intro t f hm ht
    try dsimp only
    repeat' split
    all_goals simp_all

@[simp] theorem State.seize_frame (s : State) (f : Func) (h : Holder) :
    (State.seize s f h).pending = s.pending ∧ (State.seize s f h).life = s.life ∧ (State.seize s f h).now = s.now ∧
      (State.seize s f h).start = s.start ∧ (State.seize s f h).free = s.free ∧ (State.seize s f h).build = s.build ∧
      (State.seize s f h).speed = s.speed ∧ (State.seize s f h).chan = s.chan ∧ (State.seize s f h).store = s.store ∧
      (State.seize s f h).brake = s.brake ∧ (State.seize s f h).fault = s.fault ∧
      (State.seize s f h).power = s.power ∧ (State.seize s f h).svc = s.svc ∧
      (State.seize s f h).seq.besides = s.seq.besides := by
  simp [State.seize]

@[simp] theorem State.seize_frame_run (s : State) (f : Func) (h : Holder) (hf : f ≠ .calib) :
    (State.seize s f h).seq = s.seq ∧ (State.seize s f h).run = s.run := by
  simp [State.seize, hf]

@[simp] theorem State.demand_frame (s : State) (i : Chan) (d : Nat) :
    (State.demand s i d).pending = s.pending ∧ (State.demand s i d).life = s.life ∧
      (State.demand s i d).now = s.now ∧ (State.demand s i d).start = s.start ∧ (State.demand s i d).free = s.free ∧
      (State.demand s i d).build = s.build ∧ (State.demand s i d).speed = s.speed ∧
      (State.demand s i d).auth = s.auth ∧ (State.demand s i d).seq = s.seq ∧ (State.demand s i d).store = s.store ∧
      (State.demand s i d).run = s.run ∧ (State.demand s i d).axle = s.axle ∧ (State.demand s i d).hitch = s.hitch ∧
      (State.demand s i d).brake = s.brake ∧ (State.demand s i d).fault = s.fault ∧
      (State.demand s i d).power = s.power ∧ (State.demand s i d).link = s.link ∧ (State.demand s i d).svc = s.svc := by
  unfold State.demand
  dsimp only
  repeat' split
  all_goals simp

@[simp] theorem State.ruleOnGroup_frame (s : State) (g : Group) :
    (State.ruleOnGroup s g).pending = s.pending ∧ (State.ruleOnGroup s g).life = s.life ∧
      (State.ruleOnGroup s g).now = s.now ∧ (State.ruleOnGroup s g).start = s.start ∧
      (State.ruleOnGroup s g).free = s.free ∧ (State.ruleOnGroup s g).build = s.build ∧
      (State.ruleOnGroup s g).speed = s.speed ∧ (State.ruleOnGroup s g).auth = s.auth ∧
      (State.ruleOnGroup s g).seq = s.seq ∧ (State.ruleOnGroup s g).store = s.store ∧
      (State.ruleOnGroup s g).run = s.run ∧ (State.ruleOnGroup s g).axle = s.axle ∧
      (State.ruleOnGroup s g).hitch = s.hitch ∧ (State.ruleOnGroup s g).brake = s.brake ∧
      (State.ruleOnGroup s g).fault = s.fault ∧ (State.ruleOnGroup s g).power = s.power ∧
      (State.ruleOnGroup s g).link = s.link ∧ (State.ruleOnGroup s g).svc = s.svc := by
  unfold State.ruleOnGroup
  dsimp only
  all_goals simp

@[simp] theorem State.reconvert_frame (s : State) (i : Chan) :
    (State.reconvert s i).pending = s.pending ∧ (State.reconvert s i).life = s.life ∧
      (State.reconvert s i).now = s.now ∧ (State.reconvert s i).start = s.start ∧
      (State.reconvert s i).free = s.free ∧ (State.reconvert s i).build = s.build ∧
      (State.reconvert s i).speed = s.speed ∧ (State.reconvert s i).auth = s.auth ∧
      (State.reconvert s i).seq = s.seq ∧ (State.reconvert s i).store = s.store ∧ (State.reconvert s i).run = s.run ∧
      (State.reconvert s i).axle = s.axle ∧ (State.reconvert s i).hitch = s.hitch ∧
      (State.reconvert s i).brake = s.brake ∧ (State.reconvert s i).fault = s.fault ∧
      (State.reconvert s i).power = s.power ∧ (State.reconvert s i).link = s.link ∧ (State.reconvert s i).svc = s.svc := by
  simp [State.reconvert]

@[simp] theorem State.channelsOff_frame (s : State) :
    (State.channelsOff s).pending = s.pending ∧ (State.channelsOff s).life = s.life ∧
      (State.channelsOff s).now = s.now ∧ (State.channelsOff s).start = s.start ∧
      (State.channelsOff s).free = s.free ∧ (State.channelsOff s).build = s.build ∧
      (State.channelsOff s).speed = s.speed ∧ (State.channelsOff s).auth = s.auth ∧
      (State.channelsOff s).seq = s.seq ∧ (State.channelsOff s).store = s.store ∧ (State.channelsOff s).run = s.run ∧
      (State.channelsOff s).axle = s.axle ∧ (State.channelsOff s).hitch = s.hitch ∧
      (State.channelsOff s).brake = s.brake ∧ (State.channelsOff s).fault = s.fault ∧
      (State.channelsOff s).power = s.power ∧ (State.channelsOff s).link = s.link ∧ (State.channelsOff s).svc = s.svc := by
  unfold State.channelsOff
  dsimp only
  all_goals simp

@[simp] theorem State.engageAxle_frame (s : State) :
    (State.engageAxle s).pending = s.pending ∧ (State.engageAxle s).life = s.life ∧
      (State.engageAxle s).now = s.now ∧ (State.engageAxle s).start = s.start ∧ (State.engageAxle s).free = s.free ∧
      (State.engageAxle s).build = s.build ∧ (State.engageAxle s).speed = s.speed ∧
      (State.engageAxle s).auth = s.auth ∧ (State.engageAxle s).seq = s.seq ∧ (State.engageAxle s).store = s.store ∧
      (State.engageAxle s).run = s.run ∧ (State.engageAxle s).hitch = s.hitch ∧
      (State.engageAxle s).brake = s.brake ∧ (State.engageAxle s).fault = s.fault ∧
      (State.engageAxle s).power = s.power ∧ (State.engageAxle s).link = s.link ∧ (State.engageAxle s).svc = s.svc := by
  unfold State.engageAxle
  dsimp only
  all_goals simp

@[simp] theorem State.faultEngage_frame (s : State) :
    (State.faultEngage s).pending = s.pending ∧ (State.faultEngage s).life = s.life ∧
      (State.faultEngage s).now = s.now ∧ (State.faultEngage s).start = s.start ∧
      (State.faultEngage s).free = s.free ∧ (State.faultEngage s).build = s.build ∧
      (State.faultEngage s).speed = s.speed ∧ (State.faultEngage s).auth = s.auth ∧
      (State.faultEngage s).seq = s.seq ∧ (State.faultEngage s).store = s.store ∧ (State.faultEngage s).run = s.run ∧
      (State.faultEngage s).hitch = s.hitch ∧ (State.faultEngage s).brake = s.brake ∧
      (State.faultEngage s).fault = s.fault ∧ (State.faultEngage s).power = s.power ∧
      (State.faultEngage s).link = s.link ∧ (State.faultEngage s).svc = s.svc := by
  unfold State.faultEngage
  dsimp only
  repeat' split
  all_goals simp

@[simp] theorem State.judgeBrakeEngagement_frame (s : State) :
    (State.judgeBrakeEngagement s).pending = s.pending ∧ (State.judgeBrakeEngagement s).life = s.life ∧
      (State.judgeBrakeEngagement s).now = s.now ∧ (State.judgeBrakeEngagement s).start = s.start ∧
      (State.judgeBrakeEngagement s).free = s.free ∧ (State.judgeBrakeEngagement s).build = s.build ∧
      (State.judgeBrakeEngagement s).speed = s.speed ∧ (State.judgeBrakeEngagement s).auth = s.auth ∧
      (State.judgeBrakeEngagement s).seq = s.seq ∧ (State.judgeBrakeEngagement s).store = s.store ∧
      (State.judgeBrakeEngagement s).run = s.run ∧ (State.judgeBrakeEngagement s).hitch = s.hitch ∧
      (State.judgeBrakeEngagement s).brake = s.brake ∧ (State.judgeBrakeEngagement s).fault = s.fault ∧
      (State.judgeBrakeEngagement s).power = s.power ∧ (State.judgeBrakeEngagement s).link = s.link ∧
      (State.judgeBrakeEngagement s).svc = s.svc := by
  unfold State.judgeBrakeEngagement
  dsimp only
  repeat' split
  all_goals simp

@[simp] theorem State.judgeDrop_frame (s : State) :
    (State.judgeDrop s).pending = s.pending ∧ (State.judgeDrop s).life = s.life ∧ (State.judgeDrop s).now = s.now ∧
      (State.judgeDrop s).start = s.start ∧ (State.judgeDrop s).free = s.free ∧ (State.judgeDrop s).build = s.build ∧
      (State.judgeDrop s).speed = s.speed ∧ (State.judgeDrop s).auth = s.auth ∧ (State.judgeDrop s).seq = s.seq ∧
      (State.judgeDrop s).store = s.store ∧ (State.judgeDrop s).run = s.run ∧ (State.judgeDrop s).hitch = s.hitch ∧
      (State.judgeDrop s).brake = s.brake ∧ (State.judgeDrop s).fault = s.fault ∧
      (State.judgeDrop s).power = s.power ∧ (State.judgeDrop s).link = s.link ∧ (State.judgeDrop s).svc = s.svc := by
  unfold State.judgeDrop
  dsimp only
  repeat' split
  all_goals simp

@[simp] theorem State.axleGateClosed_frame (s : State) :
    (State.axleGateClosed s).pending = s.pending ∧ (State.axleGateClosed s).life = s.life ∧
      (State.axleGateClosed s).now = s.now ∧ (State.axleGateClosed s).start = s.start ∧
      (State.axleGateClosed s).free = s.free ∧ (State.axleGateClosed s).build = s.build ∧
      (State.axleGateClosed s).speed = s.speed ∧ (State.axleGateClosed s).auth = s.auth ∧
      (State.axleGateClosed s).seq = s.seq ∧ (State.axleGateClosed s).store = s.store ∧
      (State.axleGateClosed s).run = s.run ∧ (State.axleGateClosed s).hitch = s.hitch ∧
      (State.axleGateClosed s).brake = s.brake ∧ (State.axleGateClosed s).fault = s.fault ∧
      (State.axleGateClosed s).power = s.power ∧ (State.axleGateClosed s).link = s.link ∧
      (State.axleGateClosed s).svc = s.svc := by
  unfold State.axleGateClosed
  dsimp only
  all_goals simp

@[simp] theorem State.enterLift_frame (s : State) (l : LiftState) :
    (State.enterLift s l).pending = s.pending ∧ (State.enterLift s l).life = s.life ∧
      (State.enterLift s l).now = s.now ∧ (State.enterLift s l).start = s.start ∧
      (State.enterLift s l).free = s.free ∧ (State.enterLift s l).build = s.build ∧
      (State.enterLift s l).speed = s.speed ∧ (State.enterLift s l).auth = s.auth ∧
      (State.enterLift s l).seq = s.seq ∧ (State.enterLift s l).chan = s.chan ∧
      (State.enterLift s l).store = s.store ∧ (State.enterLift s l).run = s.run ∧
      (State.enterLift s l).axle = s.axle ∧ (State.enterLift s l).brake = s.brake ∧
      (State.enterLift s l).fault = s.fault ∧ (State.enterLift s l).power = s.power ∧
      (State.enterLift s l).link = s.link ∧ (State.enterLift s l).svc = s.svc := by
  unfold State.enterLift
  dsimp only
  repeat' split
  all_goals simp

@[simp] theorem State.stopLift_frame (s : State) :
    (State.stopLift s).pending = s.pending ∧ (State.stopLift s).life = s.life ∧ (State.stopLift s).now = s.now ∧
      (State.stopLift s).start = s.start ∧ (State.stopLift s).free = s.free ∧ (State.stopLift s).build = s.build ∧
      (State.stopLift s).speed = s.speed ∧ (State.stopLift s).seq = s.seq ∧ (State.stopLift s).chan = s.chan ∧
      (State.stopLift s).store = s.store ∧ (State.stopLift s).run = s.run ∧ (State.stopLift s).brake = s.brake ∧
      (State.stopLift s).fault = s.fault ∧ (State.stopLift s).power = s.power ∧ (State.stopLift s).link = s.link ∧
      (State.stopLift s).svc = s.svc := by
  unfold State.stopLift
  dsimp only
  repeat' split
  all_goals simp

@[simp] theorem State.hitchStop_frame (s : State) :
    (State.hitchStop s).pending = s.pending ∧ (State.hitchStop s).life = s.life ∧ (State.hitchStop s).now = s.now ∧
      (State.hitchStop s).start = s.start ∧ (State.hitchStop s).free = s.free ∧ (State.hitchStop s).build = s.build ∧
      (State.hitchStop s).speed = s.speed ∧ (State.hitchStop s).seq = s.seq ∧ (State.hitchStop s).store = s.store ∧
      (State.hitchStop s).run = s.run ∧ (State.hitchStop s).brake = s.brake ∧ (State.hitchStop s).fault = s.fault ∧
      (State.hitchStop s).power = s.power ∧ (State.hitchStop s).link = s.link ∧ (State.hitchStop s).svc = s.svc := by
  simp [State.hitchStop]

@[simp] theorem State.trailerGateClosed_frame (s : State) :
    (State.trailerGateClosed s).pending = s.pending ∧ (State.trailerGateClosed s).life = s.life ∧
      (State.trailerGateClosed s).now = s.now ∧ (State.trailerGateClosed s).start = s.start ∧
      (State.trailerGateClosed s).free = s.free ∧ (State.trailerGateClosed s).build = s.build ∧
      (State.trailerGateClosed s).speed = s.speed ∧ (State.trailerGateClosed s).auth = s.auth ∧
      (State.trailerGateClosed s).seq = s.seq ∧ (State.trailerGateClosed s).chan = s.chan ∧
      (State.trailerGateClosed s).store = s.store ∧ (State.trailerGateClosed s).run = s.run ∧
      (State.trailerGateClosed s).axle = s.axle ∧ (State.trailerGateClosed s).hitch = s.hitch ∧
      (State.trailerGateClosed s).fault = s.fault ∧ (State.trailerGateClosed s).power = s.power ∧
      (State.trailerGateClosed s).link = s.link ∧ (State.trailerGateClosed s).svc = s.svc := by
  unfold State.trailerGateClosed
  dsimp only
  repeat' split
  all_goals simp

@[simp] theorem State.removeEntry_frame (s : State) (c : FaultCode) :
    (State.removeEntry s c).pending = s.pending ∧ (State.removeEntry s c).life = s.life ∧
      (State.removeEntry s c).now = s.now ∧ (State.removeEntry s c).start = s.start ∧
      (State.removeEntry s c).free = s.free ∧ (State.removeEntry s c).build = s.build ∧
      (State.removeEntry s c).speed = s.speed ∧ (State.removeEntry s c).auth = s.auth ∧
      (State.removeEntry s c).seq = s.seq ∧ (State.removeEntry s c).chan = s.chan ∧
      (State.removeEntry s c).store = s.store ∧ (State.removeEntry s c).run = s.run ∧
      (State.removeEntry s c).axle = s.axle ∧ (State.removeEntry s c).hitch = s.hitch ∧
      (State.removeEntry s c).brake = s.brake ∧ (State.removeEntry s c).power = s.power ∧
      (State.removeEntry s c).link = s.link ∧ (State.removeEntry s c).svc = s.svc := by
  unfold State.removeEntry
  dsimp only
  all_goals simp

@[simp] theorem State.placeNotice_frame (s : State) (e : FaultEntry) :
    (State.placeNotice s e).pending = s.pending ∧ (State.placeNotice s e).life = s.life ∧
      (State.placeNotice s e).now = s.now ∧ (State.placeNotice s e).start = s.start ∧
      (State.placeNotice s e).free = s.free ∧ (State.placeNotice s e).build = s.build ∧
      (State.placeNotice s e).speed = s.speed ∧ (State.placeNotice s e).auth = s.auth ∧
      (State.placeNotice s e).seq = s.seq ∧ (State.placeNotice s e).chan = s.chan ∧
      (State.placeNotice s e).store = s.store ∧ (State.placeNotice s e).run = s.run ∧
      (State.placeNotice s e).axle = s.axle ∧ (State.placeNotice s e).hitch = s.hitch ∧
      (State.placeNotice s e).brake = s.brake ∧ (State.placeNotice s e).power = s.power ∧
      (State.placeNotice s e).svc = s.svc := by
  unfold State.placeNotice
  dsimp only
  repeat' split
  all_goals simp

@[simp] theorem offerNoticesUpTo_frame (n : Nat) (s : State) :
    (offerNoticesUpTo n s).pending = s.pending ∧ (offerNoticesUpTo n s).life = s.life ∧
      (offerNoticesUpTo n s).now = s.now ∧ (offerNoticesUpTo n s).start = s.start ∧
      (offerNoticesUpTo n s).free = s.free ∧ (offerNoticesUpTo n s).build = s.build ∧
      (offerNoticesUpTo n s).speed = s.speed ∧ (offerNoticesUpTo n s).auth = s.auth ∧
      (offerNoticesUpTo n s).seq = s.seq ∧ (offerNoticesUpTo n s).chan = s.chan ∧
      (offerNoticesUpTo n s).store = s.store ∧ (offerNoticesUpTo n s).run = s.run ∧
      (offerNoticesUpTo n s).axle = s.axle ∧ (offerNoticesUpTo n s).hitch = s.hitch ∧
      (offerNoticesUpTo n s).brake = s.brake ∧ (offerNoticesUpTo n s).power = s.power ∧
      (offerNoticesUpTo n s).svc = s.svc := by
  induction n generalizing s with
  | zero => simp [offerNoticesUpTo]
  | succ n ih =>
    simp only [offerNoticesUpTo]
    repeat' split
    all_goals simp_all

@[simp] theorem State.offerNotices_frame (s : State) :
    (State.offerNotices s).pending = s.pending ∧ (State.offerNotices s).life = s.life ∧
      (State.offerNotices s).now = s.now ∧ (State.offerNotices s).start = s.start ∧
      (State.offerNotices s).free = s.free ∧ (State.offerNotices s).build = s.build ∧
      (State.offerNotices s).speed = s.speed ∧ (State.offerNotices s).auth = s.auth ∧
      (State.offerNotices s).seq = s.seq ∧ (State.offerNotices s).chan = s.chan ∧
      (State.offerNotices s).store = s.store ∧ (State.offerNotices s).run = s.run ∧
      (State.offerNotices s).axle = s.axle ∧ (State.offerNotices s).hitch = s.hitch ∧
      (State.offerNotices s).brake = s.brake ∧ (State.offerNotices s).power = s.power ∧
      (State.offerNotices s).svc = s.svc := by
  simp [State.offerNotices]

@[simp] theorem State.tellClosed_frame (s : State) (g : Group) :
    (State.tellClosed s g).pending = s.pending ∧ (State.tellClosed s g).life = s.life ∧
      (State.tellClosed s g).now = s.now ∧ (State.tellClosed s g).start = s.start ∧
      (State.tellClosed s g).free = s.free ∧ (State.tellClosed s g).build = s.build ∧
      (State.tellClosed s g).speed = s.speed ∧ (State.tellClosed s g).seq = s.seq ∧
      (State.tellClosed s g).store = s.store ∧ (State.tellClosed s g).run = s.run ∧
      (State.tellClosed s g).fault = s.fault ∧ (State.tellClosed s g).power = s.power ∧
      (State.tellClosed s g).link = s.link ∧ (State.tellClosed s g).svc = s.svc := by
  unfold State.tellClosed
  repeat' split
  all_goals simp

@[simp] theorem State.closeGate_frame (s : State) (c : FaultCode) (g : Group) :
    (State.closeGate s c g).pending = s.pending ∧ (State.closeGate s c g).life = s.life ∧
      (State.closeGate s c g).now = s.now ∧ (State.closeGate s c g).start = s.start ∧
      (State.closeGate s c g).free = s.free ∧ (State.closeGate s c g).build = s.build ∧
      (State.closeGate s c g).speed = s.speed ∧ (State.closeGate s c g).seq = s.seq ∧
      (State.closeGate s c g).store = s.store ∧ (State.closeGate s c g).run = s.run ∧
      (State.closeGate s c g).power = s.power ∧ (State.closeGate s c g).link = s.link ∧
      (State.closeGate s c g).svc = s.svc := by
  unfold State.closeGate
  dsimp only
  repeat' split
  all_goals simp

@[simp] theorem State.updateGate_frame (s : State) (f : Closing → Closing) (g : Group) :
    (State.updateGate s f g).pending = s.pending ∧ (State.updateGate s f g).life = s.life ∧
      (State.updateGate s f g).now = s.now ∧ (State.updateGate s f g).start = s.start ∧
      (State.updateGate s f g).free = s.free ∧ (State.updateGate s f g).build = s.build ∧
      (State.updateGate s f g).speed = s.speed ∧ (State.updateGate s f g).auth = s.auth ∧
      (State.updateGate s f g).seq = s.seq ∧ (State.updateGate s f g).store = s.store ∧
      (State.updateGate s f g).run = s.run ∧ (State.updateGate s f g).axle = s.axle ∧
      (State.updateGate s f g).hitch = s.hitch ∧ (State.updateGate s f g).brake = s.brake ∧
      (State.updateGate s f g).power = s.power ∧ (State.updateGate s f g).link = s.link ∧
      (State.updateGate s f g).svc = s.svc := by
  unfold State.updateGate
  dsimp only
  repeat' split
  all_goals simp

@[simp] theorem State.tellRaised_frame (s : State) (c : FaultCode) :
    (State.tellRaised s c).pending = s.pending ∧ (State.tellRaised s c).life = s.life ∧
      (State.tellRaised s c).now = s.now ∧ (State.tellRaised s c).start = s.start ∧
      (State.tellRaised s c).free = s.free ∧ (State.tellRaised s c).build = s.build ∧
      (State.tellRaised s c).speed = s.speed ∧ (State.tellRaised s c).seq = s.seq ∧
      (State.tellRaised s c).store = s.store ∧ (State.tellRaised s c).run = s.run ∧
      (State.tellRaised s c).brake = s.brake ∧ (State.tellRaised s c).fault = s.fault ∧
      (State.tellRaised s c).power = s.power ∧ (State.tellRaised s c).svc = s.svc := by
  unfold State.tellRaised
  repeat' split
  all_goals simp

@[simp] theorem State.raise_frame (s : State) (c : FaultCode) (named : Option Group) :
    (State.raise s c named).pending = s.pending ∧ (State.raise s c named).life = s.life ∧
      (State.raise s c named).now = s.now ∧ (State.raise s c named).start = s.start ∧
      (State.raise s c named).free = s.free ∧ (State.raise s c named).build = s.build ∧
      (State.raise s c named).speed = s.speed ∧ (State.raise s c named).seq = s.seq ∧
      (State.raise s c named).store = s.store ∧ (State.raise s c named).run = s.run ∧
      (State.raise s c named).power = s.power ∧ (State.raise s c named).svc = s.svc := by
  unfold State.raise
  simp only [State.offerNotices_frame, State.tellRaised_frame, true_and, and_true]
  refine foldl_keeps (fun (t : State) => t.pending = s.pending ∧ t.life = s.life ∧ t.now = s.now ∧ t.start = s.start ∧ t.free = s.free ∧ t.build = s.build ∧ t.speed = s.speed ∧ t.seq = s.seq ∧ t.store = s.store ∧ t.run = s.run ∧ t.power = s.power ∧ t.svc = s.svc) _ _ _ ?_ ?_
  · simp
  · intro t g hm ht
    simp_all

@[simp] theorem State.inactive_frame (s : State) (c : FaultCode) :
    (State.inactive s c).pending = s.pending ∧ (State.inactive s c).life = s.life ∧
      (State.inactive s c).now = s.now ∧ (State.inactive s c).start = s.start ∧ (State.inactive s c).free = s.free ∧
      (State.inactive s c).build = s.build ∧ (State.inactive s c).speed = s.speed ∧
      (State.inactive s c).auth = s.auth ∧ (State.inactive s c).seq = s.seq ∧ (State.inactive s c).store = s.store ∧
      (State.inactive s c).run = s.run ∧ (State.inactive s c).axle = s.axle ∧ (State.inactive s c).hitch = s.hitch ∧
      (State.inactive s c).brake = s.brake ∧ (State.inactive s c).power = s.power ∧ (State.inactive s c).svc = s.svc := by
  unfold State.inactive
  simp [allGroups]

@[simp] theorem State.reportInactive_frame (s : State) (c : FaultCode) :
    (State.reportInactive s c).pending = s.pending ∧ (State.reportInactive s c).life = s.life ∧
      (State.reportInactive s c).now = s.now ∧ (State.reportInactive s c).start = s.start ∧
      (State.reportInactive s c).free = s.free ∧ (State.reportInactive s c).build = s.build ∧
      (State.reportInactive s c).speed = s.speed ∧ (State.reportInactive s c).auth = s.auth ∧
      (State.reportInactive s c).seq = s.seq ∧ (State.reportInactive s c).store = s.store ∧
      (State.reportInactive s c).run = s.run ∧ (State.reportInactive s c).axle = s.axle ∧
      (State.reportInactive s c).hitch = s.hitch ∧ (State.reportInactive s c).brake = s.brake ∧
      (State.reportInactive s c).power = s.power ∧ (State.reportInactive s c).svc = s.svc := by
  unfold State.reportInactive
  repeat' split
  all_goals simp

@[simp] theorem State.clearLatch_frame (s : State) :
    (State.clearLatch s).pending = s.pending ∧ (State.clearLatch s).life = s.life ∧
      (State.clearLatch s).now = s.now ∧ (State.clearLatch s).start = s.start ∧ (State.clearLatch s).free = s.free ∧
      (State.clearLatch s).build = s.build ∧ (State.clearLatch s).speed = s.speed ∧
      (State.clearLatch s).auth = s.auth ∧ (State.clearLatch s).seq = s.seq ∧ (State.clearLatch s).store = s.store ∧
      (State.clearLatch s).run = s.run ∧ (State.clearLatch s).axle = s.axle ∧ (State.clearLatch s).hitch = s.hitch ∧
      (State.clearLatch s).power = s.power ∧ (State.clearLatch s).svc = s.svc := by
  unfold State.clearLatch
  dsimp only
  all_goals simp

@[simp] theorem State.tellAcked_frame (s : State) (c : Option FaultCode) :
    (State.tellAcked s c).pending = s.pending ∧ (State.tellAcked s c).life = s.life ∧
      (State.tellAcked s c).now = s.now ∧ (State.tellAcked s c).start = s.start ∧
      (State.tellAcked s c).free = s.free ∧ (State.tellAcked s c).build = s.build ∧
      (State.tellAcked s c).speed = s.speed ∧ (State.tellAcked s c).auth = s.auth ∧
      (State.tellAcked s c).seq = s.seq ∧ (State.tellAcked s c).store = s.store ∧ (State.tellAcked s c).run = s.run ∧
      (State.tellAcked s c).hitch = s.hitch ∧ (State.tellAcked s c).power = s.power ∧
      (State.tellAcked s c).svc = s.svc := by
  unfold State.tellAcked
  dsimp only
  repeat' split
  all_goals simp

@[simp] theorem State.acknowledge_frame (s : State) (c : Option FaultCode) :
    (State.acknowledge s c).pending = s.pending ∧ (State.acknowledge s c).life = s.life ∧
      (State.acknowledge s c).now = s.now ∧ (State.acknowledge s c).start = s.start ∧
      (State.acknowledge s c).free = s.free ∧ (State.acknowledge s c).build = s.build ∧
      (State.acknowledge s c).speed = s.speed ∧ (State.acknowledge s c).auth = s.auth ∧
      (State.acknowledge s c).seq = s.seq ∧ (State.acknowledge s c).store = s.store ∧
      (State.acknowledge s c).run = s.run ∧ (State.acknowledge s c).hitch = s.hitch ∧
      (State.acknowledge s c).power = s.power ∧ (State.acknowledge s c).svc = s.svc := by
  unfold State.acknowledge
  simp [allGroups]

@[simp] theorem takeAck_frame (s : State) :
    (takeAck s).pending = s.pending ∧ (takeAck s).life = s.life ∧ (takeAck s).now = s.now ∧
      (takeAck s).start = s.start ∧ (takeAck s).free = s.free ∧ (takeAck s).build = s.build ∧
      (takeAck s).speed = s.speed ∧ (takeAck s).auth = s.auth ∧ (takeAck s).seq = s.seq ∧
      (takeAck s).store = s.store ∧ (takeAck s).run = s.run ∧ (takeAck s).hitch = s.hitch ∧
      (takeAck s).power = s.power ∧ (takeAck s).svc = s.svc := by
  unfold takeAck
  dsimp only
  repeat' split
  all_goals simp

@[simp] theorem entryRemoval_frame (c : FaultCode) (s : State) :
    (entryRemoval c s).pending = s.pending ∧ (entryRemoval c s).life = s.life ∧ (entryRemoval c s).now = s.now ∧
      (entryRemoval c s).start = s.start ∧ (entryRemoval c s).free = s.free ∧ (entryRemoval c s).build = s.build ∧
      (entryRemoval c s).speed = s.speed ∧ (entryRemoval c s).auth = s.auth ∧ (entryRemoval c s).seq = s.seq ∧
      (entryRemoval c s).chan = s.chan ∧ (entryRemoval c s).store = s.store ∧ (entryRemoval c s).run = s.run ∧
      (entryRemoval c s).axle = s.axle ∧ (entryRemoval c s).hitch = s.hitch ∧ (entryRemoval c s).brake = s.brake ∧
      (entryRemoval c s).power = s.power ∧ (entryRemoval c s).svc = s.svc := by
  unfold entryRemoval
  repeat' split
  all_goals simp

@[simp] theorem receiveEngineReport_frame (data : List Byte) (s : State) :
    (receiveEngineReport data s).pending = s.pending ∧ (receiveEngineReport data s).life = s.life ∧
      (receiveEngineReport data s).now = s.now ∧ (receiveEngineReport data s).start = s.start ∧
      (receiveEngineReport data s).free = s.free ∧ (receiveEngineReport data s).build = s.build ∧
      (receiveEngineReport data s).speed = s.speed ∧ (receiveEngineReport data s).auth = s.auth ∧
      (receiveEngineReport data s).seq = s.seq ∧ (receiveEngineReport data s).chan = s.chan ∧
      (receiveEngineReport data s).store = s.store ∧ (receiveEngineReport data s).run = s.run ∧
      (receiveEngineReport data s).axle = s.axle ∧ (receiveEngineReport data s).hitch = s.hitch ∧
      (receiveEngineReport data s).brake = s.brake ∧ (receiveEngineReport data s).fault = s.fault ∧
      (receiveEngineReport data s).power = s.power ∧ (receiveEngineReport data s).svc = s.svc := by
  unfold receiveEngineReport
  dsimp only
  repeat' split
  all_goals simp

@[simp] theorem receiveDemandA_frame (data : List Byte) (s : State) :
    (receiveDemandA data s).pending = s.pending ∧ (receiveDemandA data s).life = s.life ∧
      (receiveDemandA data s).now = s.now ∧ (receiveDemandA data s).start = s.start ∧
      (receiveDemandA data s).free = s.free ∧ (receiveDemandA data s).build = s.build ∧
      (receiveDemandA data s).speed = s.speed ∧ (receiveDemandA data s).auth = s.auth ∧
      (receiveDemandA data s).seq = s.seq ∧ (receiveDemandA data s).chan = s.chan ∧
      (receiveDemandA data s).store = s.store ∧ (receiveDemandA data s).run = s.run ∧
      (receiveDemandA data s).axle = s.axle ∧ (receiveDemandA data s).hitch = s.hitch ∧
      (receiveDemandA data s).brake = s.brake ∧ (receiveDemandA data s).fault = s.fault ∧
      (receiveDemandA data s).power = s.power ∧ (receiveDemandA data s).svc = s.svc := by
  unfold receiveDemandA
  dsimp only
  repeat' split
  all_goals simp

@[simp] theorem receiveDemandB_frame (data : List Byte) (s : State) :
    (receiveDemandB data s).pending = s.pending ∧ (receiveDemandB data s).life = s.life ∧
      (receiveDemandB data s).now = s.now ∧ (receiveDemandB data s).start = s.start ∧
      (receiveDemandB data s).free = s.free ∧ (receiveDemandB data s).build = s.build ∧
      (receiveDemandB data s).speed = s.speed ∧ (receiveDemandB data s).auth = s.auth ∧
      (receiveDemandB data s).seq = s.seq ∧ (receiveDemandB data s).chan = s.chan ∧
      (receiveDemandB data s).store = s.store ∧ (receiveDemandB data s).run = s.run ∧
      (receiveDemandB data s).axle = s.axle ∧ (receiveDemandB data s).hitch = s.hitch ∧
      (receiveDemandB data s).brake = s.brake ∧ (receiveDemandB data s).fault = s.fault ∧
      (receiveDemandB data s).power = s.power ∧ (receiveDemandB data s).svc = s.svc := by
  unfold receiveDemandB
  dsimp only
  repeat' split
  all_goals simp

@[simp] theorem receiveEvent_frame (l : Link) (ident : Nat) (data : List Byte) (s : State) :
    (receiveEvent l ident data s).pending = s.pending ∧ (receiveEvent l ident data s).life = s.life ∧
      (receiveEvent l ident data s).now = s.now ∧ (receiveEvent l ident data s).start = s.start ∧
      (receiveEvent l ident data s).free = s.free ∧ (receiveEvent l ident data s).build = s.build ∧
      (receiveEvent l ident data s).speed = s.speed ∧ (receiveEvent l ident data s).auth = s.auth ∧
      (receiveEvent l ident data s).seq = s.seq ∧ (receiveEvent l ident data s).chan = s.chan ∧
      (receiveEvent l ident data s).store = s.store ∧ (receiveEvent l ident data s).run = s.run ∧
      (receiveEvent l ident data s).axle = s.axle ∧ (receiveEvent l ident data s).hitch = s.hitch ∧
      (receiveEvent l ident data s).brake = s.brake ∧ (receiveEvent l ident data s).fault = s.fault ∧
      (receiveEvent l ident data s).power = s.power ∧ (receiveEvent l ident data s).svc = s.svc := by
  unfold receiveEvent
  repeat' split
  all_goals simp

@[simp] theorem linkCheck_frame (s : State) :
    (linkCheck s).pending = s.pending ∧ (linkCheck s).life = s.life ∧ (linkCheck s).now = s.now ∧
      (linkCheck s).start = s.start ∧ (linkCheck s).free = s.free ∧ (linkCheck s).build = s.build ∧
      (linkCheck s).speed = s.speed ∧ (linkCheck s).seq = s.seq ∧ (linkCheck s).store = s.store ∧
      (linkCheck s).run = s.run ∧ (linkCheck s).power = s.power ∧ (linkCheck s).svc = s.svc := by
  unfold linkCheck
  dsimp only
  repeat' split
  all_goals simp

@[simp] theorem frameSent_frame (l : Link) (s : State) :
    (frameSent l s).pending = s.pending ∧ (frameSent l s).life = s.life ∧ (frameSent l s).now = s.now ∧
      (frameSent l s).start = s.start ∧ (frameSent l s).free = s.free ∧ (frameSent l s).build = s.build ∧
      (frameSent l s).speed = s.speed ∧ (frameSent l s).auth = s.auth ∧ (frameSent l s).seq = s.seq ∧
      (frameSent l s).chan = s.chan ∧ (frameSent l s).store = s.store ∧ (frameSent l s).run = s.run ∧
      (frameSent l s).axle = s.axle ∧ (frameSent l s).hitch = s.hitch ∧ (frameSent l s).brake = s.brake ∧
      (frameSent l s).power = s.power ∧ (frameSent l s).svc = s.svc := by
  unfold frameSent
  dsimp only
  repeat' split
  all_goals simp

@[simp] theorem reportTimer_frame (s : State) :
    (reportTimer s).pending = s.pending ∧ (reportTimer s).life = s.life ∧ (reportTimer s).now = s.now ∧
      (reportTimer s).start = s.start ∧ (reportTimer s).free = s.free ∧ (reportTimer s).build = s.build ∧
      (reportTimer s).speed = s.speed ∧ (reportTimer s).auth = s.auth ∧ (reportTimer s).seq = s.seq ∧
      (reportTimer s).chan = s.chan ∧ (reportTimer s).store = s.store ∧ (reportTimer s).run = s.run ∧
      (reportTimer s).axle = s.axle ∧ (reportTimer s).hitch = s.hitch ∧ (reportTimer s).brake = s.brake ∧
      (reportTimer s).fault = s.fault ∧ (reportTimer s).power = s.power ∧ (reportTimer s).svc = s.svc := by
  unfold reportTimer
  dsimp only
  repeat' split
  all_goals simp

@[simp] theorem goBusOff_frame (l : Link) (s : State) :
    (goBusOff l s).pending = s.pending ∧ (goBusOff l s).life = s.life ∧ (goBusOff l s).now = s.now ∧
      (goBusOff l s).start = s.start ∧ (goBusOff l s).free = s.free ∧ (goBusOff l s).build = s.build ∧
      (goBusOff l s).speed = s.speed ∧ (goBusOff l s).seq = s.seq ∧ (goBusOff l s).chan = s.chan ∧
      (goBusOff l s).store = s.store ∧ (goBusOff l s).run = s.run ∧ (goBusOff l s).brake = s.brake ∧
      (goBusOff l s).fault = s.fault ∧ (goBusOff l s).power = s.power ∧ (goBusOff l s).svc = s.svc := by
  unfold goBusOff
  dsimp only
  repeat' split
  all_goals simp

@[simp] theorem linkRejoin_frame (l : Link) (s : State) :
    (linkRejoin l s).pending = s.pending ∧ (linkRejoin l s).life = s.life ∧ (linkRejoin l s).now = s.now ∧
      (linkRejoin l s).start = s.start ∧ (linkRejoin l s).free = s.free ∧ (linkRejoin l s).build = s.build ∧
      (linkRejoin l s).speed = s.speed ∧ (linkRejoin l s).auth = s.auth ∧ (linkRejoin l s).seq = s.seq ∧
      (linkRejoin l s).chan = s.chan ∧ (linkRejoin l s).store = s.store ∧ (linkRejoin l s).run = s.run ∧
      (linkRejoin l s).axle = s.axle ∧ (linkRejoin l s).hitch = s.hitch ∧ (linkRejoin l s).brake = s.brake ∧
      (linkRejoin l s).power = s.power ∧ (linkRejoin l s).svc = s.svc := by
  unfold linkRejoin
  dsimp only
  repeat' split
  all_goals simp

@[simp] theorem pickupEdge_frame (p : Pickup) (us : Nat) (s : State) :
    (pickupEdge p us s).pending = s.pending ∧ (pickupEdge p us s).life = s.life ∧ (pickupEdge p us s).now = s.now ∧
      (pickupEdge p us s).start = s.start ∧ (pickupEdge p us s).free = s.free ∧ (pickupEdge p us s).build = s.build ∧
      (pickupEdge p us s).auth = s.auth ∧ (pickupEdge p us s).seq = s.seq ∧ (pickupEdge p us s).chan = s.chan ∧
      (pickupEdge p us s).store = s.store ∧ (pickupEdge p us s).run = s.run ∧ (pickupEdge p us s).axle = s.axle ∧
      (pickupEdge p us s).hitch = s.hitch ∧ (pickupEdge p us s).brake = s.brake ∧
      (pickupEdge p us s).fault = s.fault ∧ (pickupEdge p us s).power = s.power ∧ (pickupEdge p us s).link = s.link ∧
      (pickupEdge p us s).svc = s.svc := by
  unfold pickupEdge
  dsimp only
  repeat' split
  all_goals simp

@[simp] theorem State.report_frame (s : State) (c : FaultCode) (v : Verdict) :
    (State.report s c v).pending = s.pending ∧ (State.report s c v).life = s.life ∧
      (State.report s c v).now = s.now ∧ (State.report s c v).start = s.start ∧ (State.report s c v).free = s.free ∧
      (State.report s c v).build = s.build ∧ (State.report s c v).speed = s.speed ∧
      (State.report s c v).seq = s.seq ∧ (State.report s c v).store = s.store ∧ (State.report s c v).run = s.run ∧
      (State.report s c v).power = s.power ∧ (State.report s c v).svc = s.svc := by
  unfold State.report
  repeat' split
  all_goals simp

@[simp] theorem publishSpeed_frame (s : State) :
    (publishSpeed s).pending = s.pending ∧ (publishSpeed s).life = s.life ∧ (publishSpeed s).now = s.now ∧
      (publishSpeed s).start = s.start ∧ (publishSpeed s).free = s.free ∧ (publishSpeed s).build = s.build ∧
      (publishSpeed s).speed = s.speed ∧ (publishSpeed s).store = s.store ∧ (publishSpeed s).brake = s.brake ∧
      (publishSpeed s).fault = s.fault ∧ (publishSpeed s).power = s.power ∧ (publishSpeed s).link = s.link ∧
      (publishSpeed s).seq.besides = s.seq.besides := by
  unfold publishSpeed
  dsimp only
  repeat' split
  all_goals simp

@[simp] theorem speedSample_frame (pedal : Nat) (s : State) :
    (speedSample pedal s).pending = s.pending ∧ (speedSample pedal s).life = s.life ∧
      (speedSample pedal s).now = s.now ∧ (speedSample pedal s).start = s.start ∧
      (speedSample pedal s).build = s.build ∧ (speedSample pedal s).store = s.store ∧
      (speedSample pedal s).power = s.power ∧ (speedSample pedal s).seq.besides = s.seq.besides := by
  unfold speedSample
  dsimp only
  repeat' split
  all_goals simp

@[simp] theorem monitorStage_frame (volts : Nat) (s : State) :
    (monitorStage volts s).pending = s.pending ∧ (monitorStage volts s).life = s.life ∧
      (monitorStage volts s).now = s.now ∧ (monitorStage volts s).start = s.start ∧
      (monitorStage volts s).free = s.free ∧ (monitorStage volts s).build = s.build ∧
      (monitorStage volts s).speed = s.speed ∧ (monitorStage volts s).seq = s.seq ∧
      (monitorStage volts s).store = s.store ∧ (monitorStage volts s).run = s.run ∧
      (monitorStage volts s).power = s.power ∧ (monitorStage volts s).svc = s.svc := by
  unfold monitorStage
  dsimp only
  repeat' split
  all_goals simp

@[simp] theorem raiseChannel_frame (s : State) (i : Chan) :
    (raiseChannel s i).pending = s.pending ∧ (raiseChannel s i).life = s.life ∧ (raiseChannel s i).now = s.now ∧
      (raiseChannel s i).start = s.start ∧ (raiseChannel s i).free = s.free ∧ (raiseChannel s i).build = s.build ∧
      (raiseChannel s i).speed = s.speed ∧ (raiseChannel s i).seq = s.seq ∧ (raiseChannel s i).store = s.store ∧
      (raiseChannel s i).run = s.run ∧ (raiseChannel s i).power = s.power ∧ (raiseChannel s i).svc = s.svc := by
  unfold raiseChannel
  repeat' split
  all_goals simp

@[simp] theorem currentStage_frame (s : State) :
    (currentStage s).pending = s.pending ∧ (currentStage s).life = s.life ∧ (currentStage s).now = s.now ∧
      (currentStage s).start = s.start ∧ (currentStage s).free = s.free ∧ (currentStage s).build = s.build ∧
      (currentStage s).speed = s.speed ∧ (currentStage s).seq = s.seq ∧ (currentStage s).store = s.store ∧
      (currentStage s).run = s.run ∧ (currentStage s).power = s.power ∧ (currentStage s).svc = s.svc := by
  unfold currentStage
  dsimp only
  split
  · refine foldl_keeps (fun (t : State) => t.pending = s.pending ∧ t.life = s.life ∧ t.now = s.now ∧ t.start = s.start ∧ t.free = s.free ∧ t.build = s.build ∧ t.speed = s.speed ∧ t.seq = s.seq ∧ t.store = s.store ∧ t.run = s.run ∧ t.power = s.power ∧ t.svc = s.svc) _ _ _ ?_ ?_
    · simp
    · intro t i hm ht
      simp_all
  · simp

@[simp] theorem idleStage_frame (s : State) :
    (idleStage s).pending = s.pending ∧ (idleStage s).life = s.life ∧ (idleStage s).now = s.now ∧
      (idleStage s).start = s.start ∧ (idleStage s).free = s.free ∧ (idleStage s).build = s.build ∧
      (idleStage s).speed = s.speed ∧ (idleStage s).auth = s.auth ∧ (idleStage s).seq = s.seq ∧
      (idleStage s).store = s.store ∧ (idleStage s).run = s.run ∧ (idleStage s).axle = s.axle ∧
      (idleStage s).hitch = s.hitch ∧ (idleStage s).brake = s.brake ∧ (idleStage s).power = s.power ∧
      (idleStage s).svc = s.svc := by
  unfold idleStage
  dsimp only
  repeat' split
  all_goals simp

@[simp] theorem channelStep_frame (amps : PerChan Nat) (volts : Nat) (s : State) :
    (channelStep amps volts s).pending = s.pending ∧ (channelStep amps volts s).life = s.life ∧
      (channelStep amps volts s).now = s.now ∧ (channelStep amps volts s).start = s.start ∧
      (channelStep amps volts s).free = s.free ∧ (channelStep amps volts s).build = s.build ∧
      (channelStep amps volts s).speed = s.speed ∧ (channelStep amps volts s).seq = s.seq ∧
      (channelStep amps volts s).store = s.store ∧ (channelStep amps volts s).run = s.run ∧
      (channelStep amps volts s).power = s.power ∧ (channelStep amps volts s).svc = s.svc := by
  unfold channelStep
  dsimp only
  all_goals simp

@[simp] theorem restoreOffsets_frame (w : Write) (s : State) :
    (restoreOffsets w s).pending = s.pending ∧ (restoreOffsets w s).life = s.life ∧
      (restoreOffsets w s).now = s.now ∧ (restoreOffsets w s).start = s.start ∧ (restoreOffsets w s).free = s.free ∧
      (restoreOffsets w s).build = s.build ∧ (restoreOffsets w s).speed = s.speed ∧
      (restoreOffsets w s).auth = s.auth ∧ (restoreOffsets w s).seq = s.seq ∧ (restoreOffsets w s).chan = s.chan ∧
      (restoreOffsets w s).run = s.run ∧ (restoreOffsets w s).axle = s.axle ∧ (restoreOffsets w s).hitch = s.hitch ∧
      (restoreOffsets w s).brake = s.brake ∧ (restoreOffsets w s).fault = s.fault ∧
      (restoreOffsets w s).power = s.power ∧ (restoreOffsets w s).link = s.link ∧ (restoreOffsets w s).svc = s.svc ∧
      (restoreOffsets w s).store.mem = s.store.mem ∧ (restoreOffsets w s).store.queue = s.store.queue := by
  unfold restoreOffsets
  dsimp only
  repeat' split
  all_goals simp

@[simp] theorem endRunOf_frame (w : Write) (reason : Option RunReason) (s : State) :
    (endRunOf w reason s).pending = s.pending ∧ (endRunOf w reason s).life = s.life ∧
      (endRunOf w reason s).now = s.now ∧ (endRunOf w reason s).start = s.start ∧
      (endRunOf w reason s).free = s.free ∧ (endRunOf w reason s).build = s.build ∧
      (endRunOf w reason s).speed = s.speed ∧ (endRunOf w reason s).auth = s.auth ∧
      (endRunOf w reason s).chan = s.chan ∧ (endRunOf w reason s).store = s.store ∧
      (endRunOf w reason s).axle = s.axle ∧ (endRunOf w reason s).hitch = s.hitch ∧
      (endRunOf w reason s).brake = s.brake ∧ (endRunOf w reason s).fault = s.fault ∧
      (endRunOf w reason s).power = s.power ∧ (endRunOf w reason s).link = s.link ∧
      (endRunOf w reason s).svc = s.svc ∧ (endRunOf w reason s).seq.besides = s.seq.besides := by
  unfold endRunOf
  repeat' split
  all_goals simp

@[simp] theorem dropWrite_frame (s : State) :
    (dropWrite s).pending = s.pending ∧ (dropWrite s).life = s.life ∧ (dropWrite s).now = s.now ∧
      (dropWrite s).start = s.start ∧ (dropWrite s).free = s.free ∧ (dropWrite s).build = s.build ∧
      (dropWrite s).speed = s.speed ∧ (dropWrite s).power = s.power ∧ (dropWrite s).svc = s.svc ∧
      (dropWrite s).seq.besides = s.seq.besides ∧ (dropWrite s).store.mem = s.store.mem ∧
      (dropWrite s).store.queue = s.store.queue := by
  unfold dropWrite
  dsimp only
  repeat' split
  all_goals simp

@[simp] theorem applyConversion_frame (k : Key) (s : State) :
    (applyConversion k s).pending = s.pending ∧ (applyConversion k s).life = s.life ∧
      (applyConversion k s).now = s.now ∧ (applyConversion k s).start = s.start ∧
      (applyConversion k s).free = s.free ∧ (applyConversion k s).build = s.build ∧
      (applyConversion k s).speed = s.speed ∧ (applyConversion k s).auth = s.auth ∧
      (applyConversion k s).seq = s.seq ∧ (applyConversion k s).store = s.store ∧ (applyConversion k s).run = s.run ∧
      (applyConversion k s).axle = s.axle ∧ (applyConversion k s).hitch = s.hitch ∧
      (applyConversion k s).brake = s.brake ∧ (applyConversion k s).fault = s.fault ∧
      (applyConversion k s).power = s.power ∧ (applyConversion k s).link = s.link ∧ (applyConversion k s).svc = s.svc := by
  unfold applyConversion
  repeat' split
  all_goals simp

@[simp] theorem endUncalibrated_frame (s : State) :
    (endUncalibrated s).pending = s.pending ∧ (endUncalibrated s).life = s.life ∧ (endUncalibrated s).now = s.now ∧
      (endUncalibrated s).start = s.start ∧ (endUncalibrated s).free = s.free ∧ (endUncalibrated s).build = s.build ∧
      (endUncalibrated s).speed = s.speed ∧ (endUncalibrated s).seq = s.seq ∧ (endUncalibrated s).chan = s.chan ∧
      (endUncalibrated s).store = s.store ∧ (endUncalibrated s).run = s.run ∧ (endUncalibrated s).brake = s.brake ∧
      (endUncalibrated s).fault = s.fault ∧ (endUncalibrated s).power = s.power ∧ (endUncalibrated s).link = s.link ∧
      (endUncalibrated s).svc = s.svc := by
  unfold endUncalibrated
  repeat' split
  all_goals simp

@[simp] theorem completeWrite_frame (seq : Nat) (s : State) :
    (completeWrite seq s).pending = s.pending ∧ (completeWrite seq s).life = s.life ∧
      (completeWrite seq s).now = s.now ∧ (completeWrite seq s).start = s.start ∧
      (completeWrite seq s).free = s.free ∧ (completeWrite seq s).build = s.build ∧
      (completeWrite seq s).speed = s.speed ∧ (completeWrite seq s).brake = s.brake ∧
      (completeWrite seq s).power = s.power ∧ (completeWrite seq s).svc = s.svc ∧
      (completeWrite seq s).seq.besides = s.seq.besides ∧ (completeWrite seq s).store.mem = s.store.mem ∧
      (completeWrite seq s).store.queue = s.store.queue := by
  unfold completeWrite
  dsimp only
  repeat' split
  all_goals simp

@[simp] theorem startWrite_frame (s : State) :
    (startWrite s).pending = s.pending ∧ (startWrite s).life = s.life ∧ (startWrite s).now = s.now ∧
      (startWrite s).start = s.start ∧ (startWrite s).free = s.free ∧ (startWrite s).build = s.build ∧
      (startWrite s).speed = s.speed ∧ (startWrite s).power = s.power ∧ (startWrite s).svc = s.svc ∧
      (startWrite s).seq.besides = s.seq.besides ∧ (startWrite s).store.mem = s.store.mem ∧
      (startWrite s).store.queue = s.store.queue := by
  unfold startWrite
  dsimp only
  repeat' split
  all_goals simp

@[simp] theorem takeNextUpTo_frame (n : Nat) (s : State) :
    (takeNextUpTo n s).pending = s.pending ∧ (takeNextUpTo n s).life = s.life ∧ (takeNextUpTo n s).now = s.now ∧
      (takeNextUpTo n s).start = s.start ∧ (takeNextUpTo n s).free = s.free ∧ (takeNextUpTo n s).build = s.build ∧
      (takeNextUpTo n s).speed = s.speed ∧ (takeNextUpTo n s).power = s.power ∧ (takeNextUpTo n s).svc = s.svc ∧
      (takeNextUpTo n s).seq.besides = s.seq.besides ∧ (takeNextUpTo n s).store.mem = s.store.mem := by
  induction n generalizing s with
  | zero => simp [takeNextUpTo]
  | succ n ih =>
    simp only [takeNextUpTo]
    repeat' split
    all_goals simp_all

@[simp] theorem State.takeNext_frame (s : State) :
    (State.takeNext s).pending = s.pending ∧ (State.takeNext s).life = s.life ∧ (State.takeNext s).now = s.now ∧
      (State.takeNext s).start = s.start ∧ (State.takeNext s).free = s.free ∧ (State.takeNext s).build = s.build ∧
      (State.takeNext s).speed = s.speed ∧ (State.takeNext s).power = s.power ∧ (State.takeNext s).svc = s.svc ∧
      (State.takeNext s).seq.besides = s.seq.besides ∧ (State.takeNext s).store.mem = s.store.mem := by
  simp [State.takeNext]

@[simp] theorem State.handWrite_frame (s : State) (w : Write) :
    (State.handWrite s w).pending = s.pending ∧ (State.handWrite s w).life = s.life ∧
      (State.handWrite s w).now = s.now ∧ (State.handWrite s w).start = s.start ∧
      (State.handWrite s w).free = s.free ∧ (State.handWrite s w).build = s.build ∧
      (State.handWrite s w).speed = s.speed ∧ (State.handWrite s w).power = s.power ∧
      (State.handWrite s w).svc = s.svc ∧ (State.handWrite s w).seq.besides = s.seq.besides ∧
      (State.handWrite s w).store.mem = s.store.mem := by
  rcases w with ⟨r, b⟩
  cases r <;> simp [State.handWrite, StoreState.savedFrom]

@[simp] theorem programSlot_frame (p : Page) (slot : Nat) (meant : List Byte) (rb : ReadBack) (s : State) :
    (programSlot p slot meant rb s).1.pending = s.pending ∧ (programSlot p slot meant rb s).1.life = s.life ∧
      (programSlot p slot meant rb s).1.now = s.now ∧ (programSlot p slot meant rb s).1.start = s.start ∧
      (programSlot p slot meant rb s).1.free = s.free ∧ (programSlot p slot meant rb s).1.build = s.build ∧
      (programSlot p slot meant rb s).1.speed = s.speed ∧ (programSlot p slot meant rb s).1.auth = s.auth ∧
      (programSlot p slot meant rb s).1.seq = s.seq ∧ (programSlot p slot meant rb s).1.chan = s.chan ∧
      (programSlot p slot meant rb s).1.run = s.run ∧ (programSlot p slot meant rb s).1.axle = s.axle ∧
      (programSlot p slot meant rb s).1.hitch = s.hitch ∧ (programSlot p slot meant rb s).1.brake = s.brake ∧
      (programSlot p slot meant rb s).1.fault = s.fault ∧ (programSlot p slot meant rb s).1.power = s.power ∧
      (programSlot p slot meant rb s).1.link = s.link ∧ (programSlot p slot meant rb s).1.svc = s.svc ∧
      (programSlot p slot meant rb s).1.store.queue = s.store.queue := by
  unfold programSlot
  dsimp only
  all_goals simp

@[simp] theorem eraseEnds_frame (p : Page) (rb : ReadBack) (s : State) :
    (eraseEnds p rb s).1.pending = s.pending ∧ (eraseEnds p rb s).1.life = s.life ∧
      (eraseEnds p rb s).1.now = s.now ∧ (eraseEnds p rb s).1.start = s.start ∧ (eraseEnds p rb s).1.free = s.free ∧
      (eraseEnds p rb s).1.build = s.build ∧ (eraseEnds p rb s).1.speed = s.speed ∧
      (eraseEnds p rb s).1.auth = s.auth ∧ (eraseEnds p rb s).1.seq = s.seq ∧ (eraseEnds p rb s).1.chan = s.chan ∧
      (eraseEnds p rb s).1.run = s.run ∧ (eraseEnds p rb s).1.axle = s.axle ∧ (eraseEnds p rb s).1.hitch = s.hitch ∧
      (eraseEnds p rb s).1.brake = s.brake ∧ (eraseEnds p rb s).1.fault = s.fault ∧
      (eraseEnds p rb s).1.power = s.power ∧ (eraseEnds p rb s).1.link = s.link ∧ (eraseEnds p rb s).1.svc = s.svc ∧
      (eraseEnds p rb s).1.store.queue = s.store.queue := by
  unfold eraseEnds
  repeat' split
  all_goals simp

@[simp] theorem abandon_frame (next : Option StoreOp) (s : State) :
    (abandon next s).pending = s.pending ∧ (abandon next s).life = s.life ∧ (abandon next s).now = s.now ∧
      (abandon next s).start = s.start ∧ (abandon next s).free = s.free ∧ (abandon next s).build = s.build ∧
      (abandon next s).speed = s.speed ∧ (abandon next s).power = s.power ∧ (abandon next s).svc = s.svc ∧
      (abandon next s).seq.besides = s.seq.besides ∧ (abandon next s).store.mem = s.store.mem := by
  unfold abandon
  repeat' split
  all_goals simp

@[simp] theorem nextCopy_frame (p : Page) (slot : Nat) (rest : List (CalRecord × Nat)) (s : State) :
    (nextCopy p slot rest s).pending = s.pending ∧ (nextCopy p slot rest s).life = s.life ∧
      (nextCopy p slot rest s).now = s.now ∧ (nextCopy p slot rest s).start = s.start ∧
      (nextCopy p slot rest s).free = s.free ∧ (nextCopy p slot rest s).build = s.build ∧
      (nextCopy p slot rest s).speed = s.speed ∧ (nextCopy p slot rest s).auth = s.auth ∧
      (nextCopy p slot rest s).seq = s.seq ∧ (nextCopy p slot rest s).chan = s.chan ∧
      (nextCopy p slot rest s).run = s.run ∧ (nextCopy p slot rest s).axle = s.axle ∧
      (nextCopy p slot rest s).hitch = s.hitch ∧ (nextCopy p slot rest s).brake = s.brake ∧
      (nextCopy p slot rest s).fault = s.fault ∧ (nextCopy p slot rest s).power = s.power ∧
      (nextCopy p slot rest s).link = s.link ∧ (nextCopy p slot rest s).svc = s.svc ∧
      (nextCopy p slot rest s).store.mem = s.store.mem ∧ (nextCopy p slot rest s).store.queue = s.store.queue := by
  unfold nextCopy
  repeat' split
  all_goals simp

@[simp] theorem slotProgramEnds_frame (rb : ReadBack) (s : State) :
    (slotProgramEnds rb s).pending = s.pending ∧ (slotProgramEnds rb s).life = s.life ∧
      (slotProgramEnds rb s).now = s.now ∧ (slotProgramEnds rb s).start = s.start ∧
      (slotProgramEnds rb s).free = s.free ∧ (slotProgramEnds rb s).build = s.build ∧
      (slotProgramEnds rb s).speed = s.speed ∧ (slotProgramEnds rb s).power = s.power ∧
      (slotProgramEnds rb s).svc = s.svc ∧ (slotProgramEnds rb s).seq.besides = s.seq.besides := by
  unfold slotProgramEnds
  split
  all_goals first
    | (simp; done)
    | (split <;> rename_i t heq <;> simp only [programSlot, Prod.mk.injEq] at heq <;> obtain ⟨rfl, -⟩ := heq <;>
        repeat' split
       all_goals simp)

@[simp] theorem voidSlot_frame (p : Page) (slot : Nat) (s : State) :
    (voidSlot p slot s).pending = s.pending ∧ (voidSlot p slot s).life = s.life ∧ (voidSlot p slot s).now = s.now ∧
      (voidSlot p slot s).start = s.start ∧ (voidSlot p slot s).free = s.free ∧ (voidSlot p slot s).build = s.build ∧
      (voidSlot p slot s).speed = s.speed ∧ (voidSlot p slot s).auth = s.auth ∧ (voidSlot p slot s).seq = s.seq ∧
      (voidSlot p slot s).chan = s.chan ∧ (voidSlot p slot s).run = s.run ∧ (voidSlot p slot s).axle = s.axle ∧
      (voidSlot p slot s).hitch = s.hitch ∧ (voidSlot p slot s).brake = s.brake ∧
      (voidSlot p slot s).fault = s.fault ∧ (voidSlot p slot s).power = s.power ∧ (voidSlot p slot s).link = s.link ∧
      (voidSlot p slot s).svc = s.svc ∧ (voidSlot p slot s).store.queue = s.store.queue := by
  simp [voidSlot]

@[simp] theorem voidProgramEnds_frame (s : State) :
    (voidProgramEnds s).pending = s.pending ∧ (voidProgramEnds s).life = s.life ∧ (voidProgramEnds s).now = s.now ∧
      (voidProgramEnds s).start = s.start ∧ (voidProgramEnds s).free = s.free ∧ (voidProgramEnds s).build = s.build ∧
      (voidProgramEnds s).speed = s.speed ∧ (voidProgramEnds s).power = s.power ∧ (voidProgramEnds s).svc = s.svc ∧
      (voidProgramEnds s).seq.besides = s.seq.besides := by
  unfold voidProgramEnds
  dsimp only
  repeat' split
  all_goals simp

@[simp] theorem formatFails_frame (s : State) :
    (formatFails s).pending = s.pending ∧ (formatFails s).life = s.life ∧ (formatFails s).now = s.now ∧
      (formatFails s).start = s.start ∧ (formatFails s).free = s.free ∧ (formatFails s).build = s.build ∧
      (formatFails s).speed = s.speed ∧ (formatFails s).power = s.power ∧ (formatFails s).svc = s.svc ∧
      (formatFails s).seq.besides = s.seq.besides ∧ (formatFails s).store.mem = s.store.mem := by
  simp [formatFails]

@[simp] theorem pageEraseEnds_frame (rb : ReadBack) (s : State) :
    (pageEraseEnds rb s).pending = s.pending ∧ (pageEraseEnds rb s).life = s.life ∧
      (pageEraseEnds rb s).now = s.now ∧ (pageEraseEnds rb s).start = s.start ∧ (pageEraseEnds rb s).free = s.free ∧
      (pageEraseEnds rb s).build = s.build ∧ (pageEraseEnds rb s).speed = s.speed ∧
      (pageEraseEnds rb s).power = s.power ∧ (pageEraseEnds rb s).svc = s.svc ∧
      (pageEraseEnds rb s).seq.besides = s.seq.besides := by
  unfold pageEraseEnds
  split
  all_goals first
    | (simp; done)
    | (split <;> rename_i t heq <;> have hp := congrArg Prod.fst heq <;> simp only at hp <;> subst hp <;> repeat' split
       all_goals simp)

@[simp] theorem headerProgramEnds_frame (rb : ReadBack) (s : State) :
    (headerProgramEnds rb s).pending = s.pending ∧ (headerProgramEnds rb s).life = s.life ∧
      (headerProgramEnds rb s).now = s.now ∧ (headerProgramEnds rb s).start = s.start ∧
      (headerProgramEnds rb s).free = s.free ∧ (headerProgramEnds rb s).build = s.build ∧
      (headerProgramEnds rb s).speed = s.speed ∧ (headerProgramEnds rb s).power = s.power ∧
      (headerProgramEnds rb s).svc = s.svc ∧ (headerProgramEnds rb s).seq.besides = s.seq.besides := by
  unfold headerProgramEnds
  dsimp only
  split
  all_goals first
    | (simp; done)
    | (split <;> rename_i t heq <;> simp only [programSlot, Prod.mk.injEq] at heq <;> obtain ⟨rfl, -⟩ := heq <;>
        repeat' split
       all_goals simp)

@[simp] theorem handOffset_frame (c : Clutch) (s : State) :
    (handOffset c s).pending = s.pending ∧ (handOffset c s).life = s.life ∧ (handOffset c s).now = s.now ∧
      (handOffset c s).start = s.start ∧ (handOffset c s).free = s.free ∧ (handOffset c s).build = s.build ∧
      (handOffset c s).speed = s.speed ∧ (handOffset c s).power = s.power ∧ (handOffset c s).svc = s.svc ∧
      (handOffset c s).seq.besides = s.seq.besides ∧ (handOffset c s).store.mem = s.store.mem := by
  unfold handOffset
  repeat' split
  all_goals simp

@[simp] theorem handOffsets_frame (s : State) :
    (handOffsets s).pending = s.pending ∧ (handOffsets s).life = s.life ∧ (handOffsets s).now = s.now ∧
      (handOffsets s).start = s.start ∧ (handOffsets s).free = s.free ∧ (handOffsets s).build = s.build ∧
      (handOffsets s).speed = s.speed ∧ (handOffsets s).power = s.power ∧ (handOffsets s).svc = s.svc ∧
      (handOffsets s).seq.besides = s.seq.besides ∧ (handOffsets s).store.mem = s.store.mem := by
  unfold handOffsets
  refine foldl_keeps (fun (t : State) => t.pending = s.pending ∧ t.life = s.life ∧ t.now = s.now ∧ t.start = s.start ∧ t.free = s.free ∧ t.build = s.build ∧ t.speed = s.speed ∧ t.power = s.power ∧ t.svc = s.svc ∧ t.seq.besides = s.seq.besides ∧ t.store.mem = s.store.mem) _ _ _ ?_ ?_
  · simp
  · intro t f hm ht
    try dsimp only
    repeat' split
    all_goals simp_all

@[simp] theorem changeWorking_frame (c : Clutch) (v : Int) (s : State) :
    (changeWorking c v s).pending = s.pending ∧ (changeWorking c v s).life = s.life ∧
      (changeWorking c v s).now = s.now ∧ (changeWorking c v s).start = s.start ∧
      (changeWorking c v s).free = s.free ∧ (changeWorking c v s).build = s.build ∧
      (changeWorking c v s).speed = s.speed ∧ (changeWorking c v s).power = s.power ∧
      (changeWorking c v s).svc = s.svc ∧ (changeWorking c v s).seq.besides = s.seq.besides ∧
      (changeWorking c v s).store.mem = s.store.mem := by
  unfold changeWorking
  dsimp only
  repeat' split
  all_goals simp

@[simp] theorem oilTimer_frame (temp : Int) (s : State) :
    (oilTimer temp s).pending = s.pending ∧ (oilTimer temp s).life = s.life ∧ (oilTimer temp s).now = s.now ∧
      (oilTimer temp s).start = s.start ∧ (oilTimer temp s).free = s.free ∧ (oilTimer temp s).build = s.build ∧
      (oilTimer temp s).speed = s.speed ∧ (oilTimer temp s).seq = s.seq ∧ (oilTimer temp s).run = s.run ∧
      (oilTimer temp s).power = s.power ∧ (oilTimer temp s).svc = s.svc ∧ (oilTimer temp s).store.mem = s.store.mem ∧
      (oilTimer temp s).store.queue = s.store.queue := by
  unfold oilTimer
  dsimp only
  repeat' split
  all_goals simp

@[simp] theorem startWatch_frame (c : Clutch) (fillEnd tin : Nat) (s : State) :
    (startWatch c fillEnd tin s).pending = s.pending ∧ (startWatch c fillEnd tin s).life = s.life ∧
      (startWatch c fillEnd tin s).now = s.now ∧ (startWatch c fillEnd tin s).start = s.start ∧
      (startWatch c fillEnd tin s).free = s.free ∧ (startWatch c fillEnd tin s).build = s.build ∧
      (startWatch c fillEnd tin s).speed = s.speed ∧ (startWatch c fillEnd tin s).auth = s.auth ∧
      (startWatch c fillEnd tin s).seq = s.seq ∧ (startWatch c fillEnd tin s).chan = s.chan ∧
      (startWatch c fillEnd tin s).run = s.run ∧ (startWatch c fillEnd tin s).axle = s.axle ∧
      (startWatch c fillEnd tin s).hitch = s.hitch ∧ (startWatch c fillEnd tin s).brake = s.brake ∧
      (startWatch c fillEnd tin s).fault = s.fault ∧ (startWatch c fillEnd tin s).power = s.power ∧
      (startWatch c fillEnd tin s).link = s.link ∧ (startWatch c fillEnd tin s).svc = s.svc ∧
      (startWatch c fillEnd tin s).store.mem = s.store.mem ∧ (startWatch c fillEnd tin s).store.queue = s.store.queue := by
  simp [startWatch]

@[simp] theorem feedWatch_frame (tin : Nat) (s : State) :
    (feedWatch tin s).pending = s.pending ∧ (feedWatch tin s).life = s.life ∧ (feedWatch tin s).now = s.now ∧
      (feedWatch tin s).start = s.start ∧ (feedWatch tin s).free = s.free ∧ (feedWatch tin s).build = s.build ∧
      (feedWatch tin s).speed = s.speed ∧ (feedWatch tin s).auth = s.auth ∧ (feedWatch tin s).seq = s.seq ∧
      (feedWatch tin s).chan = s.chan ∧ (feedWatch tin s).run = s.run ∧ (feedWatch tin s).axle = s.axle ∧
      (feedWatch tin s).hitch = s.hitch ∧ (feedWatch tin s).brake = s.brake ∧ (feedWatch tin s).fault = s.fault ∧
      (feedWatch tin s).power = s.power ∧ (feedWatch tin s).link = s.link ∧ (feedWatch tin s).svc = s.svc ∧
      (feedWatch tin s).store.mem = s.store.mem ∧ (feedWatch tin s).store.queue = s.store.queue := by
  simp [feedWatch]

@[simp] theorem closeWatch_frame (lock : Bool) (s : State) :
    (closeWatch lock s).pending = s.pending ∧ (closeWatch lock s).life = s.life ∧ (closeWatch lock s).now = s.now ∧
      (closeWatch lock s).start = s.start ∧ (closeWatch lock s).free = s.free ∧ (closeWatch lock s).build = s.build ∧
      (closeWatch lock s).speed = s.speed ∧ (closeWatch lock s).auth = s.auth ∧ (closeWatch lock s).seq = s.seq ∧
      (closeWatch lock s).chan = s.chan ∧ (closeWatch lock s).run = s.run ∧ (closeWatch lock s).axle = s.axle ∧
      (closeWatch lock s).hitch = s.hitch ∧ (closeWatch lock s).brake = s.brake ∧
      (closeWatch lock s).fault = s.fault ∧ (closeWatch lock s).power = s.power ∧ (closeWatch lock s).link = s.link ∧
      (closeWatch lock s).svc = s.svc ∧ (closeWatch lock s).store.mem = s.store.mem ∧
      (closeWatch lock s).store.queue = s.store.queue := by
  simp [closeWatch]

@[simp] theorem adaptationOutcome_frame (eligible : Bool) (s : State) :
    (adaptationOutcome eligible s).pending = s.pending ∧ (adaptationOutcome eligible s).life = s.life ∧
      (adaptationOutcome eligible s).now = s.now ∧ (adaptationOutcome eligible s).start = s.start ∧
      (adaptationOutcome eligible s).free = s.free ∧ (adaptationOutcome eligible s).build = s.build ∧
      (adaptationOutcome eligible s).speed = s.speed ∧ (adaptationOutcome eligible s).power = s.power ∧
      (adaptationOutcome eligible s).svc = s.svc ∧ (adaptationOutcome eligible s).seq.besides = s.seq.besides ∧
      (adaptationOutcome eligible s).store.mem = s.store.mem := by
  unfold adaptationOutcome
  dsimp only
  repeat' split
  all_goals simp

@[simp] theorem beginRun_frame (c : Clutch) (s : State) :
    (beginRun c s).pending = s.pending ∧ (beginRun c s).life = s.life ∧ (beginRun c s).now = s.now ∧
      (beginRun c s).start = s.start ∧ (beginRun c s).free = s.free ∧ (beginRun c s).build = s.build ∧
      (beginRun c s).speed = s.speed ∧ (beginRun c s).auth = s.auth ∧ (beginRun c s).chan = s.chan ∧
      (beginRun c s).store = s.store ∧ (beginRun c s).axle = s.axle ∧ (beginRun c s).hitch = s.hitch ∧
      (beginRun c s).brake = s.brake ∧ (beginRun c s).fault = s.fault ∧ (beginRun c s).power = s.power ∧
      (beginRun c s).link = s.link ∧ (beginRun c s).svc = s.svc := by
  unfold beginRun
  dsimp only
  all_goals simp

@[simp] theorem judgeCalRun_frame (code pedal : Nat) (s : State) :
    (judgeCalRun code pedal s).1.pending = s.pending ∧ (judgeCalRun code pedal s).1.life = s.life ∧
      (judgeCalRun code pedal s).1.now = s.now ∧ (judgeCalRun code pedal s).1.start = s.start ∧
      (judgeCalRun code pedal s).1.free = s.free ∧ (judgeCalRun code pedal s).1.build = s.build ∧
      (judgeCalRun code pedal s).1.speed = s.speed ∧ (judgeCalRun code pedal s).1.auth = s.auth ∧
      (judgeCalRun code pedal s).1.chan = s.chan ∧ (judgeCalRun code pedal s).1.store = s.store ∧
      (judgeCalRun code pedal s).1.axle = s.axle ∧ (judgeCalRun code pedal s).1.hitch = s.hitch ∧
      (judgeCalRun code pedal s).1.brake = s.brake ∧ (judgeCalRun code pedal s).1.fault = s.fault ∧
      (judgeCalRun code pedal s).1.power = s.power ∧ (judgeCalRun code pedal s).1.link = s.link ∧
      (judgeCalRun code pedal s).1.svc = s.svc := by
  unfold judgeCalRun
  repeat' split
  all_goals simp

@[simp] theorem judgeCalAbort_frame (s : State) :
    (judgeCalAbort s).1.pending = s.pending ∧ (judgeCalAbort s).1.life = s.life ∧ (judgeCalAbort s).1.now = s.now ∧
      (judgeCalAbort s).1.start = s.start ∧ (judgeCalAbort s).1.free = s.free ∧ (judgeCalAbort s).1.build = s.build ∧
      (judgeCalAbort s).1.speed = s.speed ∧ (judgeCalAbort s).1.auth = s.auth ∧ (judgeCalAbort s).1.chan = s.chan ∧
      (judgeCalAbort s).1.store = s.store ∧ (judgeCalAbort s).1.axle = s.axle ∧ (judgeCalAbort s).1.hitch = s.hitch ∧
      (judgeCalAbort s).1.brake = s.brake ∧ (judgeCalAbort s).1.fault = s.fault ∧
      (judgeCalAbort s).1.power = s.power ∧ (judgeCalAbort s).1.link = s.link ∧ (judgeCalAbort s).1.svc = s.svc ∧
      (judgeCalAbort s).1.seq.besides = s.seq.besides := by
  unfold judgeCalAbort
  repeat' split
  all_goals simp

@[simp] theorem prepareStep_frame (s : State) :
    (prepareStep s).pending = s.pending ∧ (prepareStep s).life = s.life ∧ (prepareStep s).now = s.now ∧
      (prepareStep s).start = s.start ∧ (prepareStep s).free = s.free ∧ (prepareStep s).build = s.build ∧
      (prepareStep s).speed = s.speed ∧ (prepareStep s).auth = s.auth ∧ (prepareStep s).seq = s.seq ∧
      (prepareStep s).chan = s.chan ∧ (prepareStep s).store = s.store ∧ (prepareStep s).axle = s.axle ∧
      (prepareStep s).hitch = s.hitch ∧ (prepareStep s).brake = s.brake ∧ (prepareStep s).fault = s.fault ∧
      (prepareStep s).power = s.power ∧ (prepareStep s).link = s.link ∧ (prepareStep s).svc = s.svc := by
  unfold prepareStep
  repeat' split
  all_goals simp

@[simp] theorem kissStep_frame (s : State) :
    (kissStep s).pending = s.pending ∧ (kissStep s).life = s.life ∧ (kissStep s).now = s.now ∧
      (kissStep s).start = s.start ∧ (kissStep s).free = s.free ∧ (kissStep s).build = s.build ∧
      (kissStep s).speed = s.speed ∧ (kissStep s).auth = s.auth ∧ (kissStep s).chan = s.chan ∧
      (kissStep s).store = s.store ∧ (kissStep s).axle = s.axle ∧ (kissStep s).hitch = s.hitch ∧
      (kissStep s).brake = s.brake ∧ (kissStep s).fault = s.fault ∧ (kissStep s).power = s.power ∧
      (kissStep s).link = s.link ∧ (kissStep s).svc = s.svc ∧ (kissStep s).seq.besides = s.seq.besides := by
  unfold kissStep
  dsimp only
  repeat' split
  all_goals simp

@[simp] theorem beginPulse_frame (len : Nat) (s : State) :
    (beginPulse len s).pending = s.pending ∧ (beginPulse len s).life = s.life ∧ (beginPulse len s).now = s.now ∧
      (beginPulse len s).start = s.start ∧ (beginPulse len s).free = s.free ∧ (beginPulse len s).build = s.build ∧
      (beginPulse len s).speed = s.speed ∧ (beginPulse len s).auth = s.auth ∧ (beginPulse len s).seq = s.seq ∧
      (beginPulse len s).chan = s.chan ∧ (beginPulse len s).store = s.store ∧ (beginPulse len s).axle = s.axle ∧
      (beginPulse len s).hitch = s.hitch ∧ (beginPulse len s).brake = s.brake ∧ (beginPulse len s).fault = s.fault ∧
      (beginPulse len s).power = s.power ∧ (beginPulse len s).link = s.link ∧ (beginPulse len s).svc = s.svc := by
  simp [beginPulse]

@[simp] theorem enterWrite_frame (c : Clutch) (s : State) :
    (enterWrite c s).pending = s.pending ∧ (enterWrite c s).life = s.life ∧ (enterWrite c s).now = s.now ∧
      (enterWrite c s).start = s.start ∧ (enterWrite c s).free = s.free ∧ (enterWrite c s).build = s.build ∧
      (enterWrite c s).speed = s.speed ∧ (enterWrite c s).power = s.power ∧ (enterWrite c s).svc = s.svc ∧
      (enterWrite c s).store.mem = s.store.mem := by
  unfold enterWrite
  dsimp only
  all_goals simp

@[simp] theorem fillStep_frame (c : Clutch) (s : State) :
    (fillStep c s).pending = s.pending ∧ (fillStep c s).life = s.life ∧ (fillStep c s).now = s.now ∧
      (fillStep c s).start = s.start ∧ (fillStep c s).free = s.free ∧ (fillStep c s).build = s.build ∧
      (fillStep c s).speed = s.speed ∧ (fillStep c s).power = s.power ∧ (fillStep c s).svc = s.svc ∧
      (fillStep c s).store.mem = s.store.mem := by
  unfold fillStep
  dsimp only
  repeat' split
  all_goals simp

@[simp] theorem runStep_frame (pedal : Nat) (s : State) :
    (runStep pedal s).pending = s.pending ∧ (runStep pedal s).life = s.life ∧ (runStep pedal s).now = s.now ∧
      (runStep pedal s).start = s.start ∧ (runStep pedal s).free = s.free ∧ (runStep pedal s).build = s.build ∧
      (runStep pedal s).speed = s.speed ∧ (runStep pedal s).power = s.power ∧ (runStep pedal s).svc = s.svc ∧
      (runStep pedal s).store.mem = s.store.mem := by
  unfold runStep
  repeat' split
  all_goals simp

@[simp] theorem State.fill_frame (s : State) (c : Clutch) :
    (State.fill s c).pending = s.pending ∧ (State.fill s c).life = s.life ∧ (State.fill s c).now = s.now ∧
      (State.fill s c).start = s.start ∧ (State.fill s c).free = s.free ∧ (State.fill s c).build = s.build ∧
      (State.fill s c).speed = s.speed ∧ (State.fill s c).auth = s.auth ∧ (State.fill s c).chan = s.chan ∧
      (State.fill s c).store = s.store ∧ (State.fill s c).run = s.run ∧ (State.fill s c).axle = s.axle ∧
      (State.fill s c).hitch = s.hitch ∧ (State.fill s c).brake = s.brake ∧ (State.fill s c).fault = s.fault ∧
      (State.fill s c).power = s.power ∧ (State.fill s c).link = s.link ∧ (State.fill s c).svc = s.svc := by
  simp [State.fill]

@[simp] theorem State.release_frame (s : State) (c : Clutch) :
    (State.release s c).pending = s.pending ∧ (State.release s c).life = s.life ∧ (State.release s c).now = s.now ∧
      (State.release s c).start = s.start ∧ (State.release s c).free = s.free ∧ (State.release s c).build = s.build ∧
      (State.release s c).speed = s.speed ∧ (State.release s c).auth = s.auth ∧ (State.release s c).chan = s.chan ∧
      (State.release s c).store = s.store ∧ (State.release s c).run = s.run ∧ (State.release s c).axle = s.axle ∧
      (State.release s c).hitch = s.hitch ∧ (State.release s c).brake = s.brake ∧
      (State.release s c).fault = s.fault ∧ (State.release s c).power = s.power ∧ (State.release s c).link = s.link ∧
      (State.release s c).svc = s.svc := by
  simp [State.release]

@[simp] theorem State.applyAt_frame (s : State) (c : Clutch) (p : Nat) :
    (State.applyAt s c p).pending = s.pending ∧ (State.applyAt s c p).life = s.life ∧
      (State.applyAt s c p).now = s.now ∧ (State.applyAt s c p).start = s.start ∧
      (State.applyAt s c p).free = s.free ∧ (State.applyAt s c p).build = s.build ∧
      (State.applyAt s c p).speed = s.speed ∧ (State.applyAt s c p).auth = s.auth ∧
      (State.applyAt s c p).chan = s.chan ∧ (State.applyAt s c p).store = s.store ∧
      (State.applyAt s c p).run = s.run ∧ (State.applyAt s c p).axle = s.axle ∧
      (State.applyAt s c p).hitch = s.hitch ∧ (State.applyAt s c p).brake = s.brake ∧
      (State.applyAt s c p).fault = s.fault ∧ (State.applyAt s c p).power = s.power ∧
      (State.applyAt s c p).link = s.link ∧ (State.applyAt s c p).svc = s.svc := by
  simp [State.applyAt]

@[simp] theorem State.rampAt_frame (s : State) (c : Clutch) (p : Nat) :
    (State.rampAt s c p).pending = s.pending ∧ (State.rampAt s c p).life = s.life ∧
      (State.rampAt s c p).now = s.now ∧ (State.rampAt s c p).start = s.start ∧ (State.rampAt s c p).free = s.free ∧
      (State.rampAt s c p).build = s.build ∧ (State.rampAt s c p).speed = s.speed ∧
      (State.rampAt s c p).auth = s.auth ∧ (State.rampAt s c p).chan = s.chan ∧
      (State.rampAt s c p).store = s.store ∧ (State.rampAt s c p).run = s.run ∧ (State.rampAt s c p).axle = s.axle ∧
      (State.rampAt s c p).hitch = s.hitch ∧ (State.rampAt s c p).brake = s.brake ∧
      (State.rampAt s c p).fault = s.fault ∧ (State.rampAt s c p).power = s.power ∧
      (State.rampAt s c p).link = s.link ∧ (State.rampAt s c p).svc = s.svc := by
  simp [State.rampAt]

@[simp] theorem State.releaseEach_frame (s : State) (l : List Clutch) :
    (State.releaseEach s l).pending = s.pending ∧ (State.releaseEach s l).life = s.life ∧
      (State.releaseEach s l).now = s.now ∧ (State.releaseEach s l).start = s.start ∧
      (State.releaseEach s l).free = s.free ∧ (State.releaseEach s l).build = s.build ∧
      (State.releaseEach s l).speed = s.speed ∧ (State.releaseEach s l).auth = s.auth ∧
      (State.releaseEach s l).chan = s.chan ∧ (State.releaseEach s l).store = s.store ∧
      (State.releaseEach s l).run = s.run ∧ (State.releaseEach s l).axle = s.axle ∧
      (State.releaseEach s l).hitch = s.hitch ∧ (State.releaseEach s l).brake = s.brake ∧
      (State.releaseEach s l).fault = s.fault ∧ (State.releaseEach s l).power = s.power ∧
      (State.releaseEach s l).link = s.link ∧ (State.releaseEach s l).svc = s.svc := by
  unfold State.releaseEach
  refine foldl_keeps (fun (t : State) => t.pending = s.pending ∧ t.life = s.life ∧ t.now = s.now ∧ t.start = s.start ∧ t.free = s.free ∧ t.build = s.build ∧ t.speed = s.speed ∧ t.auth = s.auth ∧ t.chan = s.chan ∧ t.store = s.store ∧ t.run = s.run ∧ t.axle = s.axle ∧ t.hitch = s.hitch ∧ t.brake = s.brake ∧ t.fault = s.fault ∧ t.power = s.power ∧ t.link = s.link ∧ t.svc = s.svc) _ _ _ ?_ ?_
  · simp
  · intro t f hm ht
    try dsimp only
    all_goals simp_all

@[simp] theorem State.fillEach_frame (s : State) (l : List Clutch) :
    (State.fillEach s l).pending = s.pending ∧ (State.fillEach s l).life = s.life ∧
      (State.fillEach s l).now = s.now ∧ (State.fillEach s l).start = s.start ∧ (State.fillEach s l).free = s.free ∧
      (State.fillEach s l).build = s.build ∧ (State.fillEach s l).speed = s.speed ∧
      (State.fillEach s l).auth = s.auth ∧ (State.fillEach s l).chan = s.chan ∧
      (State.fillEach s l).store = s.store ∧ (State.fillEach s l).run = s.run ∧ (State.fillEach s l).axle = s.axle ∧
      (State.fillEach s l).hitch = s.hitch ∧ (State.fillEach s l).brake = s.brake ∧
      (State.fillEach s l).fault = s.fault ∧ (State.fillEach s l).power = s.power ∧
      (State.fillEach s l).link = s.link ∧ (State.fillEach s l).svc = s.svc := by
  unfold State.fillEach
  refine foldl_keeps (fun (t : State) => t.pending = s.pending ∧ t.life = s.life ∧ t.now = s.now ∧ t.start = s.start ∧ t.free = s.free ∧ t.build = s.build ∧ t.speed = s.speed ∧ t.auth = s.auth ∧ t.chan = s.chan ∧ t.store = s.store ∧ t.run = s.run ∧ t.axle = s.axle ∧ t.hitch = s.hitch ∧ t.brake = s.brake ∧ t.fault = s.fault ∧ t.power = s.power ∧ t.link = s.link ∧ t.svc = s.svc) _ _ _ ?_ ?_
  · simp
  · intro t f hm ht
    try dsimp only
    all_goals simp_all

@[simp] theorem State.applyEach_frame (s : State) (l : List Clutch) :
    (State.applyEach s l).pending = s.pending ∧ (State.applyEach s l).life = s.life ∧
      (State.applyEach s l).now = s.now ∧ (State.applyEach s l).start = s.start ∧
      (State.applyEach s l).free = s.free ∧ (State.applyEach s l).build = s.build ∧
      (State.applyEach s l).speed = s.speed ∧ (State.applyEach s l).auth = s.auth ∧
      (State.applyEach s l).chan = s.chan ∧ (State.applyEach s l).store = s.store ∧
      (State.applyEach s l).run = s.run ∧ (State.applyEach s l).axle = s.axle ∧
      (State.applyEach s l).hitch = s.hitch ∧ (State.applyEach s l).brake = s.brake ∧
      (State.applyEach s l).fault = s.fault ∧ (State.applyEach s l).power = s.power ∧
      (State.applyEach s l).link = s.link ∧ (State.applyEach s l).svc = s.svc := by
  unfold State.applyEach
  refine foldl_keeps (fun (t : State) => t.pending = s.pending ∧ t.life = s.life ∧ t.now = s.now ∧ t.start = s.start ∧ t.free = s.free ∧ t.build = s.build ∧ t.speed = s.speed ∧ t.auth = s.auth ∧ t.chan = s.chan ∧ t.store = s.store ∧ t.run = s.run ∧ t.axle = s.axle ∧ t.hitch = s.hitch ∧ t.brake = s.brake ∧ t.fault = s.fault ∧ t.power = s.power ∧ t.link = s.link ∧ t.svc = s.svc) _ _ _ ?_ ?_
  · simp
  · intro t f hm ht
    try dsimp only
    all_goals simp_all

@[simp] theorem State.applyFilled_frame (s : State) (l : List Clutch) :
    (State.applyFilled s l).pending = s.pending ∧ (State.applyFilled s l).life = s.life ∧
      (State.applyFilled s l).now = s.now ∧ (State.applyFilled s l).start = s.start ∧
      (State.applyFilled s l).free = s.free ∧ (State.applyFilled s l).build = s.build ∧
      (State.applyFilled s l).speed = s.speed ∧ (State.applyFilled s l).auth = s.auth ∧
      (State.applyFilled s l).chan = s.chan ∧ (State.applyFilled s l).store = s.store ∧
      (State.applyFilled s l).run = s.run ∧ (State.applyFilled s l).axle = s.axle ∧
      (State.applyFilled s l).hitch = s.hitch ∧ (State.applyFilled s l).brake = s.brake ∧
      (State.applyFilled s l).fault = s.fault ∧ (State.applyFilled s l).power = s.power ∧
      (State.applyFilled s l).link = s.link ∧ (State.applyFilled s l).svc = s.svc := by
  simp [State.applyFilled]

@[simp] theorem ventStage_frame (s : State) :
    (ventStage s).pending = s.pending ∧ (ventStage s).life = s.life ∧ (ventStage s).now = s.now ∧
      (ventStage s).start = s.start ∧ (ventStage s).free = s.free ∧ (ventStage s).build = s.build ∧
      (ventStage s).speed = s.speed ∧ (ventStage s).auth = s.auth ∧ (ventStage s).chan = s.chan ∧
      (ventStage s).store = s.store ∧ (ventStage s).run = s.run ∧ (ventStage s).axle = s.axle ∧
      (ventStage s).hitch = s.hitch ∧ (ventStage s).brake = s.brake ∧ (ventStage s).fault = s.fault ∧
      (ventStage s).power = s.power ∧ (ventStage s).link = s.link ∧ (ventStage s).svc = s.svc := by
  simp [ventStage]

@[simp] theorem beginTorque_frame (s : State) :
    (beginTorque s).pending = s.pending ∧ (beginTorque s).life = s.life ∧ (beginTorque s).now = s.now ∧
      (beginTorque s).start = s.start ∧ (beginTorque s).free = s.free ∧ (beginTorque s).build = s.build ∧
      (beginTorque s).speed = s.speed ∧ (beginTorque s).auth = s.auth ∧ (beginTorque s).chan = s.chan ∧
      (beginTorque s).store = s.store ∧ (beginTorque s).run = s.run ∧ (beginTorque s).axle = s.axle ∧
      (beginTorque s).hitch = s.hitch ∧ (beginTorque s).brake = s.brake ∧ (beginTorque s).fault = s.fault ∧
      (beginTorque s).power = s.power ∧ (beginTorque s).link = s.link ∧ (beginTorque s).svc = s.svc := by
  unfold beginTorque
  dsimp only
  all_goals simp

@[simp] theorem endTorque_frame (s : State) :
    (endTorque s).pending = s.pending ∧ (endTorque s).life = s.life ∧ (endTorque s).now = s.now ∧
      (endTorque s).start = s.start ∧ (endTorque s).free = s.free ∧ (endTorque s).build = s.build ∧
      (endTorque s).speed = s.speed ∧ (endTorque s).auth = s.auth ∧ (endTorque s).chan = s.chan ∧
      (endTorque s).store = s.store ∧ (endTorque s).run = s.run ∧ (endTorque s).axle = s.axle ∧
      (endTorque s).hitch = s.hitch ∧ (endTorque s).brake = s.brake ∧ (endTorque s).fault = s.fault ∧
      (endTorque s).power = s.power ∧ (endTorque s).svc = s.svc := by
  unfold endTorque
  repeat' split
  all_goals simp

@[simp] theorem handshake_frame (s : State) :
    (handshake s).pending = s.pending ∧ (handshake s).life = s.life ∧ (handshake s).now = s.now ∧
      (handshake s).start = s.start ∧ (handshake s).free = s.free ∧ (handshake s).build = s.build ∧
      (handshake s).speed = s.speed ∧ (handshake s).auth = s.auth ∧ (handshake s).chan = s.chan ∧
      (handshake s).store = s.store ∧ (handshake s).run = s.run ∧ (handshake s).axle = s.axle ∧
      (handshake s).hitch = s.hitch ∧ (handshake s).brake = s.brake ∧ (handshake s).fault = s.fault ∧
      (handshake s).power = s.power ∧ (handshake s).link = s.link ∧ (handshake s).svc = s.svc := by
  unfold handshake
  dsimp only
  all_goals simp

@[simp] theorem clearShift_frame (s : State) :
    (clearShift s).pending = s.pending ∧ (clearShift s).life = s.life ∧ (clearShift s).now = s.now ∧
      (clearShift s).start = s.start ∧ (clearShift s).free = s.free ∧ (clearShift s).build = s.build ∧
      (clearShift s).speed = s.speed ∧ (clearShift s).auth = s.auth ∧ (clearShift s).chan = s.chan ∧
      (clearShift s).store = s.store ∧ (clearShift s).run = s.run ∧ (clearShift s).axle = s.axle ∧
      (clearShift s).hitch = s.hitch ∧ (clearShift s).brake = s.brake ∧ (clearShift s).fault = s.fault ∧
      (clearShift s).power = s.power ∧ (clearShift s).svc = s.svc := by
  unfold clearShift
  repeat' split
  all_goals simp

@[simp] theorem endShift_frame (r : ShiftRec) (s : State) :
    (endShift r s).pending = s.pending ∧ (endShift r s).life = s.life ∧ (endShift r s).now = s.now ∧
      (endShift r s).start = s.start ∧ (endShift r s).free = s.free ∧ (endShift r s).build = s.build ∧
      (endShift r s).speed = s.speed ∧ (endShift r s).power = s.power ∧ (endShift r s).svc = s.svc ∧
      (endShift r s).store.mem = s.store.mem := by
  unfold endShift
  dsimp only
  repeat' split
  all_goals simp

@[simp] theorem neutralReaction_frame (s : State) :
    (neutralReaction s).pending = s.pending ∧ (neutralReaction s).life = s.life ∧ (neutralReaction s).now = s.now ∧
      (neutralReaction s).start = s.start ∧ (neutralReaction s).free = s.free ∧ (neutralReaction s).build = s.build ∧
      (neutralReaction s).speed = s.speed ∧ (neutralReaction s).auth = s.auth ∧ (neutralReaction s).chan = s.chan ∧
      (neutralReaction s).store = s.store ∧ (neutralReaction s).run = s.run ∧ (neutralReaction s).axle = s.axle ∧
      (neutralReaction s).hitch = s.hitch ∧ (neutralReaction s).brake = s.brake ∧
      (neutralReaction s).fault = s.fault ∧ (neutralReaction s).power = s.power ∧ (neutralReaction s).svc = s.svc := by
  unfold neutralReaction
  dsimp only
  repeat' split
  all_goals simp

@[simp] theorem neutralStage_frame (s : State) :
    (neutralStage s).pending = s.pending ∧ (neutralStage s).life = s.life ∧ (neutralStage s).now = s.now ∧
      (neutralStage s).start = s.start ∧ (neutralStage s).free = s.free ∧ (neutralStage s).build = s.build ∧
      (neutralStage s).speed = s.speed ∧ (neutralStage s).auth = s.auth ∧ (neutralStage s).chan = s.chan ∧
      (neutralStage s).store = s.store ∧ (neutralStage s).run = s.run ∧ (neutralStage s).axle = s.axle ∧
      (neutralStage s).hitch = s.hitch ∧ (neutralStage s).brake = s.brake ∧ (neutralStage s).fault = s.fault ∧
      (neutralStage s).power = s.power ∧ (neutralStage s).svc = s.svc := by
  unfold neutralStage
  dsimp only
  repeat' split
  all_goals simp

@[simp] theorem neutralStartStage_frame (s : State) :
    (neutralStartStage s).pending = s.pending ∧ (neutralStartStage s).life = s.life ∧
      (neutralStartStage s).now = s.now ∧ (neutralStartStage s).start = s.start ∧
      (neutralStartStage s).free = s.free ∧ (neutralStartStage s).build = s.build ∧
      (neutralStartStage s).speed = s.speed ∧ (neutralStartStage s).auth = s.auth ∧
      (neutralStartStage s).chan = s.chan ∧ (neutralStartStage s).store = s.store ∧
      (neutralStartStage s).run = s.run ∧ (neutralStartStage s).axle = s.axle ∧
      (neutralStartStage s).hitch = s.hitch ∧ (neutralStartStage s).brake = s.brake ∧
      (neutralStartStage s).fault = s.fault ∧ (neutralStartStage s).power = s.power ∧
      (neutralStartStage s).link = s.link ∧ (neutralStartStage s).svc = s.svc := by
  unfold neutralStartStage
  dsimp only
  repeat' split
  all_goals simp

@[simp] theorem swapNow_frame (s : State) (c : Clutch) :
    (swapNow s c).pending = s.pending ∧ (swapNow s c).life = s.life ∧ (swapNow s c).now = s.now ∧
      (swapNow s c).start = s.start ∧ (swapNow s c).free = s.free ∧ (swapNow s c).build = s.build ∧
      (swapNow s c).speed = s.speed ∧ (swapNow s c).auth = s.auth ∧ (swapNow s c).chan = s.chan ∧
      (swapNow s c).store = s.store ∧ (swapNow s c).run = s.run ∧ (swapNow s c).axle = s.axle ∧
      (swapNow s c).hitch = s.hitch ∧ (swapNow s c).brake = s.brake ∧ (swapNow s c).fault = s.fault ∧
      (swapNow s c).power = s.power ∧ (swapNow s c).link = s.link ∧ (swapNow s c).svc = s.svc := by
  unfold swapNow
  repeat' split
  all_goals simp

@[simp] theorem declutch_frame (r : ShiftRec) (s : State) :
    (declutch r s).pending = s.pending ∧ (declutch r s).life = s.life ∧ (declutch r s).now = s.now ∧
      (declutch r s).start = s.start ∧ (declutch r s).free = s.free ∧ (declutch r s).build = s.build ∧
      (declutch r s).speed = s.speed ∧ (declutch r s).auth = s.auth ∧ (declutch r s).chan = s.chan ∧
      (declutch r s).store = s.store ∧ (declutch r s).run = s.run ∧ (declutch r s).axle = s.axle ∧
      (declutch r s).hitch = s.hitch ∧ (declutch r s).brake = s.brake ∧ (declutch r s).fault = s.fault ∧
      (declutch r s).power = s.power ∧ (declutch r s).svc = s.svc := by
  unfold declutch
  have h (u : State) : (fun (t : State) => t.pending = u.pending ∧ t.life = u.life ∧ t.now = u.now ∧ t.start = u.start ∧ t.free = u.free ∧ t.build = u.build ∧ t.speed = u.speed ∧ t.auth = u.auth ∧ t.chan = u.chan ∧ t.store = u.store ∧ t.run = u.run ∧ t.axle = u.axle ∧ t.hitch = u.hitch ∧ t.brake = u.brake ∧ t.fault = u.fault ∧ t.power = u.power ∧ t.svc = u.svc) ((gearClutches r.onComing).foldl swapNow u) := by
    refine foldl_keeps (fun (t : State) => t.pending = u.pending ∧ t.life = u.life ∧ t.now = u.now ∧ t.start = u.start ∧ t.free = u.free ∧ t.build = u.build ∧ t.speed = u.speed ∧ t.auth = u.auth ∧ t.chan = u.chan ∧ t.store = u.store ∧ t.run = u.run ∧ t.axle = u.axle ∧ t.hitch = u.hitch ∧ t.brake = u.brake ∧ t.fault = u.fault ∧ t.power = u.power ∧ t.svc = u.svc) _ _ _ ?_ ?_
    · simp
    · intro t c hm ht
      simp_all
  have h := h ((endTorque s).releaseEach (gearClutches r.offGoing))
  simp_all

@[simp] theorem reengagedStep_frame (c : Clutch) (limit : Nat) (s : State) :
    (reengagedStep c limit s).pending = s.pending ∧ (reengagedStep c limit s).life = s.life ∧
      (reengagedStep c limit s).now = s.now ∧ (reengagedStep c limit s).start = s.start ∧
      (reengagedStep c limit s).free = s.free ∧ (reengagedStep c limit s).build = s.build ∧
      (reengagedStep c limit s).speed = s.speed ∧ (reengagedStep c limit s).auth = s.auth ∧
      (reengagedStep c limit s).chan = s.chan ∧ (reengagedStep c limit s).store = s.store ∧
      (reengagedStep c limit s).run = s.run ∧ (reengagedStep c limit s).axle = s.axle ∧
      (reengagedStep c limit s).hitch = s.hitch ∧ (reengagedStep c limit s).brake = s.brake ∧
      (reengagedStep c limit s).fault = s.fault ∧ (reengagedStep c limit s).power = s.power ∧
      (reengagedStep c limit s).link = s.link ∧ (reengagedStep c limit s).svc = s.svc := by
  unfold reengagedStep
  repeat' split
  all_goals simp

@[simp] theorem pedalDown_frame (s : State) :
    (pedalDown s).pending = s.pending ∧ (pedalDown s).life = s.life ∧ (pedalDown s).now = s.now ∧
      (pedalDown s).start = s.start ∧ (pedalDown s).free = s.free ∧ (pedalDown s).build = s.build ∧
      (pedalDown s).speed = s.speed ∧ (pedalDown s).auth = s.auth ∧ (pedalDown s).chan = s.chan ∧
      (pedalDown s).store = s.store ∧ (pedalDown s).run = s.run ∧ (pedalDown s).axle = s.axle ∧
      (pedalDown s).hitch = s.hitch ∧ (pedalDown s).brake = s.brake ∧ (pedalDown s).fault = s.fault ∧
      (pedalDown s).power = s.power ∧ (pedalDown s).svc = s.svc := by
  unfold pedalDown
  dsimp only
  repeat' split
  all_goals simp

@[simp] theorem pedalUp_frame (pedal : Nat) (s : State) :
    (pedalUp pedal s).pending = s.pending ∧ (pedalUp pedal s).life = s.life ∧ (pedalUp pedal s).now = s.now ∧
      (pedalUp pedal s).start = s.start ∧ (pedalUp pedal s).free = s.free ∧ (pedalUp pedal s).build = s.build ∧
      (pedalUp pedal s).speed = s.speed ∧ (pedalUp pedal s).auth = s.auth ∧ (pedalUp pedal s).chan = s.chan ∧
      (pedalUp pedal s).store = s.store ∧ (pedalUp pedal s).run = s.run ∧ (pedalUp pedal s).axle = s.axle ∧
      (pedalUp pedal s).hitch = s.hitch ∧ (pedalUp pedal s).brake = s.brake ∧ (pedalUp pedal s).fault = s.fault ∧
      (pedalUp pedal s).power = s.power ∧ (pedalUp pedal s).link = s.link ∧ (pedalUp pedal s).svc = s.svc := by
  unfold pedalUp
  dsimp only
  repeat' split
  all_goals simp

@[simp] theorem pedalStage_frame (pedal : Nat) (s : State) :
    (pedalStage pedal s).pending = s.pending ∧ (pedalStage pedal s).life = s.life ∧
      (pedalStage pedal s).now = s.now ∧ (pedalStage pedal s).start = s.start ∧ (pedalStage pedal s).free = s.free ∧
      (pedalStage pedal s).build = s.build ∧ (pedalStage pedal s).speed = s.speed ∧
      (pedalStage pedal s).auth = s.auth ∧ (pedalStage pedal s).chan = s.chan ∧
      (pedalStage pedal s).store = s.store ∧ (pedalStage pedal s).run = s.run ∧ (pedalStage pedal s).axle = s.axle ∧
      (pedalStage pedal s).hitch = s.hitch ∧ (pedalStage pedal s).brake = s.brake ∧
      (pedalStage pedal s).fault = s.fault ∧ (pedalStage pedal s).power = s.power ∧ (pedalStage pedal s).svc = s.svc := by
  unfold pedalStage
  repeat' split
  all_goals simp

@[simp] theorem abortUpshift_frame (r : ShiftRec) (s : State) :
    (abortUpshift r s).pending = s.pending ∧ (abortUpshift r s).life = s.life ∧ (abortUpshift r s).now = s.now ∧
      (abortUpshift r s).start = s.start ∧ (abortUpshift r s).free = s.free ∧ (abortUpshift r s).build = s.build ∧
      (abortUpshift r s).speed = s.speed ∧ (abortUpshift r s).auth = s.auth ∧ (abortUpshift r s).chan = s.chan ∧
      (abortUpshift r s).store = s.store ∧ (abortUpshift r s).run = s.run ∧ (abortUpshift r s).axle = s.axle ∧
      (abortUpshift r s).hitch = s.hitch ∧ (abortUpshift r s).brake = s.brake ∧ (abortUpshift r s).fault = s.fault ∧
      (abortUpshift r s).power = s.power ∧ (abortUpshift r s).svc = s.svc := by
  unfold abortUpshift
  dsimp only
  repeat' split
  all_goals simp

@[simp] theorem inhibitStage_frame (s : State) :
    (inhibitStage s).pending = s.pending ∧ (inhibitStage s).life = s.life ∧ (inhibitStage s).now = s.now ∧
      (inhibitStage s).start = s.start ∧ (inhibitStage s).free = s.free ∧ (inhibitStage s).build = s.build ∧
      (inhibitStage s).speed = s.speed ∧ (inhibitStage s).auth = s.auth ∧ (inhibitStage s).chan = s.chan ∧
      (inhibitStage s).store = s.store ∧ (inhibitStage s).run = s.run ∧ (inhibitStage s).axle = s.axle ∧
      (inhibitStage s).hitch = s.hitch ∧ (inhibitStage s).brake = s.brake ∧ (inhibitStage s).fault = s.fault ∧
      (inhibitStage s).power = s.power ∧ (inhibitStage s).svc = s.svc := by
  unfold inhibitStage
  dsimp only
  repeat' split
  all_goals simp

@[simp] theorem rise_frame (c : Clutch) (r : ShiftRec) (s : State) :
    (rise c r s).pending = s.pending ∧ (rise c r s).life = s.life ∧ (rise c r s).now = s.now ∧
      (rise c r s).start = s.start ∧ (rise c r s).free = s.free ∧ (rise c r s).build = s.build ∧
      (rise c r s).speed = s.speed ∧ (rise c r s).auth = s.auth ∧ (rise c r s).chan = s.chan ∧
      (rise c r s).store = s.store ∧ (rise c r s).run = s.run ∧ (rise c r s).axle = s.axle ∧
      (rise c r s).hitch = s.hitch ∧ (rise c r s).brake = s.brake ∧ (rise c r s).fault = s.fault ∧
      (rise c r s).power = s.power ∧ (rise c r s).link = s.link ∧ (rise c r s).svc = s.svc := by
  unfold rise
  dsimp only
  repeat' split
  all_goals simp

@[simp] theorem enterFinish_frame (s : State) :
    (enterFinish s).pending = s.pending ∧ (enterFinish s).life = s.life ∧ (enterFinish s).now = s.now ∧
      (enterFinish s).start = s.start ∧ (enterFinish s).free = s.free ∧ (enterFinish s).build = s.build ∧
      (enterFinish s).speed = s.speed ∧ (enterFinish s).auth = s.auth ∧ (enterFinish s).chan = s.chan ∧
      (enterFinish s).store = s.store ∧ (enterFinish s).run = s.run ∧ (enterFinish s).axle = s.axle ∧
      (enterFinish s).hitch = s.hitch ∧ (enterFinish s).brake = s.brake ∧ (enterFinish s).fault = s.fault ∧
      (enterFinish s).power = s.power ∧ (enterFinish s).svc = s.svc := by
  simp [enterFinish]

@[simp] theorem State.setPhase_frame (s : State) (p : Phase) :
    (State.setPhase s p).pending = s.pending ∧ (State.setPhase s p).life = s.life ∧
      (State.setPhase s p).now = s.now ∧ (State.setPhase s p).start = s.start ∧ (State.setPhase s p).free = s.free ∧
      (State.setPhase s p).build = s.build ∧ (State.setPhase s p).speed = s.speed ∧
      (State.setPhase s p).auth = s.auth ∧ (State.setPhase s p).chan = s.chan ∧
      (State.setPhase s p).store = s.store ∧ (State.setPhase s p).run = s.run ∧ (State.setPhase s p).axle = s.axle ∧
      (State.setPhase s p).hitch = s.hitch ∧ (State.setPhase s p).brake = s.brake ∧
      (State.setPhase s p).fault = s.fault ∧ (State.setPhase s p).power = s.power ∧
      (State.setPhase s p).link = s.link ∧ (State.setPhase s p).svc = s.svc := by
  simp [State.setPhase]

@[simp] theorem prefillStep_frame (s : State) :
    (prefillStep s).pending = s.pending ∧ (prefillStep s).life = s.life ∧ (prefillStep s).now = s.now ∧
      (prefillStep s).start = s.start ∧ (prefillStep s).free = s.free ∧ (prefillStep s).build = s.build ∧
      (prefillStep s).speed = s.speed ∧ (prefillStep s).auth = s.auth ∧ (prefillStep s).chan = s.chan ∧
      (prefillStep s).run = s.run ∧ (prefillStep s).axle = s.axle ∧ (prefillStep s).hitch = s.hitch ∧
      (prefillStep s).brake = s.brake ∧ (prefillStep s).fault = s.fault ∧ (prefillStep s).power = s.power ∧
      (prefillStep s).link = s.link ∧ (prefillStep s).svc = s.svc ∧ (prefillStep s).store.mem = s.store.mem ∧
      (prefillStep s).store.queue = s.store.queue := by
  unfold prefillStep
  dsimp only
  repeat' split
  all_goals simp

@[simp] theorem overlapStep_frame (r : ShiftRec) (s : State) :
    (overlapStep r s).pending = s.pending ∧ (overlapStep r s).life = s.life ∧ (overlapStep r s).now = s.now ∧
      (overlapStep r s).start = s.start ∧ (overlapStep r s).free = s.free ∧ (overlapStep r s).build = s.build ∧
      (overlapStep r s).speed = s.speed ∧ (overlapStep r s).auth = s.auth ∧ (overlapStep r s).chan = s.chan ∧
      (overlapStep r s).run = s.run ∧ (overlapStep r s).axle = s.axle ∧ (overlapStep r s).hitch = s.hitch ∧
      (overlapStep r s).brake = s.brake ∧ (overlapStep r s).fault = s.fault ∧ (overlapStep r s).power = s.power ∧
      (overlapStep r s).svc = s.svc ∧ (overlapStep r s).store.mem = s.store.mem ∧
      (overlapStep r s).store.queue = s.store.queue := by
  simp only [overlapStep, rampStep]
  repeat' split
  all_goals simp

@[simp] theorem dirDownStep_frame (r : ShiftRec) (s : State) :
    (dirDownStep r s).pending = s.pending ∧ (dirDownStep r s).life = s.life ∧ (dirDownStep r s).now = s.now ∧
      (dirDownStep r s).start = s.start ∧ (dirDownStep r s).free = s.free ∧ (dirDownStep r s).build = s.build ∧
      (dirDownStep r s).speed = s.speed ∧ (dirDownStep r s).auth = s.auth ∧ (dirDownStep r s).chan = s.chan ∧
      (dirDownStep r s).store = s.store ∧ (dirDownStep r s).run = s.run ∧ (dirDownStep r s).axle = s.axle ∧
      (dirDownStep r s).hitch = s.hitch ∧ (dirDownStep r s).brake = s.brake ∧ (dirDownStep r s).fault = s.fault ∧
      (dirDownStep r s).power = s.power ∧ (dirDownStep r s).link = s.link ∧ (dirDownStep r s).svc = s.svc := by
  unfold dirDownStep
  dsimp only
  repeat' split
  all_goals simp

@[simp] theorem enterDirRamp_frame (s : State) :
    (enterDirRamp s).pending = s.pending ∧ (enterDirRamp s).life = s.life ∧ (enterDirRamp s).now = s.now ∧
      (enterDirRamp s).start = s.start ∧ (enterDirRamp s).free = s.free ∧ (enterDirRamp s).build = s.build ∧
      (enterDirRamp s).speed = s.speed ∧ (enterDirRamp s).auth = s.auth ∧ (enterDirRamp s).chan = s.chan ∧
      (enterDirRamp s).store = s.store ∧ (enterDirRamp s).run = s.run ∧ (enterDirRamp s).axle = s.axle ∧
      (enterDirRamp s).hitch = s.hitch ∧ (enterDirRamp s).brake = s.brake ∧ (enterDirRamp s).fault = s.fault ∧
      (enterDirRamp s).power = s.power ∧ (enterDirRamp s).link = s.link ∧ (enterDirRamp s).svc = s.svc := by
  unfold enterDirRamp
  dsimp only
  all_goals simp

@[simp] theorem swapFillStep_frame (r : ShiftRec) (s : State) :
    (swapFillStep r s).pending = s.pending ∧ (swapFillStep r s).life = s.life ∧ (swapFillStep r s).now = s.now ∧
      (swapFillStep r s).start = s.start ∧ (swapFillStep r s).free = s.free ∧ (swapFillStep r s).build = s.build ∧
      (swapFillStep r s).speed = s.speed ∧ (swapFillStep r s).auth = s.auth ∧ (swapFillStep r s).chan = s.chan ∧
      (swapFillStep r s).store = s.store ∧ (swapFillStep r s).run = s.run ∧ (swapFillStep r s).axle = s.axle ∧
      (swapFillStep r s).hitch = s.hitch ∧ (swapFillStep r s).brake = s.brake ∧ (swapFillStep r s).fault = s.fault ∧
      (swapFillStep r s).power = s.power ∧ (swapFillStep r s).link = s.link ∧ (swapFillStep r s).svc = s.svc := by
  unfold swapFillStep
  dsimp only
  repeat' split
  all_goals simp

@[simp] theorem dirRampStep_frame (r : ShiftRec) (s : State) :
    (dirRampStep r s).pending = s.pending ∧ (dirRampStep r s).life = s.life ∧ (dirRampStep r s).now = s.now ∧
      (dirRampStep r s).start = s.start ∧ (dirRampStep r s).free = s.free ∧ (dirRampStep r s).build = s.build ∧
      (dirRampStep r s).speed = s.speed ∧ (dirRampStep r s).auth = s.auth ∧ (dirRampStep r s).chan = s.chan ∧
      (dirRampStep r s).store = s.store ∧ (dirRampStep r s).run = s.run ∧ (dirRampStep r s).axle = s.axle ∧
      (dirRampStep r s).hitch = s.hitch ∧ (dirRampStep r s).brake = s.brake ∧ (dirRampStep r s).fault = s.fault ∧
      (dirRampStep r s).power = s.power ∧ (dirRampStep r s).svc = s.svc := by
  simp only [dirRampStep, rampStep]
  repeat' split
  all_goals simp

@[simp] theorem leaveDirRelease_frame (s : State) :
    (leaveDirRelease s).pending = s.pending ∧ (leaveDirRelease s).life = s.life ∧ (leaveDirRelease s).now = s.now ∧
      (leaveDirRelease s).start = s.start ∧ (leaveDirRelease s).free = s.free ∧ (leaveDirRelease s).build = s.build ∧
      (leaveDirRelease s).speed = s.speed ∧ (leaveDirRelease s).auth = s.auth ∧ (leaveDirRelease s).chan = s.chan ∧
      (leaveDirRelease s).store = s.store ∧ (leaveDirRelease s).run = s.run ∧ (leaveDirRelease s).axle = s.axle ∧
      (leaveDirRelease s).hitch = s.hitch ∧ (leaveDirRelease s).brake = s.brake ∧
      (leaveDirRelease s).fault = s.fault ∧ (leaveDirRelease s).power = s.power ∧ (leaveDirRelease s).link = s.link ∧
      (leaveDirRelease s).svc = s.svc := by
  unfold leaveDirRelease
  repeat' split
  all_goals simp

@[simp] theorem dirReleaseStep_frame (r : ShiftRec) (s : State) :
    (dirReleaseStep r s).pending = s.pending ∧ (dirReleaseStep r s).life = s.life ∧
      (dirReleaseStep r s).now = s.now ∧ (dirReleaseStep r s).start = s.start ∧ (dirReleaseStep r s).free = s.free ∧
      (dirReleaseStep r s).build = s.build ∧ (dirReleaseStep r s).speed = s.speed ∧
      (dirReleaseStep r s).auth = s.auth ∧ (dirReleaseStep r s).chan = s.chan ∧
      (dirReleaseStep r s).store = s.store ∧ (dirReleaseStep r s).run = s.run ∧ (dirReleaseStep r s).axle = s.axle ∧
      (dirReleaseStep r s).hitch = s.hitch ∧ (dirReleaseStep r s).brake = s.brake ∧
      (dirReleaseStep r s).fault = s.fault ∧ (dirReleaseStep r s).power = s.power ∧
      (dirReleaseStep r s).link = s.link ∧ (dirReleaseStep r s).svc = s.svc := by
  simp [dirReleaseStep]

@[simp] theorem leaveReversal_frame (s : State) :
    (leaveReversal s).pending = s.pending ∧ (leaveReversal s).life = s.life ∧ (leaveReversal s).now = s.now ∧
      (leaveReversal s).start = s.start ∧ (leaveReversal s).free = s.free ∧ (leaveReversal s).build = s.build ∧
      (leaveReversal s).speed = s.speed ∧ (leaveReversal s).auth = s.auth ∧ (leaveReversal s).chan = s.chan ∧
      (leaveReversal s).store = s.store ∧ (leaveReversal s).run = s.run ∧ (leaveReversal s).axle = s.axle ∧
      (leaveReversal s).hitch = s.hitch ∧ (leaveReversal s).brake = s.brake ∧ (leaveReversal s).fault = s.fault ∧
      (leaveReversal s).power = s.power ∧ (leaveReversal s).link = s.link ∧ (leaveReversal s).svc = s.svc := by
  unfold leaveReversal
  repeat' split
  all_goals simp

@[simp] theorem dirFillStep_frame (r : ShiftRec) (s : State) :
    (dirFillStep r s).pending = s.pending ∧ (dirFillStep r s).life = s.life ∧ (dirFillStep r s).now = s.now ∧
      (dirFillStep r s).start = s.start ∧ (dirFillStep r s).free = s.free ∧ (dirFillStep r s).build = s.build ∧
      (dirFillStep r s).speed = s.speed ∧ (dirFillStep r s).auth = s.auth ∧ (dirFillStep r s).chan = s.chan ∧
      (dirFillStep r s).store = s.store ∧ (dirFillStep r s).run = s.run ∧ (dirFillStep r s).axle = s.axle ∧
      (dirFillStep r s).hitch = s.hitch ∧ (dirFillStep r s).brake = s.brake ∧ (dirFillStep r s).fault = s.fault ∧
      (dirFillStep r s).power = s.power ∧ (dirFillStep r s).link = s.link ∧ (dirFillStep r s).svc = s.svc := by
  unfold dirFillStep
  dsimp only
  repeat' split
  all_goals simp

@[simp] theorem reversalStep_frame (r : ShiftRec) (s : State) :
    (reversalStep r s).pending = s.pending ∧ (reversalStep r s).life = s.life ∧ (reversalStep r s).now = s.now ∧
      (reversalStep r s).start = s.start ∧ (reversalStep r s).free = s.free ∧ (reversalStep r s).build = s.build ∧
      (reversalStep r s).speed = s.speed ∧ (reversalStep r s).auth = s.auth ∧ (reversalStep r s).chan = s.chan ∧
      (reversalStep r s).store = s.store ∧ (reversalStep r s).run = s.run ∧ (reversalStep r s).axle = s.axle ∧
      (reversalStep r s).hitch = s.hitch ∧ (reversalStep r s).brake = s.brake ∧ (reversalStep r s).fault = s.fault ∧
      (reversalStep r s).power = s.power ∧ (reversalStep r s).link = s.link ∧ (reversalStep r s).svc = s.svc := by
  simp [reversalStep]

@[simp] theorem finishStep_frame (r : ShiftRec) (s : State) :
    (finishStep r s).pending = s.pending ∧ (finishStep r s).life = s.life ∧ (finishStep r s).now = s.now ∧
      (finishStep r s).start = s.start ∧ (finishStep r s).free = s.free ∧ (finishStep r s).build = s.build ∧
      (finishStep r s).speed = s.speed ∧ (finishStep r s).power = s.power ∧ (finishStep r s).svc = s.svc ∧
      (finishStep r s).store.mem = s.store.mem := by
  unfold finishStep
  dsimp only
  repeat' split
  all_goals simp

@[simp] theorem timeoutShift_frame (pedal : Nat) (r : ShiftRec) (s : State) :
    (timeoutShift pedal r s).pending = s.pending ∧ (timeoutShift pedal r s).life = s.life ∧
      (timeoutShift pedal r s).now = s.now ∧ (timeoutShift pedal r s).start = s.start ∧
      (timeoutShift pedal r s).free = s.free ∧ (timeoutShift pedal r s).build = s.build ∧
      (timeoutShift pedal r s).speed = s.speed ∧ (timeoutShift pedal r s).store = s.store ∧
      (timeoutShift pedal r s).run = s.run ∧ (timeoutShift pedal r s).power = s.power ∧
      (timeoutShift pedal r s).svc = s.svc := by
  unfold timeoutShift
  dsimp only
  repeat' split
  all_goals simp

@[simp] theorem timeoutStage_frame (pedal : Nat) (s : State) :
    (timeoutStage pedal s).pending = s.pending ∧ (timeoutStage pedal s).life = s.life ∧
      (timeoutStage pedal s).now = s.now ∧ (timeoutStage pedal s).start = s.start ∧
      (timeoutStage pedal s).free = s.free ∧ (timeoutStage pedal s).build = s.build ∧
      (timeoutStage pedal s).speed = s.speed ∧ (timeoutStage pedal s).store = s.store ∧
      (timeoutStage pedal s).run = s.run ∧ (timeoutStage pedal s).power = s.power ∧ (timeoutStage pedal s).svc = s.svc := by
  unfold timeoutStage
  repeat' split
  all_goals simp

@[simp] theorem phaseStep_frame (r : ShiftRec) (s : State) :
    (phaseStep r s).pending = s.pending ∧ (phaseStep r s).life = s.life ∧ (phaseStep r s).now = s.now ∧
      (phaseStep r s).start = s.start ∧ (phaseStep r s).free = s.free ∧ (phaseStep r s).build = s.build ∧
      (phaseStep r s).speed = s.speed ∧ (phaseStep r s).power = s.power ∧ (phaseStep r s).svc = s.svc ∧
      (phaseStep r s).store.mem = s.store.mem := by
  unfold phaseStep
  repeat' split
  all_goals simp

@[simp] theorem progressStage_frame (pedal : Nat) (s : State) :
    (progressStage pedal s).pending = s.pending ∧ (progressStage pedal s).life = s.life ∧
      (progressStage pedal s).now = s.now ∧ (progressStage pedal s).start = s.start ∧
      (progressStage pedal s).free = s.free ∧ (progressStage pedal s).build = s.build ∧
      (progressStage pedal s).speed = s.speed ∧ (progressStage pedal s).power = s.power ∧
      (progressStage pedal s).svc = s.svc ∧ (progressStage pedal s).store.mem = s.store.mem := by
  unfold progressStage
  dsimp only
  repeat' split
  all_goals simp

@[simp] theorem firstPhase_frame (r : ShiftRec) (s : State) :
    (firstPhase r s).pending = s.pending ∧ (firstPhase r s).life = s.life ∧ (firstPhase r s).now = s.now ∧
      (firstPhase r s).start = s.start ∧ (firstPhase r s).free = s.free ∧ (firstPhase r s).build = s.build ∧
      (firstPhase r s).speed = s.speed ∧ (firstPhase r s).auth = s.auth ∧ (firstPhase r s).chan = s.chan ∧
      (firstPhase r s).store = s.store ∧ (firstPhase r s).run = s.run ∧ (firstPhase r s).axle = s.axle ∧
      (firstPhase r s).hitch = s.hitch ∧ (firstPhase r s).brake = s.brake ∧ (firstPhase r s).fault = s.fault ∧
      (firstPhase r s).power = s.power ∧ (firstPhase r s).link = s.link ∧ (firstPhase r s).svc = s.svc := by
  unfold firstPhase
  dsimp only
  repeat' split
  all_goals simp

@[simp] theorem startShift_frame (pedal : Nat) (s : State) :
    (startShift pedal s).pending = s.pending ∧ (startShift pedal s).life = s.life ∧
      (startShift pedal s).now = s.now ∧ (startShift pedal s).start = s.start ∧ (startShift pedal s).free = s.free ∧
      (startShift pedal s).build = s.build ∧ (startShift pedal s).speed = s.speed ∧
      (startShift pedal s).auth = s.auth ∧ (startShift pedal s).chan = s.chan ∧
      (startShift pedal s).store = s.store ∧ (startShift pedal s).run = s.run ∧ (startShift pedal s).axle = s.axle ∧
      (startShift pedal s).hitch = s.hitch ∧ (startShift pedal s).brake = s.brake ∧
      (startShift pedal s).fault = s.fault ∧ (startShift pedal s).power = s.power ∧ (startShift pedal s).svc = s.svc := by
  unfold startShift
  dsimp only
  repeat' split
  all_goals simp

@[simp] theorem startStage_frame (pedal : Nat) (had : Bool) (s : State) :
    (startStage pedal had s).pending = s.pending ∧ (startStage pedal had s).life = s.life ∧
      (startStage pedal had s).now = s.now ∧ (startStage pedal had s).start = s.start ∧
      (startStage pedal had s).free = s.free ∧ (startStage pedal had s).build = s.build ∧
      (startStage pedal had s).speed = s.speed ∧ (startStage pedal had s).auth = s.auth ∧
      (startStage pedal had s).chan = s.chan ∧ (startStage pedal had s).store = s.store ∧
      (startStage pedal had s).run = s.run ∧ (startStage pedal had s).axle = s.axle ∧
      (startStage pedal had s).hitch = s.hitch ∧ (startStage pedal had s).brake = s.brake ∧
      (startStage pedal had s).fault = s.fault ∧ (startStage pedal had s).power = s.power ∧
      (startStage pedal had s).svc = s.svc := by
  unfold startStage
  repeat' split
  all_goals simp

@[simp] theorem autoInputs_frame (s : State) :
    (autoInputs s).pending = s.pending ∧ (autoInputs s).life = s.life ∧ (autoInputs s).now = s.now ∧
      (autoInputs s).start = s.start ∧ (autoInputs s).free = s.free ∧ (autoInputs s).build = s.build ∧
      (autoInputs s).speed = s.speed ∧ (autoInputs s).auth = s.auth ∧ (autoInputs s).chan = s.chan ∧
      (autoInputs s).store = s.store ∧ (autoInputs s).run = s.run ∧ (autoInputs s).axle = s.axle ∧
      (autoInputs s).hitch = s.hitch ∧ (autoInputs s).brake = s.brake ∧ (autoInputs s).fault = s.fault ∧
      (autoInputs s).power = s.power ∧ (autoInputs s).link = s.link ∧ (autoInputs s).svc = s.svc := by
  unfold autoInputs
  dsimp only
  repeat' split
  all_goals simp

@[simp] theorem autoTarget_frame (n : Nat) (s : State) :
    (autoTarget n s).pending = s.pending ∧ (autoTarget n s).life = s.life ∧ (autoTarget n s).now = s.now ∧
      (autoTarget n s).start = s.start ∧ (autoTarget n s).free = s.free ∧ (autoTarget n s).build = s.build ∧
      (autoTarget n s).speed = s.speed ∧ (autoTarget n s).auth = s.auth ∧ (autoTarget n s).chan = s.chan ∧
      (autoTarget n s).store = s.store ∧ (autoTarget n s).run = s.run ∧ (autoTarget n s).axle = s.axle ∧
      (autoTarget n s).hitch = s.hitch ∧ (autoTarget n s).brake = s.brake ∧ (autoTarget n s).fault = s.fault ∧
      (autoTarget n s).power = s.power ∧ (autoTarget n s).link = s.link ∧ (autoTarget n s).svc = s.svc := by
  unfold autoTarget
  dsimp only
  all_goals simp

@[simp] theorem spanStep_frame (s : State) :
    (spanStep s).pending = s.pending ∧ (spanStep s).life = s.life ∧ (spanStep s).now = s.now ∧
      (spanStep s).start = s.start ∧ (spanStep s).free = s.free ∧ (spanStep s).build = s.build ∧
      (spanStep s).speed = s.speed ∧ (spanStep s).auth = s.auth ∧ (spanStep s).chan = s.chan ∧
      (spanStep s).store = s.store ∧ (spanStep s).run = s.run ∧ (spanStep s).axle = s.axle ∧
      (spanStep s).hitch = s.hitch ∧ (spanStep s).brake = s.brake ∧ (spanStep s).fault = s.fault ∧
      (spanStep s).power = s.power ∧ (spanStep s).link = s.link ∧ (spanStep s).svc = s.svc := by
  unfold spanStep
  dsimp only
  repeat' split
  all_goals simp

@[simp] theorem upStep_frame (s : State) :
    (upStep s).pending = s.pending ∧ (upStep s).life = s.life ∧ (upStep s).now = s.now ∧ (upStep s).start = s.start ∧
      (upStep s).free = s.free ∧ (upStep s).build = s.build ∧ (upStep s).speed = s.speed ∧ (upStep s).auth = s.auth ∧
      (upStep s).chan = s.chan ∧ (upStep s).store = s.store ∧ (upStep s).run = s.run ∧ (upStep s).axle = s.axle ∧
      (upStep s).hitch = s.hitch ∧ (upStep s).brake = s.brake ∧ (upStep s).fault = s.fault ∧
      (upStep s).power = s.power ∧ (upStep s).link = s.link ∧ (upStep s).svc = s.svc := by
  unfold upStep
  dsimp only
  repeat' split
  all_goals simp

@[simp] theorem downStep_frame (s : State) :
    (downStep s).pending = s.pending ∧ (downStep s).life = s.life ∧ (downStep s).now = s.now ∧
      (downStep s).start = s.start ∧ (downStep s).free = s.free ∧ (downStep s).build = s.build ∧
      (downStep s).speed = s.speed ∧ (downStep s).auth = s.auth ∧ (downStep s).chan = s.chan ∧
      (downStep s).store = s.store ∧ (downStep s).run = s.run ∧ (downStep s).axle = s.axle ∧
      (downStep s).hitch = s.hitch ∧ (downStep s).brake = s.brake ∧ (downStep s).fault = s.fault ∧
      (downStep s).power = s.power ∧ (downStep s).link = s.link ∧ (downStep s).svc = s.svc := by
  unfold downStep
  dsimp only
  repeat' split
  all_goals simp

@[simp] theorem choiceStep_frame (s : State) :
    (choiceStep s).pending = s.pending ∧ (choiceStep s).life = s.life ∧ (choiceStep s).now = s.now ∧
      (choiceStep s).start = s.start ∧ (choiceStep s).free = s.free ∧ (choiceStep s).build = s.build ∧
      (choiceStep s).speed = s.speed ∧ (choiceStep s).auth = s.auth ∧ (choiceStep s).chan = s.chan ∧
      (choiceStep s).store = s.store ∧ (choiceStep s).run = s.run ∧ (choiceStep s).axle = s.axle ∧
      (choiceStep s).hitch = s.hitch ∧ (choiceStep s).brake = s.brake ∧ (choiceStep s).fault = s.fault ∧
      (choiceStep s).power = s.power ∧ (choiceStep s).link = s.link ∧ (choiceStep s).svc = s.svc := by
  unfold choiceStep
  dsimp only
  repeat' split
  all_goals simp

@[simp] theorem autoStage_frame (pedal : Nat) (s : State) :
    (autoStage pedal s).pending = s.pending ∧ (autoStage pedal s).life = s.life ∧ (autoStage pedal s).now = s.now ∧
      (autoStage pedal s).start = s.start ∧ (autoStage pedal s).free = s.free ∧ (autoStage pedal s).build = s.build ∧
      (autoStage pedal s).speed = s.speed ∧ (autoStage pedal s).auth = s.auth ∧ (autoStage pedal s).chan = s.chan ∧
      (autoStage pedal s).store = s.store ∧ (autoStage pedal s).run = s.run ∧ (autoStage pedal s).axle = s.axle ∧
      (autoStage pedal s).hitch = s.hitch ∧ (autoStage pedal s).brake = s.brake ∧
      (autoStage pedal s).fault = s.fault ∧ (autoStage pedal s).power = s.power ∧ (autoStage pedal s).link = s.link ∧
      (autoStage pedal s).svc = s.svc := by
  unfold autoStage
  dsimp only
  repeat' split
  all_goals simp

@[simp] theorem slipStage_frame (pedal : Nat) (s : State) :
    (slipStage pedal s).pending = s.pending ∧ (slipStage pedal s).life = s.life ∧ (slipStage pedal s).now = s.now ∧
      (slipStage pedal s).start = s.start ∧ (slipStage pedal s).free = s.free ∧ (slipStage pedal s).build = s.build ∧
      (slipStage pedal s).speed = s.speed ∧ (slipStage pedal s).store = s.store ∧ (slipStage pedal s).run = s.run ∧
      (slipStage pedal s).power = s.power ∧ (slipStage pedal s).svc = s.svc := by
  unfold slipStage
  dsimp only
  repeat' split
  all_goals simp

@[simp] theorem draftStage_frame (s : State) :
    (draftStage s).pending = s.pending ∧ (draftStage s).life = s.life ∧ (draftStage s).now = s.now ∧
      (draftStage s).start = s.start ∧ (draftStage s).free = s.free ∧ (draftStage s).build = s.build ∧
      (draftStage s).speed = s.speed ∧ (draftStage s).auth = s.auth ∧ (draftStage s).chan = s.chan ∧
      (draftStage s).store = s.store ∧ (draftStage s).run = s.run ∧ (draftStage s).axle = s.axle ∧
      (draftStage s).hitch = s.hitch ∧ (draftStage s).brake = s.brake ∧ (draftStage s).fault = s.fault ∧
      (draftStage s).power = s.power ∧ (draftStage s).link = s.link ∧ (draftStage s).svc = s.svc := by
  unfold draftStage
  repeat' split
  all_goals simp

@[simp] theorem torqueStage_frame (s : State) :
    (torqueStage s).pending = s.pending ∧ (torqueStage s).life = s.life ∧ (torqueStage s).now = s.now ∧
      (torqueStage s).start = s.start ∧ (torqueStage s).free = s.free ∧ (torqueStage s).build = s.build ∧
      (torqueStage s).speed = s.speed ∧ (torqueStage s).auth = s.auth ∧ (torqueStage s).chan = s.chan ∧
      (torqueStage s).store = s.store ∧ (torqueStage s).run = s.run ∧ (torqueStage s).axle = s.axle ∧
      (torqueStage s).hitch = s.hitch ∧ (torqueStage s).brake = s.brake ∧ (torqueStage s).fault = s.fault ∧
      (torqueStage s).power = s.power ∧ (torqueStage s).svc = s.svc := by
  unfold torqueStage
  repeat' split
  all_goals simp

@[simp] theorem runOverride_frame (pedal : Nat) (s : State) :
    (runOverride pedal s).pending = s.pending ∧ (runOverride pedal s).life = s.life ∧
      (runOverride pedal s).now = s.now ∧ (runOverride pedal s).start = s.start ∧
      (runOverride pedal s).free = s.free ∧ (runOverride pedal s).build = s.build ∧
      (runOverride pedal s).speed = s.speed ∧ (runOverride pedal s).auth = s.auth ∧
      (runOverride pedal s).chan = s.chan ∧ (runOverride pedal s).store = s.store ∧
      (runOverride pedal s).run = s.run ∧ (runOverride pedal s).axle = s.axle ∧
      (runOverride pedal s).hitch = s.hitch ∧ (runOverride pedal s).brake = s.brake ∧
      (runOverride pedal s).fault = s.fault ∧ (runOverride pedal s).power = s.power ∧
      (runOverride pedal s).link = s.link ∧ (runOverride pedal s).svc = s.svc := by
  unfold runOverride
  repeat' split
  · simp
  · refine foldl_keeps (fun (t : State) => t.pending = s.pending ∧ t.life = s.life ∧ t.now = s.now ∧ t.start = s.start ∧ t.free = s.free ∧ t.build = s.build ∧ t.speed = s.speed ∧ t.auth = s.auth ∧ t.chan = s.chan ∧ t.store = s.store ∧ t.run = s.run ∧ t.axle = s.axle ∧ t.hitch = s.hitch ∧ t.brake = s.brake ∧ t.fault = s.fault ∧ t.power = s.power ∧ t.link = s.link ∧ t.svc = s.svc) _ _ _ ?_ ?_
    · simp
    · intro t c hm ht
      simp_all
  · simp

@[simp] theorem preselectStage_frame (s : State) :
    (preselectStage s).pending = s.pending ∧ (preselectStage s).life = s.life ∧ (preselectStage s).now = s.now ∧
      (preselectStage s).start = s.start ∧ (preselectStage s).free = s.free ∧ (preselectStage s).build = s.build ∧
      (preselectStage s).speed = s.speed ∧ (preselectStage s).auth = s.auth ∧ (preselectStage s).chan = s.chan ∧
      (preselectStage s).store = s.store ∧ (preselectStage s).run = s.run ∧ (preselectStage s).axle = s.axle ∧
      (preselectStage s).hitch = s.hitch ∧ (preselectStage s).brake = s.brake ∧ (preselectStage s).fault = s.fault ∧
      (preselectStage s).power = s.power ∧ (preselectStage s).link = s.link ∧ (preselectStage s).svc = s.svc := by
  unfold preselectStage
  split <;> simp

/-- After the stage a preselect stands only beside a speed or range clutch that is APPLIED (R37). -/
theorem preselectStage_applied (s : State) (h : (preselectStage s).seq.preselect ≠ none) :
    ∃ c, isDirClutch c = false ∧ ((preselectStage s).seq.clutches.get c).state = .applied := by
  unfold preselectStage at h ⊢
  split at h
  · rename_i any
    obtain ⟨c, hc, ha⟩ := List.any_eq_true.mp any
    exact ⟨c, by simpa [gearClutches] using (List.mem_filter.mp hc).2, by rw [if_pos any]; exact of_decide_eq_true ha⟩
  · exact absurd rfl h

@[simp] theorem commandStage_frame (pedal : Nat) (s : State) :
    (commandStage pedal s).pending = s.pending ∧ (commandStage pedal s).life = s.life ∧
      (commandStage pedal s).now = s.now ∧ (commandStage pedal s).start = s.start ∧
      (commandStage pedal s).free = s.free ∧ (commandStage pedal s).build = s.build ∧
      (commandStage pedal s).speed = s.speed ∧ (commandStage pedal s).auth = s.auth ∧
      (commandStage pedal s).chan = s.chan ∧ (commandStage pedal s).store = s.store ∧
      (commandStage pedal s).run = s.run ∧ (commandStage pedal s).axle = s.axle ∧
      (commandStage pedal s).hitch = s.hitch ∧ (commandStage pedal s).brake = s.brake ∧
      (commandStage pedal s).fault = s.fault ∧ (commandStage pedal s).power = s.power ∧
      (commandStage pedal s).link = s.link ∧ (commandStage pedal s).svc = s.svc := by
  simp [commandStage]

@[simp] theorem demandClutches_frame (s : State) :
    (demandClutches s).pending = s.pending ∧ (demandClutches s).life = s.life ∧ (demandClutches s).now = s.now ∧
      (demandClutches s).start = s.start ∧ (demandClutches s).free = s.free ∧ (demandClutches s).build = s.build ∧
      (demandClutches s).speed = s.speed ∧ (demandClutches s).auth = s.auth ∧ (demandClutches s).seq = s.seq ∧
      (demandClutches s).store = s.store ∧ (demandClutches s).run = s.run ∧ (demandClutches s).axle = s.axle ∧
      (demandClutches s).hitch = s.hitch ∧ (demandClutches s).brake = s.brake ∧ (demandClutches s).fault = s.fault ∧
      (demandClutches s).power = s.power ∧ (demandClutches s).link = s.link ∧ (demandClutches s).svc = s.svc := by
  unfold demandClutches
  refine foldl_keeps (fun (t : State) => t.pending = s.pending ∧ t.life = s.life ∧ t.now = s.now ∧ t.start = s.start ∧ t.free = s.free ∧ t.build = s.build ∧ t.speed = s.speed ∧ t.auth = s.auth ∧ t.seq = s.seq ∧ t.store = s.store ∧ t.run = s.run ∧ t.axle = s.axle ∧ t.hitch = s.hitch ∧ t.brake = s.brake ∧ t.fault = s.fault ∧ t.power = s.power ∧ t.link = s.link ∧ t.svc = s.svc) _ _ _ ?_ ?_
  · simp
  · intro t f hm ht
    try dsimp only
    all_goals simp_all

@[simp] theorem publishGear_frame (s : State) :
    (publishGear s).pending = s.pending ∧ (publishGear s).life = s.life ∧ (publishGear s).now = s.now ∧
      (publishGear s).start = s.start ∧ (publishGear s).free = s.free ∧ (publishGear s).build = s.build ∧
      (publishGear s).speed = s.speed ∧ (publishGear s).auth = s.auth ∧ (publishGear s).chan = s.chan ∧
      (publishGear s).store = s.store ∧ (publishGear s).run = s.run ∧ (publishGear s).axle = s.axle ∧
      (publishGear s).hitch = s.hitch ∧ (publishGear s).brake = s.brake ∧ (publishGear s).fault = s.fault ∧
      (publishGear s).power = s.power ∧ (publishGear s).link = s.link ∧ (publishGear s).svc = s.svc := by
  simp [publishGear]

@[simp] theorem shiftStep_frame (pedal : Nat) (s : State) :
    (shiftStep pedal s).pending = s.pending ∧ (shiftStep pedal s).life = s.life ∧ (shiftStep pedal s).now = s.now ∧
      (shiftStep pedal s).start = s.start ∧ (shiftStep pedal s).free = s.free ∧ (shiftStep pedal s).build = s.build ∧
      (shiftStep pedal s).speed = s.speed ∧ (shiftStep pedal s).power = s.power ∧ (shiftStep pedal s).svc = s.svc ∧
      (shiftStep pedal s).store.mem = s.store.mem := by
  unfold shiftStep
  dsimp only
  all_goals simp

@[simp] theorem refuseGear_frame (command : Nat) (r : Reason) (s : State) :
    (refuseGear command r s).pending = s.pending ∧ (refuseGear command r s).life = s.life ∧
      (refuseGear command r s).now = s.now ∧ (refuseGear command r s).start = s.start ∧
      (refuseGear command r s).free = s.free ∧ (refuseGear command r s).build = s.build ∧
      (refuseGear command r s).speed = s.speed ∧ (refuseGear command r s).auth = s.auth ∧
      (refuseGear command r s).seq = s.seq ∧ (refuseGear command r s).chan = s.chan ∧
      (refuseGear command r s).store = s.store ∧ (refuseGear command r s).run = s.run ∧
      (refuseGear command r s).axle = s.axle ∧ (refuseGear command r s).hitch = s.hitch ∧
      (refuseGear command r s).brake = s.brake ∧ (refuseGear command r s).fault = s.fault ∧
      (refuseGear command r s).power = s.power ∧ (refuseGear command r s).svc = s.svc := by
  simp [refuseGear]

@[simp] theorem applyTap_frame (up : Bool) (s : State) :
    (applyTap up s).pending = s.pending ∧ (applyTap up s).life = s.life ∧ (applyTap up s).now = s.now ∧
      (applyTap up s).start = s.start ∧ (applyTap up s).free = s.free ∧ (applyTap up s).build = s.build ∧
      (applyTap up s).speed = s.speed ∧ (applyTap up s).auth = s.auth ∧ (applyTap up s).chan = s.chan ∧
      (applyTap up s).store = s.store ∧ (applyTap up s).run = s.run ∧ (applyTap up s).axle = s.axle ∧
      (applyTap up s).hitch = s.hitch ∧ (applyTap up s).brake = s.brake ∧ (applyTap up s).fault = s.fault ∧
      (applyTap up s).power = s.power ∧ (applyTap up s).link = s.link ∧ (applyTap up s).svc = s.svc := by
  unfold applyTap
  dsimp only
  repeat' split
  all_goals simp

@[simp] theorem judgeTap_frame (up : Bool) (s : State) :
    (judgeTap up s).pending = s.pending ∧ (judgeTap up s).life = s.life ∧ (judgeTap up s).now = s.now ∧
      (judgeTap up s).start = s.start ∧ (judgeTap up s).free = s.free ∧ (judgeTap up s).build = s.build ∧
      (judgeTap up s).speed = s.speed ∧ (judgeTap up s).chan = s.chan ∧ (judgeTap up s).store = s.store ∧
      (judgeTap up s).run = s.run ∧ (judgeTap up s).brake = s.brake ∧ (judgeTap up s).fault = s.fault ∧
      (judgeTap up s).power = s.power ∧ (judgeTap up s).svc = s.svc := by
  unfold judgeTap
  dsimp only
  repeat' split
  all_goals simp

@[simp] theorem takeGearUp_frame (s : State) :
    (takeGearUp s).pending = s.pending ∧ (takeGearUp s).life = s.life ∧ (takeGearUp s).now = s.now ∧
      (takeGearUp s).start = s.start ∧ (takeGearUp s).free = s.free ∧ (takeGearUp s).build = s.build ∧
      (takeGearUp s).speed = s.speed ∧ (takeGearUp s).chan = s.chan ∧ (takeGearUp s).store = s.store ∧
      (takeGearUp s).run = s.run ∧ (takeGearUp s).brake = s.brake ∧ (takeGearUp s).fault = s.fault ∧
      (takeGearUp s).power = s.power ∧ (takeGearUp s).svc = s.svc := by
  unfold takeGearUp
  repeat' split
  all_goals simp

@[simp] theorem takeGearDown_frame (s : State) :
    (takeGearDown s).pending = s.pending ∧ (takeGearDown s).life = s.life ∧ (takeGearDown s).now = s.now ∧
      (takeGearDown s).start = s.start ∧ (takeGearDown s).free = s.free ∧ (takeGearDown s).build = s.build ∧
      (takeGearDown s).speed = s.speed ∧ (takeGearDown s).chan = s.chan ∧ (takeGearDown s).store = s.store ∧
      (takeGearDown s).run = s.run ∧ (takeGearDown s).brake = s.brake ∧ (takeGearDown s).fault = s.fault ∧
      (takeGearDown s).power = s.power ∧ (takeGearDown s).svc = s.svc := by
  unfold takeGearDown
  repeat' split
  all_goals simp

@[simp] theorem takeNeutral_frame (s : State) :
    (takeNeutral s).pending = s.pending ∧ (takeNeutral s).life = s.life ∧ (takeNeutral s).now = s.now ∧
      (takeNeutral s).start = s.start ∧ (takeNeutral s).free = s.free ∧ (takeNeutral s).build = s.build ∧
      (takeNeutral s).speed = s.speed ∧ (takeNeutral s).auth = s.auth ∧ (takeNeutral s).chan = s.chan ∧
      (takeNeutral s).store = s.store ∧ (takeNeutral s).run = s.run ∧ (takeNeutral s).axle = s.axle ∧
      (takeNeutral s).hitch = s.hitch ∧ (takeNeutral s).brake = s.brake ∧ (takeNeutral s).fault = s.fault ∧
      (takeNeutral s).power = s.power ∧ (takeNeutral s).link = s.link ∧ (takeNeutral s).svc = s.svc := by
  unfold takeNeutral
  repeat' split
  all_goals simp

@[simp] theorem judgeTravel_frame (d : Dir) (s : State) :
    (judgeTravel d s).pending = s.pending ∧ (judgeTravel d s).life = s.life ∧ (judgeTravel d s).now = s.now ∧
      (judgeTravel d s).start = s.start ∧ (judgeTravel d s).free = s.free ∧ (judgeTravel d s).build = s.build ∧
      (judgeTravel d s).speed = s.speed ∧ (judgeTravel d s).auth = s.auth ∧ (judgeTravel d s).chan = s.chan ∧
      (judgeTravel d s).store = s.store ∧ (judgeTravel d s).run = s.run ∧ (judgeTravel d s).axle = s.axle ∧
      (judgeTravel d s).hitch = s.hitch ∧ (judgeTravel d s).brake = s.brake ∧ (judgeTravel d s).fault = s.fault ∧
      (judgeTravel d s).power = s.power ∧ (judgeTravel d s).svc = s.svc := by
  unfold judgeTravel
  dsimp only
  repeat' split
  all_goals simp

@[simp] theorem judgeDirection_frame (d : DirRequest) (s : State) :
    (judgeDirection d s).pending = s.pending ∧ (judgeDirection d s).life = s.life ∧
      (judgeDirection d s).now = s.now ∧ (judgeDirection d s).start = s.start ∧ (judgeDirection d s).free = s.free ∧
      (judgeDirection d s).build = s.build ∧ (judgeDirection d s).speed = s.speed ∧
      (judgeDirection d s).chan = s.chan ∧ (judgeDirection d s).store = s.store ∧ (judgeDirection d s).run = s.run ∧
      (judgeDirection d s).brake = s.brake ∧ (judgeDirection d s).fault = s.fault ∧
      (judgeDirection d s).power = s.power ∧ (judgeDirection d s).svc = s.svc := by
  unfold judgeDirection
  dsimp only
  repeat' split
  all_goals simp

@[simp] theorem takeDirection_frame (s : State) :
    (takeDirection s).pending = s.pending ∧ (takeDirection s).life = s.life ∧ (takeDirection s).now = s.now ∧
      (takeDirection s).start = s.start ∧ (takeDirection s).free = s.free ∧ (takeDirection s).build = s.build ∧
      (takeDirection s).speed = s.speed ∧ (takeDirection s).chan = s.chan ∧ (takeDirection s).store = s.store ∧
      (takeDirection s).run = s.run ∧ (takeDirection s).brake = s.brake ∧ (takeDirection s).fault = s.fault ∧
      (takeDirection s).power = s.power ∧ (takeDirection s).svc = s.svc := by
  unfold takeDirection
  repeat' split
  all_goals simp

@[simp] theorem judgeImplSpeed_frame (v : Nat) (s : State) :
    (judgeImplSpeed v s).pending = s.pending ∧ (judgeImplSpeed v s).life = s.life ∧
      (judgeImplSpeed v s).now = s.now ∧ (judgeImplSpeed v s).start = s.start ∧ (judgeImplSpeed v s).free = s.free ∧
      (judgeImplSpeed v s).build = s.build ∧ (judgeImplSpeed v s).speed = s.speed ∧
      (judgeImplSpeed v s).chan = s.chan ∧ (judgeImplSpeed v s).store = s.store ∧ (judgeImplSpeed v s).run = s.run ∧
      (judgeImplSpeed v s).axle = s.axle ∧ (judgeImplSpeed v s).hitch = s.hitch ∧
      (judgeImplSpeed v s).brake = s.brake ∧ (judgeImplSpeed v s).fault = s.fault ∧
      (judgeImplSpeed v s).power = s.power ∧ (judgeImplSpeed v s).svc = s.svc := by
  unfold judgeImplSpeed
  dsimp only
  repeat' split
  all_goals simp

@[simp] theorem takeImplSpeed_frame (s : State) :
    (takeImplSpeed s).pending = s.pending ∧ (takeImplSpeed s).life = s.life ∧ (takeImplSpeed s).now = s.now ∧
      (takeImplSpeed s).start = s.start ∧ (takeImplSpeed s).free = s.free ∧ (takeImplSpeed s).build = s.build ∧
      (takeImplSpeed s).speed = s.speed ∧ (takeImplSpeed s).chan = s.chan ∧ (takeImplSpeed s).store = s.store ∧
      (takeImplSpeed s).run = s.run ∧ (takeImplSpeed s).axle = s.axle ∧ (takeImplSpeed s).hitch = s.hitch ∧
      (takeImplSpeed s).brake = s.brake ∧ (takeImplSpeed s).fault = s.fault ∧ (takeImplSpeed s).power = s.power ∧
      (takeImplSpeed s).svc = s.svc := by
  unfold takeImplSpeed
  repeat' split
  all_goals simp

@[simp] theorem modesStage_frame (s : State) :
    (modesStage s).pending = s.pending ∧ (modesStage s).life = s.life ∧ (modesStage s).now = s.now ∧
      (modesStage s).start = s.start ∧ (modesStage s).free = s.free ∧ (modesStage s).build = s.build ∧
      (modesStage s).speed = s.speed ∧ (modesStage s).auth = s.auth ∧ (modesStage s).seq = s.seq ∧
      (modesStage s).chan = s.chan ∧ (modesStage s).store = s.store ∧ (modesStage s).run = s.run ∧
      (modesStage s).hitch = s.hitch ∧ (modesStage s).brake = s.brake ∧ (modesStage s).fault = s.fault ∧
      (modesStage s).power = s.power ∧ (modesStage s).link = s.link ∧ (modesStage s).svc = s.svc := by
  unfold modesStage
  dsimp only
  repeat' split
  all_goals simp

@[simp] theorem engagementStage_frame (s : State) :
    (engagementStage s).pending = s.pending ∧ (engagementStage s).life = s.life ∧ (engagementStage s).now = s.now ∧
      (engagementStage s).start = s.start ∧ (engagementStage s).free = s.free ∧ (engagementStage s).build = s.build ∧
      (engagementStage s).speed = s.speed ∧ (engagementStage s).auth = s.auth ∧ (engagementStage s).seq = s.seq ∧
      (engagementStage s).store = s.store ∧ (engagementStage s).run = s.run ∧ (engagementStage s).hitch = s.hitch ∧
      (engagementStage s).brake = s.brake ∧ (engagementStage s).fault = s.fault ∧
      (engagementStage s).power = s.power ∧ (engagementStage s).link = s.link ∧ (engagementStage s).svc = s.svc := by
  unfold engagementStage
  dsimp only
  all_goals simp

@[simp] theorem appliedStage_frame (s : State) :
    (appliedStage s).pending = s.pending ∧ (appliedStage s).life = s.life ∧ (appliedStage s).now = s.now ∧
      (appliedStage s).start = s.start ∧ (appliedStage s).free = s.free ∧ (appliedStage s).build = s.build ∧
      (appliedStage s).speed = s.speed ∧ (appliedStage s).auth = s.auth ∧ (appliedStage s).seq = s.seq ∧
      (appliedStage s).chan = s.chan ∧ (appliedStage s).store = s.store ∧ (appliedStage s).run = s.run ∧
      (appliedStage s).hitch = s.hitch ∧ (appliedStage s).brake = s.brake ∧ (appliedStage s).fault = s.fault ∧
      (appliedStage s).power = s.power ∧ (appliedStage s).link = s.link ∧ (appliedStage s).svc = s.svc := by
  unfold appliedStage
  dsimp only
  repeat' split
  all_goals simp

@[simp] theorem failedRelease_frame (s : State) :
    (failedRelease s).pending = s.pending ∧ (failedRelease s).life = s.life ∧ (failedRelease s).now = s.now ∧
      (failedRelease s).start = s.start ∧ (failedRelease s).free = s.free ∧ (failedRelease s).build = s.build ∧
      (failedRelease s).speed = s.speed ∧ (failedRelease s).seq = s.seq ∧ (failedRelease s).store = s.store ∧
      (failedRelease s).run = s.run ∧ (failedRelease s).power = s.power ∧ (failedRelease s).svc = s.svc := by
  unfold failedRelease
  dsimp only
  all_goals simp

@[simp] theorem moveFwd_frame (closed : Bool) (s : State) :
    (moveFwd closed s).pending = s.pending ∧ (moveFwd closed s).life = s.life ∧ (moveFwd closed s).now = s.now ∧
      (moveFwd closed s).start = s.start ∧ (moveFwd closed s).free = s.free ∧ (moveFwd closed s).build = s.build ∧
      (moveFwd closed s).speed = s.speed ∧ (moveFwd closed s).seq = s.seq ∧ (moveFwd closed s).store = s.store ∧
      (moveFwd closed s).run = s.run ∧ (moveFwd closed s).power = s.power ∧ (moveFwd closed s).svc = s.svc := by
  unfold moveFwd
  dsimp only
  repeat' split
  all_goals simp

@[simp] theorem lockStage_frame (gateOpen : Bool) (s : State) :
    (lockStage gateOpen s).pending = s.pending ∧ (lockStage gateOpen s).life = s.life ∧ (lockStage gateOpen s).now = s.now ∧
      (lockStage gateOpen s).start = s.start ∧ (lockStage gateOpen s).free = s.free ∧ (lockStage gateOpen s).build = s.build ∧
      (lockStage gateOpen s).speed = s.speed ∧ (lockStage gateOpen s).auth = s.auth ∧ (lockStage gateOpen s).seq = s.seq ∧
      (lockStage gateOpen s).store = s.store ∧ (lockStage gateOpen s).run = s.run ∧ (lockStage gateOpen s).hitch = s.hitch ∧
      (lockStage gateOpen s).brake = s.brake ∧ (lockStage gateOpen s).fault = s.fault ∧ (lockStage gateOpen s).power = s.power ∧
      (lockStage gateOpen s).link = s.link ∧ (lockStage gateOpen s).svc = s.svc := by
  unfold lockStage
  dsimp only
  all_goals simp

@[simp] theorem transmissionStage_frame (s : State) :
    (transmissionStage s).pending = s.pending ∧ (transmissionStage s).life = s.life ∧
      (transmissionStage s).now = s.now ∧ (transmissionStage s).start = s.start ∧
      (transmissionStage s).free = s.free ∧ (transmissionStage s).build = s.build ∧
      (transmissionStage s).speed = s.speed ∧ (transmissionStage s).seq = s.seq ∧
      (transmissionStage s).store = s.store ∧ (transmissionStage s).run = s.run ∧
      (transmissionStage s).power = s.power ∧ (transmissionStage s).svc = s.svc := by
  unfold transmissionStage
  dsimp only
  all_goals simp

@[simp] theorem axleOutputs_frame (s : State) :
    (axleOutputs s).pending = s.pending ∧ (axleOutputs s).life = s.life ∧ (axleOutputs s).now = s.now ∧
      (axleOutputs s).start = s.start ∧ (axleOutputs s).free = s.free ∧ (axleOutputs s).build = s.build ∧
      (axleOutputs s).speed = s.speed ∧ (axleOutputs s).auth = s.auth ∧ (axleOutputs s).seq = s.seq ∧
      (axleOutputs s).store = s.store ∧ (axleOutputs s).run = s.run ∧ (axleOutputs s).hitch = s.hitch ∧
      (axleOutputs s).brake = s.brake ∧ (axleOutputs s).fault = s.fault ∧ (axleOutputs s).power = s.power ∧
      (axleOutputs s).link = s.link ∧ (axleOutputs s).svc = s.svc := by
  unfold axleOutputs
  dsimp only
  all_goals simp

@[simp] theorem axleStep_frame (closed : Bool) (s : State) :
    (axleStep closed s).pending = s.pending ∧ (axleStep closed s).life = s.life ∧ (axleStep closed s).now = s.now ∧
      (axleStep closed s).start = s.start ∧ (axleStep closed s).free = s.free ∧ (axleStep closed s).build = s.build ∧
      (axleStep closed s).speed = s.speed ∧ (axleStep closed s).seq = s.seq ∧ (axleStep closed s).store = s.store ∧
      (axleStep closed s).run = s.run ∧ (axleStep closed s).power = s.power ∧ (axleStep closed s).svc = s.svc := by
  unfold axleStep
  dsimp only
  all_goals simp

@[simp] theorem judgeImplAxle_frame (fwd dl : Nat) (s : State) :
    (judgeImplAxle fwd dl s).pending = s.pending ∧ (judgeImplAxle fwd dl s).life = s.life ∧
      (judgeImplAxle fwd dl s).now = s.now ∧ (judgeImplAxle fwd dl s).start = s.start ∧
      (judgeImplAxle fwd dl s).free = s.free ∧ (judgeImplAxle fwd dl s).build = s.build ∧
      (judgeImplAxle fwd dl s).speed = s.speed ∧ (judgeImplAxle fwd dl s).seq = s.seq ∧
      (judgeImplAxle fwd dl s).chan = s.chan ∧ (judgeImplAxle fwd dl s).store = s.store ∧
      (judgeImplAxle fwd dl s).run = s.run ∧ (judgeImplAxle fwd dl s).hitch = s.hitch ∧
      (judgeImplAxle fwd dl s).brake = s.brake ∧ (judgeImplAxle fwd dl s).fault = s.fault ∧
      (judgeImplAxle fwd dl s).power = s.power ∧ (judgeImplAxle fwd dl s).svc = s.svc := by
  unfold judgeImplAxle
  dsimp only
  repeat' split
  all_goals simp

@[simp] theorem takeImplAxle_frame (s : State) :
    (takeImplAxle s).pending = s.pending ∧ (takeImplAxle s).life = s.life ∧ (takeImplAxle s).now = s.now ∧
      (takeImplAxle s).start = s.start ∧ (takeImplAxle s).free = s.free ∧ (takeImplAxle s).build = s.build ∧
      (takeImplAxle s).speed = s.speed ∧ (takeImplAxle s).seq = s.seq ∧ (takeImplAxle s).chan = s.chan ∧
      (takeImplAxle s).store = s.store ∧ (takeImplAxle s).run = s.run ∧ (takeImplAxle s).hitch = s.hitch ∧
      (takeImplAxle s).brake = s.brake ∧ (takeImplAxle s).fault = s.fault ∧ (takeImplAxle s).power = s.power ∧
      (takeImplAxle s).svc = s.svc := by
  unfold takeImplAxle
  repeat' split
  all_goals simp

@[simp] theorem positionStage_frame (adc : Nat) (s : State) :
    (positionStage adc s).pending = s.pending ∧ (positionStage adc s).life = s.life ∧
      (positionStage adc s).now = s.now ∧ (positionStage adc s).start = s.start ∧
      (positionStage adc s).free = s.free ∧ (positionStage adc s).build = s.build ∧
      (positionStage adc s).speed = s.speed ∧ (positionStage adc s).seq = s.seq ∧
      (positionStage adc s).store = s.store ∧ (positionStage adc s).run = s.run ∧
      (positionStage adc s).power = s.power ∧ (positionStage adc s).svc = s.svc := by
  unfold positionStage
  dsimp only
  repeat' split
  all_goals simp

@[simp] theorem pinStage_frame (l r : Int) (s : State) :
    (pinStage l r s).pending = s.pending ∧ (pinStage l r s).life = s.life ∧ (pinStage l r s).now = s.now ∧
      (pinStage l r s).start = s.start ∧ (pinStage l r s).free = s.free ∧ (pinStage l r s).build = s.build ∧
      (pinStage l r s).speed = s.speed ∧ (pinStage l r s).seq = s.seq ∧ (pinStage l r s).store = s.store ∧
      (pinStage l r s).run = s.run ∧ (pinStage l r s).power = s.power ∧ (pinStage l r s).svc = s.svc := by
  unfold pinStage
  dsimp only
  repeat' split
  all_goals simp

@[simp] theorem latchStage_frame (s : State) :
    (latchStage s).pending = s.pending ∧ (latchStage s).life = s.life ∧ (latchStage s).now = s.now ∧
      (latchStage s).start = s.start ∧ (latchStage s).free = s.free ∧ (latchStage s).build = s.build ∧
      (latchStage s).speed = s.speed ∧ (latchStage s).auth = s.auth ∧ (latchStage s).seq = s.seq ∧
      (latchStage s).chan = s.chan ∧ (latchStage s).store = s.store ∧ (latchStage s).run = s.run ∧
      (latchStage s).axle = s.axle ∧ (latchStage s).brake = s.brake ∧ (latchStage s).fault = s.fault ∧
      (latchStage s).power = s.power ∧ (latchStage s).link = s.link ∧ (latchStage s).svc = s.svc := by
  unfold latchStage
  dsimp only
  repeat' split
  all_goals simp

@[simp] theorem cabStage_frame (s : State) :
    (cabStage s).pending = s.pending ∧ (cabStage s).life = s.life ∧ (cabStage s).now = s.now ∧
      (cabStage s).start = s.start ∧ (cabStage s).free = s.free ∧ (cabStage s).build = s.build ∧
      (cabStage s).speed = s.speed ∧ (cabStage s).auth = s.auth ∧ (cabStage s).seq = s.seq ∧
      (cabStage s).chan = s.chan ∧ (cabStage s).store = s.store ∧ (cabStage s).run = s.run ∧
      (cabStage s).axle = s.axle ∧ (cabStage s).brake = s.brake ∧ (cabStage s).fault = s.fault ∧
      (cabStage s).power = s.power ∧ (cabStage s).link = s.link ∧ (cabStage s).svc = s.svc := by
  unfold cabStage
  repeat' split
  all_goals simp

@[simp] theorem shadowStage_frame (s : State) :
    (shadowStage s).pending = s.pending ∧ (shadowStage s).life = s.life ∧ (shadowStage s).now = s.now ∧
      (shadowStage s).start = s.start ∧ (shadowStage s).free = s.free ∧ (shadowStage s).build = s.build ∧
      (shadowStage s).speed = s.speed ∧ (shadowStage s).auth = s.auth ∧ (shadowStage s).seq = s.seq ∧
      (shadowStage s).chan = s.chan ∧ (shadowStage s).store = s.store ∧ (shadowStage s).run = s.run ∧
      (shadowStage s).axle = s.axle ∧ (shadowStage s).brake = s.brake ∧ (shadowStage s).fault = s.fault ∧
      (shadowStage s).power = s.power ∧ (shadowStage s).link = s.link ∧ (shadowStage s).svc = s.svc := by
  unfold shadowStage
  repeat' split
  all_goals simp

@[simp] theorem freezeStage_frame (s : State) :
    (freezeStage s).pending = s.pending ∧ (freezeStage s).life = s.life ∧ (freezeStage s).now = s.now ∧
      (freezeStage s).start = s.start ∧ (freezeStage s).free = s.free ∧ (freezeStage s).build = s.build ∧
      (freezeStage s).speed = s.speed ∧ (freezeStage s).auth = s.auth ∧ (freezeStage s).seq = s.seq ∧
      (freezeStage s).chan = s.chan ∧ (freezeStage s).store = s.store ∧ (freezeStage s).run = s.run ∧
      (freezeStage s).axle = s.axle ∧ (freezeStage s).brake = s.brake ∧ (freezeStage s).fault = s.fault ∧
      (freezeStage s).power = s.power ∧ (freezeStage s).link = s.link ∧ (freezeStage s).svc = s.svc := by
  unfold freezeStage
  repeat' split
  all_goals simp

@[simp] theorem setpointStage_frame (s : State) :
    (setpointStage s).pending = s.pending ∧ (setpointStage s).life = s.life ∧ (setpointStage s).now = s.now ∧
      (setpointStage s).start = s.start ∧ (setpointStage s).build = s.build ∧ (setpointStage s).speed = s.speed ∧
      (setpointStage s).auth = s.auth ∧ (setpointStage s).seq = s.seq ∧ (setpointStage s).chan = s.chan ∧
      (setpointStage s).store = s.store ∧ (setpointStage s).run = s.run ∧ (setpointStage s).axle = s.axle ∧
      (setpointStage s).brake = s.brake ∧ (setpointStage s).fault = s.fault ∧ (setpointStage s).power = s.power ∧
      (setpointStage s).link = s.link ∧ (setpointStage s).svc = s.svc := by
  unfold setpointStage
  dsimp only
  repeat' split
  all_goals simp

@[simp] theorem stopStage_frame (gateOpen : Bool) (s : State) :
    (stopStage gateOpen s).pending = s.pending ∧ (stopStage gateOpen s).life = s.life ∧ (stopStage gateOpen s).now = s.now ∧
      (stopStage gateOpen s).start = s.start ∧ (stopStage gateOpen s).free = s.free ∧ (stopStage gateOpen s).build = s.build ∧
      (stopStage gateOpen s).speed = s.speed ∧ (stopStage gateOpen s).seq = s.seq ∧ (stopStage gateOpen s).chan = s.chan ∧
      (stopStage gateOpen s).store = s.store ∧ (stopStage gateOpen s).run = s.run ∧ (stopStage gateOpen s).brake = s.brake ∧
      (stopStage gateOpen s).fault = s.fault ∧ (stopStage gateOpen s).power = s.power ∧ (stopStage gateOpen s).link = s.link ∧
      (stopStage gateOpen s).svc = s.svc := by
  unfold stopStage
  repeat' split
  all_goals simp

@[simp] theorem endFender_frame (s : State) :
    (endFender s).pending = s.pending ∧ (endFender s).life = s.life ∧ (endFender s).now = s.now ∧
      (endFender s).start = s.start ∧ (endFender s).free = s.free ∧ (endFender s).build = s.build ∧
      (endFender s).speed = s.speed ∧ (endFender s).seq = s.seq ∧ (endFender s).chan = s.chan ∧
      (endFender s).store = s.store ∧ (endFender s).run = s.run ∧ (endFender s).brake = s.brake ∧
      (endFender s).fault = s.fault ∧ (endFender s).power = s.power ∧ (endFender s).link = s.link ∧
      (endFender s).svc = s.svc := by
  simp [endFender]

@[simp] theorem beginFender_frame (s : State) :
    (beginFender s).pending = s.pending ∧ (beginFender s).life = s.life ∧ (beginFender s).now = s.now ∧
      (beginFender s).start = s.start ∧ (beginFender s).free = s.free ∧ (beginFender s).build = s.build ∧
      (beginFender s).speed = s.speed ∧ (beginFender s).seq = s.seq ∧ (beginFender s).chan = s.chan ∧
      (beginFender s).store = s.store ∧ (beginFender s).run = s.run ∧ (beginFender s).brake = s.brake ∧
      (beginFender s).fault = s.fault ∧ (beginFender s).power = s.power ∧ (beginFender s).svc = s.svc := by
  simp [beginFender]

@[simp] theorem fenderStage_frame (d : FenderDemand) (pedal : Nat) (s : State) :
    (fenderStage d pedal s).pending = s.pending ∧ (fenderStage d pedal s).life = s.life ∧
      (fenderStage d pedal s).now = s.now ∧ (fenderStage d pedal s).start = s.start ∧
      (fenderStage d pedal s).free = s.free ∧ (fenderStage d pedal s).build = s.build ∧
      (fenderStage d pedal s).speed = s.speed ∧ (fenderStage d pedal s).seq = s.seq ∧
      (fenderStage d pedal s).chan = s.chan ∧ (fenderStage d pedal s).store = s.store ∧
      (fenderStage d pedal s).run = s.run ∧ (fenderStage d pedal s).brake = s.brake ∧
      (fenderStage d pedal s).fault = s.fault ∧ (fenderStage d pedal s).power = s.power ∧
      (fenderStage d pedal s).svc = s.svc := by
  unfold fenderStage
  dsimp only
  repeat' split
  all_goals simp

@[simp] theorem lockTurn_frame (s : State) :
    (lockTurn s).pending = s.pending ∧ (lockTurn s).life = s.life ∧ (lockTurn s).now = s.now ∧
      (lockTurn s).start = s.start ∧ (lockTurn s).free = s.free ∧ (lockTurn s).build = s.build ∧
      (lockTurn s).speed = s.speed ∧ (lockTurn s).auth = s.auth ∧ (lockTurn s).seq = s.seq ∧
      (lockTurn s).chan = s.chan ∧ (lockTurn s).store = s.store ∧ (lockTurn s).run = s.run ∧
      (lockTurn s).axle = s.axle ∧ (lockTurn s).brake = s.brake ∧ (lockTurn s).fault = s.fault ∧
      (lockTurn s).power = s.power ∧ (lockTurn s).link = s.link ∧ (lockTurn s).svc = s.svc := by
  unfold lockTurn
  repeat' split
  all_goals simp

@[simp] theorem handback_frame (s : State) :
    (handback s).pending = s.pending ∧ (handback s).life = s.life ∧ (handback s).now = s.now ∧
      (handback s).start = s.start ∧ (handback s).free = s.free ∧ (handback s).build = s.build ∧
      (handback s).speed = s.speed ∧ (handback s).auth = s.auth ∧ (handback s).seq = s.seq ∧
      (handback s).chan = s.chan ∧ (handback s).store = s.store ∧ (handback s).run = s.run ∧
      (handback s).axle = s.axle ∧ (handback s).brake = s.brake ∧ (handback s).fault = s.fault ∧
      (handback s).power = s.power ∧ (handback s).link = s.link ∧ (handback s).svc = s.svc := by
  unfold handback
  repeat' split
  all_goals simp

@[simp] theorem applyLift_frame (c : LiftCmd) (s : State) :
    (applyLift c s).pending = s.pending ∧ (applyLift c s).life = s.life ∧ (applyLift c s).now = s.now ∧
      (applyLift c s).start = s.start ∧ (applyLift c s).free = s.free ∧ (applyLift c s).build = s.build ∧
      (applyLift c s).speed = s.speed ∧ (applyLift c s).auth = s.auth ∧ (applyLift c s).seq = s.seq ∧
      (applyLift c s).chan = s.chan ∧ (applyLift c s).store = s.store ∧ (applyLift c s).run = s.run ∧
      (applyLift c s).axle = s.axle ∧ (applyLift c s).brake = s.brake ∧ (applyLift c s).fault = s.fault ∧
      (applyLift c s).power = s.power ∧ (applyLift c s).link = s.link ∧ (applyLift c s).svc = s.svc := by
  unfold applyLift
  repeat' split
  all_goals simp

@[simp] theorem liftStage_frame (s : State) :
    (liftStage s).pending = s.pending ∧ (liftStage s).life = s.life ∧ (liftStage s).now = s.now ∧
      (liftStage s).start = s.start ∧ (liftStage s).free = s.free ∧ (liftStage s).build = s.build ∧
      (liftStage s).speed = s.speed ∧ (liftStage s).auth = s.auth ∧ (liftStage s).seq = s.seq ∧
      (liftStage s).chan = s.chan ∧ (liftStage s).store = s.store ∧ (liftStage s).run = s.run ∧
      (liftStage s).axle = s.axle ∧ (liftStage s).brake = s.brake ∧ (liftStage s).fault = s.fault ∧
      (liftStage s).power = s.power ∧ (liftStage s).link = s.link ∧ (liftStage s).svc = s.svc := by
  unfold liftStage
  dsimp only
  repeat' split
  all_goals simp

@[simp] theorem endStage_frame (s : State) :
    (endStage s).pending = s.pending ∧ (endStage s).life = s.life ∧ (endStage s).now = s.now ∧
      (endStage s).start = s.start ∧ (endStage s).free = s.free ∧ (endStage s).build = s.build ∧
      (endStage s).speed = s.speed ∧ (endStage s).auth = s.auth ∧ (endStage s).seq = s.seq ∧
      (endStage s).chan = s.chan ∧ (endStage s).store = s.store ∧ (endStage s).run = s.run ∧
      (endStage s).axle = s.axle ∧ (endStage s).brake = s.brake ∧ (endStage s).fault = s.fault ∧
      (endStage s).power = s.power ∧ (endStage s).link = s.link ∧ (endStage s).svc = s.svc := by
  unfold endStage
  dsimp only
  repeat' split
  all_goals simp

@[simp] theorem liftStateStage_frame (gateOpen : Bool) (d : FenderDemand) (pedal : Nat) (s : State) :
    (liftStateStage gateOpen d pedal s).pending = s.pending ∧ (liftStateStage gateOpen d pedal s).life = s.life ∧
      (liftStateStage gateOpen d pedal s).now = s.now ∧ (liftStateStage gateOpen d pedal s).start = s.start ∧
      (liftStateStage gateOpen d pedal s).free = s.free ∧ (liftStateStage gateOpen d pedal s).build = s.build ∧
      (liftStateStage gateOpen d pedal s).speed = s.speed ∧ (liftStateStage gateOpen d pedal s).seq = s.seq ∧
      (liftStateStage gateOpen d pedal s).chan = s.chan ∧ (liftStateStage gateOpen d pedal s).store = s.store ∧
      (liftStateStage gateOpen d pedal s).run = s.run ∧ (liftStateStage gateOpen d pedal s).brake = s.brake ∧
      (liftStateStage gateOpen d pedal s).fault = s.fault ∧ (liftStateStage gateOpen d pedal s).power = s.power ∧
      (liftStateStage gateOpen d pedal s).svc = s.svc := by
  simp [liftStateStage]

@[simp] theorem runawayStage_frame (q : Int) (s : State) :
    (runawayStage q s).pending = s.pending ∧ (runawayStage q s).life = s.life ∧ (runawayStage q s).now = s.now ∧
      (runawayStage q s).start = s.start ∧ (runawayStage q s).free = s.free ∧ (runawayStage q s).build = s.build ∧
      (runawayStage q s).speed = s.speed ∧ (runawayStage q s).seq = s.seq ∧ (runawayStage q s).store = s.store ∧
      (runawayStage q s).run = s.run ∧ (runawayStage q s).power = s.power ∧ (runawayStage q s).svc = s.svc := by
  unfold runawayStage
  dsimp only
  repeat' split
  all_goals simp

@[simp] theorem pilotStage_frame (q : Int) (s : State) :
    (pilotStage q s).pending = s.pending ∧ (pilotStage q s).life = s.life ∧ (pilotStage q s).now = s.now ∧
      (pilotStage q s).start = s.start ∧ (pilotStage q s).free = s.free ∧ (pilotStage q s).build = s.build ∧
      (pilotStage q s).speed = s.speed ∧ (pilotStage q s).auth = s.auth ∧ (pilotStage q s).seq = s.seq ∧
      (pilotStage q s).store = s.store ∧ (pilotStage q s).run = s.run ∧ (pilotStage q s).axle = s.axle ∧
      (pilotStage q s).hitch = s.hitch ∧ (pilotStage q s).brake = s.brake ∧ (pilotStage q s).fault = s.fault ∧
      (pilotStage q s).power = s.power ∧ (pilotStage q s).link = s.link ∧ (pilotStage q s).svc = s.svc := by
  unfold pilotStage
  dsimp only
  repeat' split
  all_goals simp

@[simp] theorem hitchStep_frame (inp : HitchInputs) (s : State) :
    (hitchStep inp s).pending = s.pending ∧ (hitchStep inp s).life = s.life ∧ (hitchStep inp s).now = s.now ∧
      (hitchStep inp s).start = s.start ∧ (hitchStep inp s).build = s.build ∧ (hitchStep inp s).speed = s.speed ∧
      (hitchStep inp s).seq = s.seq ∧ (hitchStep inp s).store = s.store ∧ (hitchStep inp s).run = s.run ∧
      (hitchStep inp s).power = s.power ∧ (hitchStep inp s).svc = s.svc := by
  unfold hitchStep
  dsimp only
  all_goals simp

@[simp] theorem judgeSetpoint_frame (p : Setpoint) (s : State) :
    (judgeSetpoint p s).pending = s.pending ∧ (judgeSetpoint p s).life = s.life ∧ (judgeSetpoint p s).now = s.now ∧
      (judgeSetpoint p s).start = s.start ∧ (judgeSetpoint p s).free = s.free ∧ (judgeSetpoint p s).build = s.build ∧
      (judgeSetpoint p s).speed = s.speed ∧ (judgeSetpoint p s).seq = s.seq ∧ (judgeSetpoint p s).chan = s.chan ∧
      (judgeSetpoint p s).store = s.store ∧ (judgeSetpoint p s).run = s.run ∧ (judgeSetpoint p s).axle = s.axle ∧
      (judgeSetpoint p s).brake = s.brake ∧ (judgeSetpoint p s).fault = s.fault ∧
      (judgeSetpoint p s).power = s.power ∧ (judgeSetpoint p s).svc = s.svc := by
  unfold judgeSetpoint
  repeat' split
  all_goals simp

@[simp] theorem judgeQuick_frame (c : LiftCmd) (s : State) :
    (judgeQuick c s).pending = s.pending ∧ (judgeQuick c s).life = s.life ∧ (judgeQuick c s).now = s.now ∧
      (judgeQuick c s).start = s.start ∧ (judgeQuick c s).free = s.free ∧ (judgeQuick c s).build = s.build ∧
      (judgeQuick c s).speed = s.speed ∧ (judgeQuick c s).seq = s.seq ∧ (judgeQuick c s).chan = s.chan ∧
      (judgeQuick c s).store = s.store ∧ (judgeQuick c s).run = s.run ∧ (judgeQuick c s).axle = s.axle ∧
      (judgeQuick c s).brake = s.brake ∧ (judgeQuick c s).fault = s.fault ∧ (judgeQuick c s).power = s.power ∧
      (judgeQuick c s).svc = s.svc := by
  unfold judgeQuick
  dsimp only
  repeat' split
  all_goals simp

@[simp] theorem judgeParts_frame (set : Option Setpoint) (quick : Option LiftCmd) (s : State) :
    (judgeParts set quick s).pending = s.pending ∧ (judgeParts set quick s).life = s.life ∧ (judgeParts set quick s).now = s.now ∧
      (judgeParts set quick s).start = s.start ∧ (judgeParts set quick s).free = s.free ∧ (judgeParts set quick s).build = s.build ∧
      (judgeParts set quick s).speed = s.speed ∧ (judgeParts set quick s).seq = s.seq ∧ (judgeParts set quick s).chan = s.chan ∧
      (judgeParts set quick s).store = s.store ∧ (judgeParts set quick s).run = s.run ∧ (judgeParts set quick s).axle = s.axle ∧
      (judgeParts set quick s).brake = s.brake ∧ (judgeParts set quick s).fault = s.fault ∧ (judgeParts set quick s).power = s.power ∧
      (judgeParts set quick s).svc = s.svc := by
  unfold judgeParts
  dsimp only
  repeat' split
  all_goals simp

@[simp] theorem takeSetpoint_frame (s : State) :
    (takeSetpoint s).pending = s.pending ∧ (takeSetpoint s).life = s.life ∧ (takeSetpoint s).now = s.now ∧
      (takeSetpoint s).start = s.start ∧ (takeSetpoint s).free = s.free ∧ (takeSetpoint s).build = s.build ∧
      (takeSetpoint s).speed = s.speed ∧ (takeSetpoint s).seq = s.seq ∧ (takeSetpoint s).chan = s.chan ∧
      (takeSetpoint s).store = s.store ∧ (takeSetpoint s).run = s.run ∧ (takeSetpoint s).axle = s.axle ∧
      (takeSetpoint s).brake = s.brake ∧ (takeSetpoint s).fault = s.fault ∧ (takeSetpoint s).power = s.power ∧
      (takeSetpoint s).svc = s.svc := by
  unfold takeSetpoint
  repeat' split
  all_goals simp

@[simp] theorem takeQuick_frame (c : LiftCmd) (s : State) :
    (takeQuick c s).pending = s.pending ∧ (takeQuick c s).life = s.life ∧ (takeQuick c s).now = s.now ∧
      (takeQuick c s).start = s.start ∧ (takeQuick c s).free = s.free ∧ (takeQuick c s).build = s.build ∧
      (takeQuick c s).speed = s.speed ∧ (takeQuick c s).seq = s.seq ∧ (takeQuick c s).chan = s.chan ∧
      (takeQuick c s).store = s.store ∧ (takeQuick c s).run = s.run ∧ (takeQuick c s).axle = s.axle ∧
      (takeQuick c s).brake = s.brake ∧ (takeQuick c s).fault = s.fault ∧ (takeQuick c s).power = s.power ∧
      (takeQuick c s).svc = s.svc := by
  unfold takeQuick
  repeat' split
  all_goals simp

@[simp] theorem transducerStage_frame (raw : Nat) (s : State) :
    (transducerStage raw s).pending = s.pending ∧ (transducerStage raw s).life = s.life ∧
      (transducerStage raw s).now = s.now ∧ (transducerStage raw s).start = s.start ∧
      (transducerStage raw s).free = s.free ∧ (transducerStage raw s).build = s.build ∧
      (transducerStage raw s).speed = s.speed ∧ (transducerStage raw s).seq = s.seq ∧
      (transducerStage raw s).store = s.store ∧ (transducerStage raw s).run = s.run ∧
      (transducerStage raw s).power = s.power ∧ (transducerStage raw s).svc = s.svc := by
  unfold transducerStage
  dsimp only
  repeat' split
  all_goals simp

@[simp] theorem lineStage_frame (raw : Nat) (closed : Bool) (s : State) :
    (lineStage raw closed s).pending = s.pending ∧ (lineStage raw closed s).life = s.life ∧
      (lineStage raw closed s).now = s.now ∧ (lineStage raw closed s).start = s.start ∧
      (lineStage raw closed s).free = s.free ∧ (lineStage raw closed s).build = s.build ∧
      (lineStage raw closed s).speed = s.speed ∧ (lineStage raw closed s).auth = s.auth ∧
      (lineStage raw closed s).seq = s.seq ∧ (lineStage raw closed s).chan = s.chan ∧
      (lineStage raw closed s).store = s.store ∧ (lineStage raw closed s).run = s.run ∧
      (lineStage raw closed s).axle = s.axle ∧ (lineStage raw closed s).hitch = s.hitch ∧
      (lineStage raw closed s).fault = s.fault ∧ (lineStage raw closed s).power = s.power ∧
      (lineStage raw closed s).link = s.link ∧ (lineStage raw closed s).svc = s.svc := by
  unfold lineStage
  repeat' split
  all_goals simp

@[simp] theorem publishDemand_frame (s : State) :
    (publishDemand s).pending = s.pending ∧ (publishDemand s).life = s.life ∧ (publishDemand s).now = s.now ∧
      (publishDemand s).start = s.start ∧ (publishDemand s).free = s.free ∧ (publishDemand s).build = s.build ∧
      (publishDemand s).speed = s.speed ∧ (publishDemand s).auth = s.auth ∧ (publishDemand s).seq = s.seq ∧
      (publishDemand s).store = s.store ∧ (publishDemand s).run = s.run ∧ (publishDemand s).hitch = s.hitch ∧
      (publishDemand s).brake = s.brake ∧ (publishDemand s).fault = s.fault ∧ (publishDemand s).power = s.power ∧
      (publishDemand s).link = s.link ∧ (publishDemand s).svc = s.svc := by
  unfold publishDemand
  dsimp only
  repeat' split
  all_goals simp

@[simp] theorem demandStage_frame (left right park : Bool) (s : State) :
    (demandStage left right park s).pending = s.pending ∧ (demandStage left right park s).life = s.life ∧
      (demandStage left right park s).now = s.now ∧ (demandStage left right park s).start = s.start ∧
      (demandStage left right park s).free = s.free ∧ (demandStage left right park s).build = s.build ∧
      (demandStage left right park s).speed = s.speed ∧ (demandStage left right park s).auth = s.auth ∧
      (demandStage left right park s).seq = s.seq ∧ (demandStage left right park s).store = s.store ∧
      (demandStage left right park s).run = s.run ∧ (demandStage left right park s).hitch = s.hitch ∧
      (demandStage left right park s).fault = s.fault ∧ (demandStage left right park s).power = s.power ∧
      (demandStage left right park s).link = s.link ∧ (demandStage left right park s).svc = s.svc := by
  unfold demandStage
  dsimp only
  all_goals simp

@[simp] theorem inputChecks_frame (s : State) :
    (inputChecks s).pending = s.pending ∧ (inputChecks s).life = s.life ∧ (inputChecks s).now = s.now ∧
      (inputChecks s).start = s.start ∧ (inputChecks s).free = s.free ∧ (inputChecks s).build = s.build ∧
      (inputChecks s).speed = s.speed ∧ (inputChecks s).seq = s.seq ∧ (inputChecks s).store = s.store ∧
      (inputChecks s).run = s.run ∧ (inputChecks s).power = s.power ∧ (inputChecks s).svc = s.svc := by
  unfold inputChecks
  dsimp only
  repeat' split
  all_goals simp

@[simp] theorem chargingStep_frame (park closed : Bool) (s : State) :
    (chargingStep park closed s).pending = s.pending ∧ (chargingStep park closed s).life = s.life ∧
      (chargingStep park closed s).now = s.now ∧ (chargingStep park closed s).start = s.start ∧
      (chargingStep park closed s).free = s.free ∧ (chargingStep park closed s).build = s.build ∧
      (chargingStep park closed s).speed = s.speed ∧ (chargingStep park closed s).seq = s.seq ∧
      (chargingStep park closed s).store = s.store ∧ (chargingStep park closed s).run = s.run ∧
      (chargingStep park closed s).power = s.power ∧ (chargingStep park closed s).svc = s.svc := by
  unfold chargingStep
  dsimp only
  repeat' split
  all_goals simp

@[simp] theorem breakaway_frame (s : State) :
    (breakaway s).pending = s.pending ∧ (breakaway s).life = s.life ∧ (breakaway s).now = s.now ∧
      (breakaway s).start = s.start ∧ (breakaway s).free = s.free ∧ (breakaway s).build = s.build ∧
      (breakaway s).speed = s.speed ∧ (breakaway s).seq = s.seq ∧ (breakaway s).store = s.store ∧
      (breakaway s).run = s.run ∧ (breakaway s).power = s.power ∧ (breakaway s).svc = s.svc := by
  unfold breakaway
  dsimp only
  all_goals simp

@[simp] theorem readyStep_frame (park closed : Bool) (s : State) :
    (readyStep park closed s).pending = s.pending ∧ (readyStep park closed s).life = s.life ∧
      (readyStep park closed s).now = s.now ∧ (readyStep park closed s).start = s.start ∧
      (readyStep park closed s).free = s.free ∧ (readyStep park closed s).build = s.build ∧
      (readyStep park closed s).speed = s.speed ∧ (readyStep park closed s).seq = s.seq ∧
      (readyStep park closed s).store = s.store ∧ (readyStep park closed s).run = s.run ∧
      (readyStep park closed s).power = s.power ∧ (readyStep park closed s).svc = s.svc := by
  unfold readyStep
  dsimp only
  repeat' split
  all_goals simp

@[simp] theorem lostStep_frame (closed : Bool) (s : State) :
    (lostStep closed s).pending = s.pending ∧ (lostStep closed s).life = s.life ∧ (lostStep closed s).now = s.now ∧
      (lostStep closed s).start = s.start ∧ (lostStep closed s).free = s.free ∧ (lostStep closed s).build = s.build ∧
      (lostStep closed s).speed = s.speed ∧ (lostStep closed s).auth = s.auth ∧ (lostStep closed s).seq = s.seq ∧
      (lostStep closed s).store = s.store ∧ (lostStep closed s).run = s.run ∧ (lostStep closed s).axle = s.axle ∧
      (lostStep closed s).hitch = s.hitch ∧ (lostStep closed s).power = s.power ∧ (lostStep closed s).svc = s.svc := by
  unfold lostStep
  dsimp only
  repeat' split
  all_goals simp

@[simp] theorem supplyStage_frame (park closed : Bool) (s : State) :
    (supplyStage park closed s).pending = s.pending ∧ (supplyStage park closed s).life = s.life ∧
      (supplyStage park closed s).now = s.now ∧ (supplyStage park closed s).start = s.start ∧
      (supplyStage park closed s).free = s.free ∧ (supplyStage park closed s).build = s.build ∧
      (supplyStage park closed s).speed = s.speed ∧ (supplyStage park closed s).seq = s.seq ∧
      (supplyStage park closed s).store = s.store ∧ (supplyStage park closed s).run = s.run ∧
      (supplyStage park closed s).power = s.power ∧ (supplyStage park closed s).svc = s.svc := by
  unfold supplyStage
  dsimp only
  repeat' split
  all_goals simp

@[simp] theorem lineCommand_frame (s : State) :
    (lineCommand s).pending = s.pending ∧ (lineCommand s).life = s.life ∧ (lineCommand s).now = s.now ∧
      (lineCommand s).start = s.start ∧ (lineCommand s).free = s.free ∧ (lineCommand s).build = s.build ∧
      (lineCommand s).speed = s.speed ∧ (lineCommand s).auth = s.auth ∧ (lineCommand s).seq = s.seq ∧
      (lineCommand s).chan = s.chan ∧ (lineCommand s).store = s.store ∧ (lineCommand s).run = s.run ∧
      (lineCommand s).axle = s.axle ∧ (lineCommand s).hitch = s.hitch ∧ (lineCommand s).fault = s.fault ∧
      (lineCommand s).power = s.power ∧ (lineCommand s).link = s.link ∧ (lineCommand s).svc = s.svc := by
  unfold lineCommand
  dsimp only
  all_goals simp

@[simp] theorem deviationStage_frame (s : State) :
    (deviationStage s).pending = s.pending ∧ (deviationStage s).life = s.life ∧ (deviationStage s).now = s.now ∧
      (deviationStage s).start = s.start ∧ (deviationStage s).free = s.free ∧ (deviationStage s).build = s.build ∧
      (deviationStage s).speed = s.speed ∧ (deviationStage s).seq = s.seq ∧ (deviationStage s).store = s.store ∧
      (deviationStage s).run = s.run ∧ (deviationStage s).power = s.power ∧ (deviationStage s).svc = s.svc := by
  unfold deviationStage
  dsimp only
  repeat' split
  all_goals simp

@[simp] theorem trailerOutputs_frame (s : State) :
    (trailerOutputs s).pending = s.pending ∧ (trailerOutputs s).life = s.life ∧ (trailerOutputs s).now = s.now ∧
      (trailerOutputs s).start = s.start ∧ (trailerOutputs s).free = s.free ∧ (trailerOutputs s).build = s.build ∧
      (trailerOutputs s).speed = s.speed ∧ (trailerOutputs s).auth = s.auth ∧ (trailerOutputs s).seq = s.seq ∧
      (trailerOutputs s).store = s.store ∧ (trailerOutputs s).run = s.run ∧ (trailerOutputs s).axle = s.axle ∧
      (trailerOutputs s).hitch = s.hitch ∧ (trailerOutputs s).brake = s.brake ∧ (trailerOutputs s).fault = s.fault ∧
      (trailerOutputs s).power = s.power ∧ (trailerOutputs s).link = s.link ∧ (trailerOutputs s).svc = s.svc := by
  unfold trailerOutputs
  dsimp only
  repeat' split
  all_goals simp

@[simp] theorem brakeStep_frame (inp : BrakeInputs) (s : State) :
    (brakeStep inp s).pending = s.pending ∧ (brakeStep inp s).life = s.life ∧ (brakeStep inp s).now = s.now ∧
      (brakeStep inp s).start = s.start ∧ (brakeStep inp s).free = s.free ∧ (brakeStep inp s).build = s.build ∧
      (brakeStep inp s).speed = s.speed ∧ (brakeStep inp s).seq = s.seq ∧ (brakeStep inp s).store = s.store ∧
      (brakeStep inp s).run = s.run ∧ (brakeStep inp s).power = s.power ∧ (brakeStep inp s).svc = s.svc := by
  unfold brakeStep
  dsimp only
  repeat' split
  all_goals simp

@[simp] theorem ignitionOff_frame (s : State) :
    (ignitionOff s).pending = s.pending ∧ (ignitionOff s).life = s.life ∧ (ignitionOff s).now = s.now ∧
      (ignitionOff s).start = s.start ∧ (ignitionOff s).free = s.free ∧ (ignitionOff s).build = s.build ∧
      (ignitionOff s).speed = s.speed ∧ (ignitionOff s).seq = s.seq ∧ (ignitionOff s).chan = s.chan ∧
      (ignitionOff s).store = s.store ∧ (ignitionOff s).run = s.run ∧ (ignitionOff s).brake = s.brake ∧
      (ignitionOff s).fault = s.fault ∧ (ignitionOff s).svc = s.svc := by
  unfold ignitionOff
  dsimp only
  repeat' split
  all_goals simp

@[simp] theorem openWindow_frame (s : State) :
    (openWindow s).pending = s.pending ∧ (openWindow s).now = s.now ∧ (openWindow s).free = s.free ∧
      (openWindow s).build = s.build ∧ (openWindow s).speed = s.speed ∧ (openWindow s).auth = s.auth ∧
      (openWindow s).seq = s.seq ∧ (openWindow s).chan = s.chan ∧ (openWindow s).run = s.run ∧
      (openWindow s).axle = s.axle ∧ (openWindow s).hitch = s.hitch ∧ (openWindow s).brake = s.brake ∧
      (openWindow s).fault = s.fault ∧ (openWindow s).power = s.power ∧ (openWindow s).link = s.link ∧
      (openWindow s).svc = s.svc := by
  unfold openWindow
  dsimp only
  all_goals simp

@[simp] theorem ignitionOn_frame (s : State) :
    (ignitionOn s).pending = s.pending ∧ (ignitionOn s).now = s.now ∧ (ignitionOn s).free = s.free ∧
      (ignitionOn s).build = s.build ∧ (ignitionOn s).speed = s.speed ∧ (ignitionOn s).auth = s.auth ∧
      (ignitionOn s).chan = s.chan ∧ (ignitionOn s).run = s.run ∧ (ignitionOn s).axle = s.axle ∧
      (ignitionOn s).hitch = s.hitch ∧ (ignitionOn s).brake = s.brake ∧ (ignitionOn s).fault = s.fault ∧
      (ignitionOn s).link = s.link ∧ (ignitionOn s).svc = s.svc := by
  unfold ignitionOn
  dsimp only
  repeat' split
  all_goals simp

@[simp] theorem judgeIgnition_frame (high : Bool) (s : State) :
    (judgeIgnition high s).pending = s.pending ∧ (judgeIgnition high s).now = s.now ∧
      (judgeIgnition high s).free = s.free ∧ (judgeIgnition high s).build = s.build ∧
      (judgeIgnition high s).speed = s.speed ∧ (judgeIgnition high s).chan = s.chan ∧
      (judgeIgnition high s).run = s.run ∧ (judgeIgnition high s).brake = s.brake ∧
      (judgeIgnition high s).fault = s.fault ∧ (judgeIgnition high s).svc = s.svc := by
  unfold judgeIgnition
  dsimp only
  repeat' split
  all_goals simp

@[simp] theorem beginFlush_frame (s : State) :
    (beginFlush s).pending = s.pending ∧ (beginFlush s).life = s.life ∧ (beginFlush s).now = s.now ∧
      (beginFlush s).start = s.start ∧ (beginFlush s).free = s.free ∧ (beginFlush s).build = s.build ∧
      (beginFlush s).speed = s.speed ∧ (beginFlush s).svc = s.svc ∧ (beginFlush s).seq.besides = s.seq.besides ∧
      (beginFlush s).store.mem = s.store.mem := by
  simp [beginFlush]

@[simp] theorem writeCalField_frame (k : Key) (i : Nat) (v : Int) (s : State) :
    (writeCalField k i v s).1.pending = s.pending ∧ (writeCalField k i v s).1.life = s.life ∧
      (writeCalField k i v s).1.now = s.now ∧ (writeCalField k i v s).1.start = s.start ∧
      (writeCalField k i v s).1.free = s.free ∧ (writeCalField k i v s).1.build = s.build ∧
      (writeCalField k i v s).1.speed = s.speed ∧ (writeCalField k i v s).1.power = s.power ∧
      (writeCalField k i v s).1.svc = s.svc ∧ (writeCalField k i v s).1.seq.besides = s.seq.besides ∧
      (writeCalField k i v s).1.store.mem = s.store.mem := by
  unfold writeCalField
  repeat' split
  all_goals simp

@[simp] theorem writeOffset_frame (i : Nat) (v : Int) (s : State) :
    (writeOffset i v s).1.pending = s.pending ∧ (writeOffset i v s).1.life = s.life ∧
      (writeOffset i v s).1.now = s.now ∧ (writeOffset i v s).1.start = s.start ∧
      (writeOffset i v s).1.free = s.free ∧ (writeOffset i v s).1.build = s.build ∧
      (writeOffset i v s).1.speed = s.speed ∧ (writeOffset i v s).1.power = s.power ∧
      (writeOffset i v s).1.svc = s.svc ∧ (writeOffset i v s).1.seq.besides = s.seq.besides ∧
      (writeOffset i v s).1.store.mem = s.store.mem := by
  unfold writeOffset
  repeat' split
  all_goals simp

@[simp] theorem putItem_frame (item : Nat) (v : Int) (s : State) :
    (putItem item v s).1.pending = s.pending ∧ (putItem item v s).1.life = s.life ∧
      (putItem item v s).1.now = s.now ∧ (putItem item v s).1.start = s.start ∧ (putItem item v s).1.free = s.free ∧
      (putItem item v s).1.build = s.build ∧ (putItem item v s).1.speed = s.speed ∧
      (putItem item v s).1.power = s.power ∧ (putItem item v s).1.svc = s.svc ∧
      (putItem item v s).1.seq.besides = s.seq.besides ∧ (putItem item v s).1.store.mem = s.store.mem := by
  unfold putItem
  repeat' split
  all_goals simp

@[simp] theorem judgeWrite_frame (item : Nat) (value : List Byte) (s : State) :
    (judgeWrite item value s).1.pending = s.pending ∧ (judgeWrite item value s).1.life = s.life ∧
      (judgeWrite item value s).1.now = s.now ∧ (judgeWrite item value s).1.start = s.start ∧
      (judgeWrite item value s).1.free = s.free ∧ (judgeWrite item value s).1.build = s.build ∧
      (judgeWrite item value s).1.speed = s.speed ∧ (judgeWrite item value s).1.power = s.power ∧
      (judgeWrite item value s).1.svc = s.svc ∧ (judgeWrite item value s).1.seq.besides = s.seq.besides ∧
      (judgeWrite item value s).1.store.mem = s.store.mem := by
  unfold judgeWrite
  repeat' split
  all_goals simp

@[simp] theorem State.answer_frame (s : State) (kind : Nat) (payload : List Byte) :
    (State.answer s kind payload).pending = s.pending ∧ (State.answer s kind payload).life = s.life ∧
      (State.answer s kind payload).now = s.now ∧ (State.answer s kind payload).start = s.start ∧
      (State.answer s kind payload).free = s.free ∧ (State.answer s kind payload).build = s.build ∧
      (State.answer s kind payload).speed = s.speed ∧ (State.answer s kind payload).auth = s.auth ∧
      (State.answer s kind payload).seq = s.seq ∧ (State.answer s kind payload).chan = s.chan ∧
      (State.answer s kind payload).store = s.store ∧ (State.answer s kind payload).run = s.run ∧
      (State.answer s kind payload).axle = s.axle ∧ (State.answer s kind payload).hitch = s.hitch ∧
      (State.answer s kind payload).brake = s.brake ∧ (State.answer s kind payload).fault = s.fault ∧
      (State.answer s kind payload).power = s.power ∧ (State.answer s kind payload).link = s.link := by
  simp [State.answer]

@[simp] theorem State.answerResult_frame (s : State) (r : Option Reason) :
    (State.answerResult s r).pending = s.pending ∧ (State.answerResult s r).life = s.life ∧
      (State.answerResult s r).now = s.now ∧ (State.answerResult s r).start = s.start ∧
      (State.answerResult s r).free = s.free ∧ (State.answerResult s r).build = s.build ∧
      (State.answerResult s r).speed = s.speed ∧ (State.answerResult s r).auth = s.auth ∧
      (State.answerResult s r).seq = s.seq ∧ (State.answerResult s r).chan = s.chan ∧
      (State.answerResult s r).store = s.store ∧ (State.answerResult s r).run = s.run ∧
      (State.answerResult s r).axle = s.axle ∧ (State.answerResult s r).hitch = s.hitch ∧
      (State.answerResult s r).brake = s.brake ∧ (State.answerResult s r).fault = s.fault ∧
      (State.answerResult s r).power = s.power ∧ (State.answerResult s r).link = s.link := by
  unfold State.answerResult
  repeat' split
  all_goals simp

@[simp] theorem State.answerRefused_frame (s : State) (r : Reason) :
    (State.answerRefused s r).pending = s.pending ∧ (State.answerRefused s r).life = s.life ∧
      (State.answerRefused s r).now = s.now ∧ (State.answerRefused s r).start = s.start ∧
      (State.answerRefused s r).free = s.free ∧ (State.answerRefused s r).build = s.build ∧
      (State.answerRefused s r).speed = s.speed ∧ (State.answerRefused s r).auth = s.auth ∧
      (State.answerRefused s r).seq = s.seq ∧ (State.answerRefused s r).chan = s.chan ∧
      (State.answerRefused s r).store = s.store ∧ (State.answerRefused s r).run = s.run ∧
      (State.answerRefused s r).axle = s.axle ∧ (State.answerRefused s r).hitch = s.hitch ∧
      (State.answerRefused s r).brake = s.brake ∧ (State.answerRefused s r).fault = s.fault ∧
      (State.answerRefused s r).power = s.power ∧ (State.answerRefused s r).link = s.link := by
  simp [State.answerRefused]

@[simp] theorem frameComplete_frame (bs : List Byte) (s : State) :
    (frameComplete bs s).pending = s.pending ∧ (frameComplete bs s).life = s.life ∧
      (frameComplete bs s).now = s.now ∧ (frameComplete bs s).start = s.start ∧ (frameComplete bs s).free = s.free ∧
      (frameComplete bs s).build = s.build ∧ (frameComplete bs s).speed = s.speed ∧
      (frameComplete bs s).auth = s.auth ∧ (frameComplete bs s).seq = s.seq ∧ (frameComplete bs s).chan = s.chan ∧
      (frameComplete bs s).store = s.store ∧ (frameComplete bs s).run = s.run ∧ (frameComplete bs s).axle = s.axle ∧
      (frameComplete bs s).hitch = s.hitch ∧ (frameComplete bs s).brake = s.brake ∧
      (frameComplete bs s).fault = s.fault ∧ (frameComplete bs s).power = s.power ∧ (frameComplete bs s).link = s.link := by
  unfold frameComplete
  dsimp only
  repeat' split
  all_goals simp

@[simp] theorem frameByte_frame (bs : List Byte) (s : State) :
    (frameByte bs s).pending = s.pending ∧ (frameByte bs s).life = s.life ∧ (frameByte bs s).now = s.now ∧
      (frameByte bs s).start = s.start ∧ (frameByte bs s).free = s.free ∧ (frameByte bs s).build = s.build ∧
      (frameByte bs s).speed = s.speed ∧ (frameByte bs s).auth = s.auth ∧ (frameByte bs s).seq = s.seq ∧
      (frameByte bs s).chan = s.chan ∧ (frameByte bs s).store = s.store ∧ (frameByte bs s).run = s.run ∧
      (frameByte bs s).axle = s.axle ∧ (frameByte bs s).hitch = s.hitch ∧ (frameByte bs s).brake = s.brake ∧
      (frameByte bs s).fault = s.fault ∧ (frameByte bs s).power = s.power ∧ (frameByte bs s).link = s.link := by
  unfold frameByte
  repeat' split
  all_goals simp

@[simp] theorem serviceByte_frame (b : Byte) (s : State) :
    (serviceByte b s).pending = s.pending ∧ (serviceByte b s).life = s.life ∧ (serviceByte b s).now = s.now ∧
      (serviceByte b s).start = s.start ∧ (serviceByte b s).free = s.free ∧ (serviceByte b s).build = s.build ∧
      (serviceByte b s).speed = s.speed ∧ (serviceByte b s).auth = s.auth ∧ (serviceByte b s).seq = s.seq ∧
      (serviceByte b s).chan = s.chan ∧ (serviceByte b s).store = s.store ∧ (serviceByte b s).run = s.run ∧
      (serviceByte b s).axle = s.axle ∧ (serviceByte b s).hitch = s.hitch ∧ (serviceByte b s).brake = s.brake ∧
      (serviceByte b s).fault = s.fault ∧ (serviceByte b s).power = s.power ∧ (serviceByte b s).link = s.link := by
  unfold serviceByte
  repeat' split
  all_goals simp

@[simp] theorem gapExpiry_frame (s : State) :
    (gapExpiry s).pending = s.pending ∧ (gapExpiry s).life = s.life ∧ (gapExpiry s).now = s.now ∧
      (gapExpiry s).start = s.start ∧ (gapExpiry s).free = s.free ∧ (gapExpiry s).build = s.build ∧
      (gapExpiry s).speed = s.speed ∧ (gapExpiry s).auth = s.auth ∧ (gapExpiry s).seq = s.seq ∧
      (gapExpiry s).chan = s.chan ∧ (gapExpiry s).store = s.store ∧ (gapExpiry s).run = s.run ∧
      (gapExpiry s).axle = s.axle ∧ (gapExpiry s).hitch = s.hitch ∧ (gapExpiry s).brake = s.brake ∧
      (gapExpiry s).fault = s.fault ∧ (gapExpiry s).power = s.power ∧ (gapExpiry s).link = s.link := by
  unfold gapExpiry
  repeat' split
  all_goals simp

@[simp] theorem answerStart_frame (s : State) :
    (answerStart s).pending = s.pending ∧ (answerStart s).life = s.life ∧ (answerStart s).now = s.now ∧
      (answerStart s).start = s.start ∧ (answerStart s).free = s.free ∧ (answerStart s).build = s.build ∧
      (answerStart s).speed = s.speed ∧ (answerStart s).auth = s.auth ∧ (answerStart s).seq = s.seq ∧
      (answerStart s).chan = s.chan ∧ (answerStart s).store = s.store ∧ (answerStart s).run = s.run ∧
      (answerStart s).axle = s.axle ∧ (answerStart s).hitch = s.hitch ∧ (answerStart s).brake = s.brake ∧
      (answerStart s).fault = s.fault ∧ (answerStart s).power = s.power ∧ (answerStart s).link = s.link := by
  unfold answerStart
  repeat' split
  all_goals simp

@[simp] theorem toLocked_frame (s : State) :
    (toLocked s).pending = s.pending ∧ (toLocked s).life = s.life ∧ (toLocked s).now = s.now ∧
      (toLocked s).start = s.start ∧ (toLocked s).free = s.free ∧ (toLocked s).build = s.build ∧
      (toLocked s).speed = s.speed ∧ (toLocked s).chan = s.chan ∧ (toLocked s).store = s.store ∧
      (toLocked s).brake = s.brake ∧ (toLocked s).fault = s.fault ∧ (toLocked s).power = s.power ∧
      (toLocked s).link = s.link ∧ (toLocked s).seq.besides = s.seq.besides := by
  unfold toLocked
  dsimp only
  repeat' split
  all_goals simp

@[simp] theorem judgeSync_frame (word : Nat) (s : State) :
    (judgeSync word s).pending = s.pending ∧ (judgeSync word s).life = s.life ∧ (judgeSync word s).now = s.now ∧
      (judgeSync word s).start = s.start ∧ (judgeSync word s).free = s.free ∧ (judgeSync word s).build = s.build ∧
      (judgeSync word s).speed = s.speed ∧ (judgeSync word s).auth = s.auth ∧ (judgeSync word s).seq = s.seq ∧
      (judgeSync word s).chan = s.chan ∧ (judgeSync word s).store = s.store ∧ (judgeSync word s).run = s.run ∧
      (judgeSync word s).axle = s.axle ∧ (judgeSync word s).hitch = s.hitch ∧ (judgeSync word s).brake = s.brake ∧
      (judgeSync word s).fault = s.fault ∧ (judgeSync word s).power = s.power ∧ (judgeSync word s).link = s.link := by
  unfold judgeSync
  dsimp only
  repeat' split
  all_goals simp

@[simp] theorem judgeKey_frame (word : Nat) (s : State) :
    (judgeKey word s).pending = s.pending ∧ (judgeKey word s).life = s.life ∧ (judgeKey word s).now = s.now ∧
      (judgeKey word s).start = s.start ∧ (judgeKey word s).free = s.free ∧ (judgeKey word s).build = s.build ∧
      (judgeKey word s).speed = s.speed ∧ (judgeKey word s).auth = s.auth ∧ (judgeKey word s).seq = s.seq ∧
      (judgeKey word s).chan = s.chan ∧ (judgeKey word s).store = s.store ∧ (judgeKey word s).run = s.run ∧
      (judgeKey word s).axle = s.axle ∧ (judgeKey word s).hitch = s.hitch ∧ (judgeKey word s).brake = s.brake ∧
      (judgeKey word s).fault = s.fault ∧ (judgeKey word s).power = s.power ∧ (judgeKey word s).link = s.link := by
  unfold judgeKey
  dsimp only
  repeat' split
  all_goals simp

@[simp] theorem judgeCancel_frame (s : State) :
    (judgeCancel s).pending = s.pending ∧ (judgeCancel s).life = s.life ∧ (judgeCancel s).now = s.now ∧
      (judgeCancel s).start = s.start ∧ (judgeCancel s).free = s.free ∧ (judgeCancel s).build = s.build ∧
      (judgeCancel s).speed = s.speed ∧ (judgeCancel s).chan = s.chan ∧ (judgeCancel s).store = s.store ∧
      (judgeCancel s).brake = s.brake ∧ (judgeCancel s).fault = s.fault ∧ (judgeCancel s).power = s.power ∧
      (judgeCancel s).link = s.link ∧ (judgeCancel s).seq.besides = s.seq.besides := by
  unfold judgeCancel
  repeat' split
  all_goals simp

@[simp] theorem judgeLock_frame (s : State) :
    (judgeLock s).pending = s.pending ∧ (judgeLock s).life = s.life ∧ (judgeLock s).now = s.now ∧
      (judgeLock s).start = s.start ∧ (judgeLock s).free = s.free ∧ (judgeLock s).build = s.build ∧
      (judgeLock s).speed = s.speed ∧ (judgeLock s).chan = s.chan ∧ (judgeLock s).store = s.store ∧
      (judgeLock s).brake = s.brake ∧ (judgeLock s).fault = s.fault ∧ (judgeLock s).power = s.power ∧
      (judgeLock s).link = s.link ∧ (judgeLock s).seq.besides = s.seq.besides := by
  unfold judgeLock
  repeat' split
  all_goals simp

@[simp] theorem silenceExpiry_frame (s : State) :
    (silenceExpiry s).pending = s.pending ∧ (silenceExpiry s).life = s.life ∧ (silenceExpiry s).now = s.now ∧
      (silenceExpiry s).start = s.start ∧ (silenceExpiry s).free = s.free ∧ (silenceExpiry s).build = s.build ∧
      (silenceExpiry s).speed = s.speed ∧ (silenceExpiry s).chan = s.chan ∧ (silenceExpiry s).store = s.store ∧
      (silenceExpiry s).brake = s.brake ∧ (silenceExpiry s).fault = s.fault ∧ (silenceExpiry s).power = s.power ∧
      (silenceExpiry s).link = s.link ∧ (silenceExpiry s).seq.besides = s.seq.besides := by
  unfold silenceExpiry
  repeat' split
  all_goals simp

@[simp] theorem syncBlockExpiry_frame (s : State) :
    (syncBlockExpiry s).pending = s.pending ∧ (syncBlockExpiry s).life = s.life ∧ (syncBlockExpiry s).now = s.now ∧
      (syncBlockExpiry s).start = s.start ∧ (syncBlockExpiry s).free = s.free ∧ (syncBlockExpiry s).build = s.build ∧
      (syncBlockExpiry s).speed = s.speed ∧ (syncBlockExpiry s).auth = s.auth ∧ (syncBlockExpiry s).seq = s.seq ∧
      (syncBlockExpiry s).chan = s.chan ∧ (syncBlockExpiry s).store = s.store ∧ (syncBlockExpiry s).run = s.run ∧
      (syncBlockExpiry s).axle = s.axle ∧ (syncBlockExpiry s).hitch = s.hitch ∧ (syncBlockExpiry s).brake = s.brake ∧
      (syncBlockExpiry s).fault = s.fault ∧ (syncBlockExpiry s).power = s.power ∧ (syncBlockExpiry s).link = s.link := by
  unfold syncBlockExpiry
  repeat' split
  all_goals simp

@[simp] theorem judgeTake_frame (code : Nat) (s : State) :
    (judgeTake code s).pending = s.pending ∧ (judgeTake code s).life = s.life ∧ (judgeTake code s).now = s.now ∧
      (judgeTake code s).start = s.start ∧ (judgeTake code s).free = s.free ∧ (judgeTake code s).build = s.build ∧
      (judgeTake code s).speed = s.speed ∧ (judgeTake code s).chan = s.chan ∧ (judgeTake code s).store = s.store ∧
      (judgeTake code s).brake = s.brake ∧ (judgeTake code s).fault = s.fault ∧ (judgeTake code s).power = s.power ∧
      (judgeTake code s).seq.besides = s.seq.besides := by
  unfold judgeTake
  repeat' split
  all_goals simp

@[simp] theorem judgeServiceRelease_frame (code : Nat) (s : State) :
    (judgeServiceRelease code s).pending = s.pending ∧ (judgeServiceRelease code s).life = s.life ∧
      (judgeServiceRelease code s).now = s.now ∧ (judgeServiceRelease code s).start = s.start ∧
      (judgeServiceRelease code s).free = s.free ∧ (judgeServiceRelease code s).build = s.build ∧
      (judgeServiceRelease code s).speed = s.speed ∧ (judgeServiceRelease code s).chan = s.chan ∧
      (judgeServiceRelease code s).store = s.store ∧ (judgeServiceRelease code s).brake = s.brake ∧
      (judgeServiceRelease code s).fault = s.fault ∧ (judgeServiceRelease code s).power = s.power ∧
      (judgeServiceRelease code s).link = s.link ∧ (judgeServiceRelease code s).seq.besides = s.seq.besides := by
  unfold judgeServiceRelease
  repeat' split
  all_goals simp

@[simp] theorem judgeRestart_frame (s : State) :
    (judgeRestart s).pending = s.pending ∧ (judgeRestart s).life = s.life ∧ (judgeRestart s).now = s.now ∧
      (judgeRestart s).start = s.start ∧ (judgeRestart s).free = s.free ∧ (judgeRestart s).build = s.build ∧
      (judgeRestart s).speed = s.speed ∧ (judgeRestart s).auth = s.auth ∧ (judgeRestart s).seq = s.seq ∧
      (judgeRestart s).chan = s.chan ∧ (judgeRestart s).store = s.store ∧ (judgeRestart s).run = s.run ∧
      (judgeRestart s).axle = s.axle ∧ (judgeRestart s).hitch = s.hitch ∧ (judgeRestart s).brake = s.brake ∧
      (judgeRestart s).fault = s.fault ∧ (judgeRestart s).power = s.power ∧ (judgeRestart s).link = s.link := by
  unfold judgeRestart
  repeat' split
  all_goals simp

@[simp] theorem takeRead_frame (item : Nat) (s : State) :
    (takeRead item s).pending = s.pending ∧ (takeRead item s).life = s.life ∧ (takeRead item s).now = s.now ∧
      (takeRead item s).start = s.start ∧ (takeRead item s).free = s.free ∧ (takeRead item s).build = s.build ∧
      (takeRead item s).speed = s.speed ∧ (takeRead item s).auth = s.auth ∧ (takeRead item s).seq = s.seq ∧
      (takeRead item s).chan = s.chan ∧ (takeRead item s).store = s.store ∧ (takeRead item s).run = s.run ∧
      (takeRead item s).axle = s.axle ∧ (takeRead item s).hitch = s.hitch ∧ (takeRead item s).brake = s.brake ∧
      (takeRead item s).fault = s.fault ∧ (takeRead item s).power = s.power ∧ (takeRead item s).link = s.link := by
  unfold takeRead
  repeat' split
  all_goals simp

end Sys2Proof.Machine
end

