-- ==== Sys2Proof/Laws/Faults.lean ====
section
/-! SUPPORT. What a raise and a report of inactivity do: the active codes, the gates, and, for a code that closes no gate
and that no block reacts to at once, everything else (R157 to R166). -/

namespace Sys2Proof.Machine

/-! ### Active codes -/

/-- Offering notices changes neither the active codes nor the gates. -/
theorem offerNoticesUpTo_keeps (n : Nat) (s : State) :
    (offerNoticesUpTo n s).fault.active = s.fault.active ∧ (offerNoticesUpTo n s).fault.gates = s.fault.gates := by
  induction n generalizing s with
  | zero => simp [offerNoticesUpTo]
  | succ n ih =>
    simp only [offerNoticesUpTo]
    split
    · split
      · rename_i e _
        have hp : (s.placeNotice e).fault.active = s.fault.active ∧ (s.placeNotice e).fault.gates = s.fault.gates := by
          unfold State.placeNotice
          dsimp only
          split <;> simp [State.removeEntry]
        rw [(ih _).1, (ih _).2]; exact hp
      · simp
    · simp

/-- Offering notices changes neither the active codes nor the gates. -/
@[simp] theorem State.offerNotices_keeps (s : State) :
    s.offerNotices.fault.active = s.fault.active ∧ s.offerNotices.fault.gates = s.fault.gates :=
  offerNoticesUpTo_keeps 16 s

/-- Whether a code is active in a set with one code added or taken away. -/
theorem mem_setActive (c d : FaultCode) (on : Bool) (l : List FaultCode) :
    d ∈ setActive c on l ↔ if d = c then on = true else d ∈ l := by
  have : d ∈ allCodes := by cases d <;> decide
  simp only [setActive, List.mem_filter, this, true_and]
  split <;> simp

/-- Closing gates changes no active code. -/
@[simp] theorem State.closeGate_active (s : State) (c : FaultCode) (g : Group) :
    (s.closeGate c g).fault.active = s.fault.active := by
  unfold State.closeGate
  dsimp only
  split <;> simp

/-- A change of closing records changes no active code. -/
@[simp] theorem State.updateGate_active (s : State) (f : Closing → Closing) (g : Group) :
    (s.updateGate f g).fault.active = s.fault.active := by
  unfold State.updateGate
  dsimp only
  split <;> simp

/-- The active codes after a raise. -/
@[simp] theorem State.raise_active_codes (s : State) (c : FaultCode) (named : Option Group) :
    (s.raise c named).fault.active = setActive c true s.fault.active := by
  have hrec (f : FaultState) : (record s.now c f).active = f.active := by
    unfold record
    repeat' split
    all_goals rfl
  have hfold : ((gatesOf c named).foldl (fun (s : State) g => s.closeGate c g)
      { s with fault := record s.now c { s.fault with active := setActive c true s.fault.active } }).fault.active
        = setActive c true s.fault.active := by
    refine foldl_keeps (fun (t : State) => t.fault.active = setActive c true s.fault.active) _ _ _ ?_ ?_
    · simp [hrec]
    · intro t g _ ht; simpa using ht
  simp only [State.raise, State.offerNotices_keeps, State.tellRaised_frame]
  exact hfold

/-- Which codes are active after a raise. -/
@[simp] theorem State.raise_active (s : State) (c d : FaultCode) (named : Option Group) :
    (s.raise c named).active d = (decide (d = c) || s.active d) := by
  simp only [State.active, State.raise_active_codes, mem_setActive]
  by_cases h : d = c <;> simp [h]

/-- The active codes after a report of inactivity. -/
@[simp] theorem State.inactive_active_codes (s : State) (c : FaultCode) :
    (s.inactive c).fault.active = setActive c false s.fault.active := by
  simp [State.inactive, allGroups]

/-- Which codes are active after a report of inactivity. -/
@[simp] theorem State.reportInactive_active (s : State) (c d : FaultCode) :
    (s.reportInactive c).active d = (decide (d ≠ c) && s.active d) := by
  unfold State.reportInactive
  split
  · simp only [State.active, State.inactive_active_codes, mem_setActive]
    by_cases h : d = c <;> simp [h]
  · rename_i h
    by_cases hd : d = c
    · subst hd; simpa using h
    · simp [hd]

/-! ### Gates -/

/-- A closing record of the code stands in a list of records after the raise. -/
theorem closeRecord_ne_nil (c : FaultCode) (r : List Closing) : closeRecord c r ≠ [] := by
  unfold closeRecord
  split
  · intro h
    simp only [List.map_eq_nil_iff] at h
    simp_all
  · simp

/-- The gates after a gate is closed. -/
@[simp] theorem State.closeGate_gates (s : State) (c : FaultCode) (g : Group) :
    (s.closeGate c g).fault.gates = s.fault.gates.set g (closeRecord c (s.fault.gates.get g)) := by
  unfold State.closeGate
  dsimp only
  split <;> simp

/-- The gates after a change of a gate's records. -/
@[simp] theorem State.updateGate_gates (s : State) (f : Closing → Closing) (g : Group) :
    (s.updateGate f g).fault.gates
      = s.fault.gates.set g (((s.fault.gates.get g).map f).filter (fun k => k.active || !k.acked)) := by
  unfold State.updateGate
  dsimp only
  split <;> simp

/-- The gates after a raise: each gate the code closes holds its record, every other gate is as it was. -/
theorem State.raise_gates (s : State) (c : FaultCode) (named : Option Group) :
    (s.raise c named).fault.gates
      = (gatesOf c named).foldl (fun p g => p.set g (closeRecord c (p.get g))) s.fault.gates := by
  have hrec (f : FaultState) : (record s.now c f).gates = f.gates := by
    unfold record
    repeat' split
    all_goals rfl
  have hfold (l : List Group) (t : State) :
      (l.foldl (fun (s : State) g => s.closeGate c g) t).fault.gates
        = l.foldl (fun p g => p.set g (closeRecord c (p.get g))) t.fault.gates := by
    induction l generalizing t with
    | nil => rfl
    | cons g rest ih => simp only [List.foldl_cons]; rw [ih]; simp
  simp only [State.raise, State.offerNotices_keeps, State.tellRaised_frame]
  rw [hfold, hrec]

/-! ### A code that closes no gate -/

/-- A raise of a code that closes no gate and is neither fault 3 nor fault 4 changes only the Fault List and the queue of
the vehicle link. -/
theorem State.raise_quiet (s : State) (c : FaultCode) (named : Option Group) (hg : gatesOf c named = [])
    (h3 : c ≠ .vehicleLinkLost) (h4 : c ≠ .trailerSupplyLost) :
    (s.raise c named).auth = s.auth ∧ (s.raise c named).chan = s.chan ∧ (s.raise c named).axle = s.axle ∧
      (s.raise c named).hitch = s.hitch ∧ (s.raise c named).brake = s.brake := by
  have ht (t : State) : t.tellRaised c = t := by cases c <;> first | rfl | contradiction
  simp [State.raise, hg, ht]

end Sys2Proof.Machine
end

