-- ==== Sys2Proof/Laws/Memory.lean ====
section
/-! SUPPORT. The memory of the store: every operation keeps the canonical form, a byte reads as it was last written, and no
other byte changes (R99; log 7). -/

namespace Sys2Proof.Machine

/-! ### The canonical form -/

/-- A lower bound may be lowered. -/
theorem Memory.wfFrom_mono {lo lo' : Nat} {m : List Host.Cell} (h : Memory.wfFrom lo m = true) (hle : lo' ≤ lo) :
    Memory.wfFrom lo' m = true := by
  cases m with
  | nil => rfl
  | cons c rest =>
    obtain ⟨k, b⟩ := c
    simp only [Memory.wfFrom, Bool.and_eq_true, decide_eq_true_eq] at h ⊢
    exact ⟨⟨Nat.le_trans hle h.1.1, h.1.2⟩, h.2⟩

/-- A write at or above the bound keeps the form above the bound. -/
theorem Memory.wfFrom_write {lo a : Nat} {b : Byte} {m : List Host.Cell} (h : Memory.wfFrom lo m = true) (ha : lo ≤ a) :
    Memory.wfFrom lo (Memory.write m a b) = true := by
  induction m generalizing lo with
  | nil =>
    simp only [Memory.write]
    split
    · rfl
    · simp_all [Memory.wfFrom]
  | cons c rest ih =>
    obtain ⟨k, c⟩ := c
    simp only [Memory.wfFrom, Bool.and_eq_true, decide_eq_true_eq] at h
    simp only [Memory.write]
    split
    · split
      · simp_all [Memory.wfFrom]
      · simp only [Memory.wfFrom, Bool.and_eq_true, decide_eq_true_eq]
        exact ⟨⟨ha, by assumption⟩, ⟨by omega, h.1.2⟩, h.2⟩
    · split
      · split
        · exact Memory.wfFrom_mono h.2 (by omega)
        · simp only [Memory.wfFrom, Bool.and_eq_true, decide_eq_true_eq]
          exact ⟨⟨ha, by assumption⟩, Memory.wfFrom_mono h.2 (by omega)⟩
      · simp only [Memory.wfFrom, Bool.and_eq_true, decide_eq_true_eq]
        exact ⟨h.1, ih h.2 (by omega)⟩

/-- A write keeps the canonical form. -/
theorem Memory.wf_write {m : List Host.Cell} (h : Memory.wf m = true) (a : Nat) (b : Byte) :
    Memory.wf (Memory.write m a b) = true := Memory.wfFrom_write h (Nat.zero_le a)

/-- A write of several bytes keeps the canonical form. -/
theorem Memory.wf_writeBytes {m : List Host.Cell} (h : Memory.wf m = true) (a : Nat) (bs : List Byte) :
    Memory.wf (Memory.writeBytes m a bs) = true := by
  induction bs generalizing m a with
  | nil => exact h
  | cons b rest ih => exact ih (Memory.wf_write h a b) (a + 1)

/-- Removing cells keeps the form. -/
theorem Memory.wfFrom_filter {lo : Nat} {m : List Host.Cell} (h : Memory.wfFrom lo m = true) (p : Host.Cell → Bool) :
    Memory.wfFrom lo (m.filter p) = true := by
  induction m generalizing lo with
  | nil => rfl
  | cons c rest ih =>
    obtain ⟨k, b⟩ := c
    simp only [Memory.wfFrom, Bool.and_eq_true, decide_eq_true_eq] at h
    simp only [List.filter_cons]
    split
    · simp only [Memory.wfFrom, Bool.and_eq_true, decide_eq_true_eq]
      exact ⟨h.1, ih h.2⟩
    · exact ih (Memory.wfFrom_mono h.2 (by omega))

/-- An erase of a page keeps the canonical form. -/
theorem Memory.wf_erasePage {m : List Host.Cell} (h : Memory.wf m = true) (p : Page) :
    Memory.wf (Memory.erasePage m p) = true := Memory.wfFrom_filter h _

/-- The memory at reset has the canonical form. -/
theorem Memory.wf_reset : Memory.wf State.reset.store.mem = true := by decide

/-! ### Reading -/

/-- Below its lower bound a memory reads erased. -/
theorem Memory.read_below {lo a : Nat} {m : List Host.Cell} (h : Memory.wfFrom lo m = true) (ha : a < lo) :
    Memory.read m a = erasedByte := by
  induction m generalizing lo with
  | nil => rfl
  | cons c rest ih =>
    obtain ⟨k, b⟩ := c
    simp only [Memory.wfFrom, Bool.and_eq_true, decide_eq_true_eq] at h
    simp only [Memory.read]
    rw [if_neg (by omega)]
    exact ih h.2 (by omega)

/-- A read after a write in a memory of canonical form: the byte written, and every other byte as it was. -/
theorem Memory.read_writeFrom {lo a x : Nat} {b : Byte} {m : List Host.Cell} (h : Memory.wfFrom lo m = true) :
    Memory.read (Memory.write m a b) x = if x = a then b else Memory.read m x := by
  induction m generalizing lo with
  | nil =>
    simp only [Memory.write]
    split
    · split <;> simp_all [Memory.read]
    · simp only [Memory.read, eq_comm]
  | cons c rest ih =>
    obtain ⟨k, c⟩ := c
    simp only [Memory.wfFrom, Bool.and_eq_true, decide_eq_true_eq] at h
    simp only [Memory.write]
    split
    · rename_i hk
      split
      · rename_i hb
        split
        · rename_i hx
          subst hx
          simp only [Memory.read]
          rw [if_neg (by omega), Memory.read_below h.2 (by omega), hb]
        · rfl
      · simp only [Memory.read, eq_comm (a := a)]
    · split
      · rename_i hk
        subst hk
        split
        · rename_i hb
          by_cases hx : x = a
          · subst hx; rw [if_pos rfl, Memory.read_below h.2 (by omega), hb]
          · simp only [Memory.read]; rw [if_neg hx, if_neg (by omega)]
        · simp only [Memory.read, eq_comm (a := a)]
          by_cases hx : x = a
          · simp [hx]
          · simp [hx]
      · simp only [Memory.read]
        by_cases hx : k = x
        · subst hx; rw [if_pos rfl, if_neg (by omega), if_pos rfl]
        · rw [if_neg hx, if_neg hx]; exact ih h.2

/-- A read after a write. -/
theorem Memory.read_write {m : List Host.Cell} (h : Memory.wf m = true) (a x : Nat) (b : Byte) :
    Memory.read (Memory.write m a b) x = if x = a then b else Memory.read m x := Memory.read_writeFrom h

/-- Bytes outside those written read as before. -/
theorem Memory.read_writeBytes_outside {m : List Host.Cell} (h : Memory.wf m = true) (a x : Nat) (bs : List Byte)
    (hx : x < a ∨ a + bs.length ≤ x) : Memory.read (Memory.writeBytes m a bs) x = Memory.read m x := by
  induction bs generalizing m a with
  | nil => rfl
  | cons b rest ih =>
    simp only [List.length_cons] at hx
    simp only [Memory.writeBytes]
    rw [ih (Memory.wf_write h a b) (a + 1) (by omega), Memory.read_write h, if_neg (by omega)]

/-- Bytes written read as written. -/
theorem Memory.readBytes_writeBytes {m : List Host.Cell} (h : Memory.wf m = true) (a : Nat) (bs : List Byte) :
    Memory.readBytes (Memory.writeBytes m a bs) a bs.length = bs := by
  induction bs generalizing m a with
  | nil => rfl
  | cons b rest ih =>
    simp only [Memory.writeBytes, List.length_cons, Memory.readBytes]
    rw [ih (Memory.wf_write h a b) (a + 1),
      Memory.read_writeBytes_outside (Memory.wf_write h a b) (a + 1) a rest (by omega), Memory.read_write h, if_pos rfl]

/-- A byte of a memory from which some cells are removed. -/
theorem Memory.read_filter {lo : Nat} {m : List Host.Cell} (h : Memory.wfFrom lo m = true) (p : Nat → Bool) (x : Nat) :
    Memory.read (m.filter (fun c => p c.1)) x = if p x then Memory.read m x else erasedByte := by
  induction m generalizing lo with
  | nil => simp [Memory.read]
  | cons c rest ih =>
    obtain ⟨k, b⟩ := c
    simp only [Memory.wfFrom, Bool.and_eq_true, decide_eq_true_eq] at h
    simp only [List.filter_cons, Memory.read]
    split
    · simp only [Memory.read]
      by_cases hk : k = x
      · subst hk; simp_all
      · rw [if_neg hk, if_neg hk]; exact ih h.2
    · rw [ih h.2]
      by_cases hk : k = x
      · subst hk; simp_all
      · rw [if_neg hk]

/-- After an erase, every byte of the page reads erased and every other byte as before. -/
theorem Memory.read_erasePage {m : List Host.Cell} (h : Memory.wf m = true) (p : Page) (x : Nat) :
    Memory.read (Memory.erasePage m p) x =
      if x < pageBase p ∨ pageBase p + 1024 ≤ x then Memory.read m x else erasedByte := by
  have := Memory.read_filter h (fun x => decide (x < pageBase p) || decide (pageBase p + 1024 ≤ x)) x
  simpa [Memory.erasePage] using this

end Sys2Proof.Machine
end

