-- ==== Sys2Proof/WellFormed.lean ====
section
/-! DEFINITION. Well-formed commands: operands within what the lines, sensors and frames can give (00_scope.md "Quantities";
R71, R78, R121, R122, R143, R102). `exec` clamps readings the spec gives a range, so a command that is not well formed still
runs. -/

namespace Sys2Proof

/-- A pedal reading, 0 to 1000 (section 3.9). -/
def pedalOk (p : Nat) : Bool := decide (p ≤ 1000)

/-- A 12-bit reading (R121, R143). -/
def rawOk (r : Nat) : Bool := decide (r ≤ 4095)

/-- A draft pin reading in counts (R122). -/
def pinOk (p : Int) : Bool := decide (-2048 ≤ p) && decide (p ≤ 2047)

/-- A sensed current, 0 to 1600 mA (R70). -/
def ampOk (a : Nat) : Bool := decide (a ≤ 1600)

/-- The nine clutches' currents are within range. -/
def PerClutch.ampsOk (p : PerClutch Nat) : Bool :=
  ampOk p.cf && ampOk p.cv && ampOk p.c1 && ampOk p.c2 && ampOk p.c3 && ampOk p.c4 && ampOk p.cl && ampOk p.cm
    && ampOk p.ch

/-- The sixteen channels' currents are within range. -/
def PerChan.ampsOk (p : PerChan Nat) : Bool :=
  p.clutch.ampsOk && ampOk p.fwdRelease && ampOk p.diffLock && ampOk p.hitchRaise && ampOk p.hitchLower
    && ampOk p.trailerControl && ampOk p.trailerSupply && ampOk p.spare

/-- A read-back of at most some bytes. -/
def ReadBack.fits (k : Nat) (r : ReadBack) : Bool :=
  match r with
  | .asMeant => true
  | .other bs => decide (bs.length ≤ k)

/-- The frame data of a CAN frame: at most 8 bytes. -/
def dataOk (d : List Byte) : Bool := decide (d.length ≤ 8)

/-- The inputs of a hitch step are within range (R120). -/
def HitchInputs.ok (h : HitchInputs) : Bool := rawOk h.adc && pinOk h.pinLeft && pinOk h.pinRight && pedalOk h.pedal

/-- The inputs of a brake step are within range (R142). -/
def BrakeInputs.ok (b : BrakeInputs) : Bool := rawOk b.rawBrake && rawOk b.rawLine

/-- A well-formed command. -/
def Instr.wellFormed (i : Instr) : Bool :=
  match i with
  | .speedSample _ p => pedalOk p
  | .pickupEdge _ _ us => decide (us < 1000)
  | .authorityReview _ => true
  | .implAuthorityRequest _ => true
  | .implAuthorityKeep _ => true
  | .implAuthorityRelease _ => true
  | .pendingTimeout _ _ => true
  | .leaseLapse _ _ => true
  | .shiftStep _ p => pedalOk p
  | .cabCommandGearUp _ => true
  | .cabCommandGearDown _ => true
  | .cabCommandDirection _ => true
  | .cabCommandAck _ => true
  | .implSpeed _ => true
  | .channelStep _ a v => a.ampsOk && decide (v ≤ 400)
  | .oilTimer _ _ => true
  | .runStep _ p => pedalOk p
  | .slotProgramComplete _ r => r.fits 16
  | .voidProgramComplete _ => true
  | .pageEraseComplete _ r => r.fits 1024
  | .headerProgramComplete _ r => r.fits 16
  | .storeDrained _ => true
  | .axleStep _ _ => true
  | .implAxle _ => true
  | .hitchStep _ h => h.ok
  | .implHitchSetpoint _ => true
  | .implHitchRaise _ => true
  | .implHitchWork _ => true
  | .hitchStatus _ => true
  | .brakeStep _ b => b.ok
  | .trailerStatus _ => true
  | .entryRemoval _ _ => true
  | .powerStep _ _ rs => rs.all (ReadBack.fits 1024)
  | .supplyApplied _ _ => true
  | .strapWindowEnd _ l => decide (l.length = 50)
  | .linkCheck _ => true
  | .engineReport _ d => dataOk d
  | .operatorDemandA _ d => dataOk d
  | .operatorDemandB _ d => dataOk d
  | .eventFrameReceived _ _ ident d => decide (ident < 2048) && dataOk d
  | .frameSent _ _ => true
  | .reportTimer _ => true
  | .busOff _ _ => true
  | .linkRejoin _ _ => true
  | .serviceByte _ _ => true
  | .serviceGapExpiry _ => true
  | .answerStart _ => true
  | .answerSent _ rs => rs.all (ReadBack.fits 1024)
  | .sync _ => true
  | .key _ => true
  | .cancel _ => true
  | .lock _ => true
  | .readItem _ => true
  | .writeItem _ => true
  | .take _ => true
  | .release _ => true
  | .calRun _ p => pedalOk p
  | .calAbort _ => true
  | .storeNow _ => true
  | .restart _ => true
  | .silenceExpiry _ => true
  | .syncBlockExpiry _ => true
  | .lossOfSupply _ u => decide (u.length ≤ 1024)
  | .serviceLineFirstRise _ => true

end Sys2Proof
end

