-- ==== Sys2Proof/Laws/PerInstr.lean ====
section
/-! SUPPORT. Statements for each command as syntax. TimeFree: the time since the previous command is an operand of every
command, and whether a command is well formed does not depend on it. -/

namespace Sys2Proof

/-- The time since the previous command (log 3). -/
def Instr.delay (i : Instr) : Nat :=
  match i with
  | .speedSample dt _ => dt
  | .pickupEdge dt _ _ => dt
  | .authorityReview dt => dt
  | .implAuthorityRequest dt => dt
  | .implAuthorityKeep dt => dt
  | .implAuthorityRelease dt => dt
  | .pendingTimeout dt _ => dt
  | .leaseLapse dt _ => dt
  | .shiftStep dt _ => dt
  | .cabCommandGearUp dt => dt
  | .cabCommandGearDown dt => dt
  | .cabCommandDirection dt => dt
  | .cabCommandAck dt => dt
  | .implSpeed dt => dt
  | .channelStep dt _ _ => dt
  | .oilTimer dt _ => dt
  | .runStep dt _ => dt
  | .slotProgramComplete dt _ => dt
  | .voidProgramComplete dt => dt
  | .pageEraseComplete dt _ => dt
  | .headerProgramComplete dt _ => dt
  | .storeDrained dt => dt
  | .axleStep dt _ => dt
  | .implAxle dt => dt
  | .hitchStep dt _ => dt
  | .implHitchSetpoint dt => dt
  | .implHitchRaise dt => dt
  | .implHitchWork dt => dt
  | .hitchStatus dt => dt
  | .brakeStep dt _ => dt
  | .trailerStatus dt => dt
  | .entryRemoval dt _ => dt
  | .powerStep dt _ _ => dt
  | .supplyApplied dt _ => dt
  | .strapWindowEnd dt _ => dt
  | .linkCheck dt => dt
  | .engineReport dt _ => dt
  | .operatorDemandA dt _ => dt
  | .operatorDemandB dt _ => dt
  | .eventFrameReceived dt _ _ _ => dt
  | .frameSent dt _ => dt
  | .reportTimer dt => dt
  | .busOff dt _ => dt
  | .linkRejoin dt _ => dt
  | .serviceByte dt _ => dt
  | .serviceGapExpiry dt => dt
  | .answerStart dt => dt
  | .answerSent dt _ => dt
  | .sync dt => dt
  | .key dt => dt
  | .cancel dt => dt
  | .lock dt => dt
  | .readItem dt => dt
  | .writeItem dt => dt
  | .take dt => dt
  | .release dt => dt
  | .calRun dt _ => dt
  | .calAbort dt => dt
  | .storeNow dt => dt
  | .restart dt => dt
  | .silenceExpiry dt => dt
  | .syncBlockExpiry dt => dt
  | .lossOfSupply dt _ => dt
  | .serviceLineFirstRise dt => dt

/-- The command after another time. -/
def Instr.withDelay (i : Instr) (n : Nat) : Instr :=
  match i with
  | .speedSample _ pedal => .speedSample n pedal
  | .pickupEdge _ p us => .pickupEdge n p us
  | .authorityReview _ => .authorityReview n
  | .implAuthorityRequest _ => .implAuthorityRequest n
  | .implAuthorityKeep _ => .implAuthorityKeep n
  | .implAuthorityRelease _ => .implAuthorityRelease n
  | .pendingTimeout _ f => .pendingTimeout n f
  | .leaseLapse _ f => .leaseLapse n f
  | .shiftStep _ pedal => .shiftStep n pedal
  | .cabCommandGearUp _ => .cabCommandGearUp n
  | .cabCommandGearDown _ => .cabCommandGearDown n
  | .cabCommandDirection _ => .cabCommandDirection n
  | .cabCommandAck _ => .cabCommandAck n
  | .implSpeed _ => .implSpeed n
  | .channelStep _ amps volts => .channelStep n amps volts
  | .oilTimer _ temp => .oilTimer n temp
  | .runStep _ pedal => .runStep n pedal
  | .slotProgramComplete _ rb => .slotProgramComplete n rb
  | .voidProgramComplete _ => .voidProgramComplete n
  | .pageEraseComplete _ rb => .pageEraseComplete n rb
  | .headerProgramComplete _ rb => .headerProgramComplete n rb
  | .storeDrained _ => .storeDrained n
  | .axleStep _ switchClosed => .axleStep n switchClosed
  | .implAxle _ => .implAxle n
  | .hitchStep _ inp => .hitchStep n inp
  | .implHitchSetpoint _ => .implHitchSetpoint n
  | .implHitchRaise _ => .implHitchRaise n
  | .implHitchWork _ => .implHitchWork n
  | .hitchStatus _ => .hitchStatus n
  | .brakeStep _ inp => .brakeStep n inp
  | .trailerStatus _ => .trailerStatus n
  | .entryRemoval _ code => .entryRemoval n code
  | .powerStep _ ignition rbs => .powerStep n ignition rbs
  | .supplyApplied _ ignition => .supplyApplied n ignition
  | .strapWindowEnd _ readings => .strapWindowEnd n readings
  | .linkCheck _ => .linkCheck n
  | .engineReport _ data => .engineReport n data
  | .operatorDemandA _ data => .operatorDemandA n data
  | .operatorDemandB _ data => .operatorDemandB n data
  | .eventFrameReceived _ l ident data => .eventFrameReceived n l ident data
  | .frameSent _ l => .frameSent n l
  | .reportTimer _ => .reportTimer n
  | .busOff _ l => .busOff n l
  | .linkRejoin _ l => .linkRejoin n l
  | .serviceByte _ b => .serviceByte n b
  | .serviceGapExpiry _ => .serviceGapExpiry n
  | .answerStart _ => .answerStart n
  | .answerSent _ rbs => .answerSent n rbs
  | .sync _ => .sync n
  | .key _ => .key n
  | .cancel _ => .cancel n
  | .lock _ => .lock n
  | .readItem _ => .readItem n
  | .writeItem _ => .writeItem n
  | .take _ => .take n
  | .release _ => .release n
  | .calRun _ pedal => .calRun n pedal
  | .calAbort _ => .calAbort n
  | .storeNow _ => .storeNow n
  | .restart _ => .restart n
  | .silenceExpiry _ => .silenceExpiry n
  | .syncBlockExpiry _ => .syncBlockExpiry n
  | .lossOfSupply _ untouched => .lossOfSupply n untouched
  | .serviceLineFirstRise _ => .serviceLineFirstRise n

namespace Laws

/-- The command after another time has that time, and is well formed if it was. -/
def TimeFree.Statement (i : Instr) : Prop :=
  ∀ n, (i.withDelay n).delay = n ∧ (i.withDelay n).wellFormed = i.wellFormed

theorem TimeFree.speedSample x0 x1 : TimeFree.Statement (.speedSample x0 x1) :=
  fun _ => ⟨rfl, rfl⟩

theorem TimeFree.pickupEdge x0 x1 x2 : TimeFree.Statement (.pickupEdge x0 x1 x2) :=
  fun _ => ⟨rfl, rfl⟩

theorem TimeFree.authorityReview x0 : TimeFree.Statement (.authorityReview x0) :=
  fun _ => ⟨rfl, rfl⟩

theorem TimeFree.implAuthorityRequest x0 : TimeFree.Statement (.implAuthorityRequest x0) :=
  fun _ => ⟨rfl, rfl⟩

theorem TimeFree.implAuthorityKeep x0 : TimeFree.Statement (.implAuthorityKeep x0) :=
  fun _ => ⟨rfl, rfl⟩

theorem TimeFree.implAuthorityRelease x0 : TimeFree.Statement (.implAuthorityRelease x0) :=
  fun _ => ⟨rfl, rfl⟩

theorem TimeFree.pendingTimeout x0 x1 : TimeFree.Statement (.pendingTimeout x0 x1) :=
  fun _ => ⟨rfl, rfl⟩

theorem TimeFree.leaseLapse x0 x1 : TimeFree.Statement (.leaseLapse x0 x1) :=
  fun _ => ⟨rfl, rfl⟩

theorem TimeFree.shiftStep x0 x1 : TimeFree.Statement (.shiftStep x0 x1) :=
  fun _ => ⟨rfl, rfl⟩

theorem TimeFree.cabCommandGearUp x0 : TimeFree.Statement (.cabCommandGearUp x0) :=
  fun _ => ⟨rfl, rfl⟩

theorem TimeFree.cabCommandGearDown x0 : TimeFree.Statement (.cabCommandGearDown x0) :=
  fun _ => ⟨rfl, rfl⟩

theorem TimeFree.cabCommandDirection x0 : TimeFree.Statement (.cabCommandDirection x0) :=
  fun _ => ⟨rfl, rfl⟩

theorem TimeFree.cabCommandAck x0 : TimeFree.Statement (.cabCommandAck x0) :=
  fun _ => ⟨rfl, rfl⟩

theorem TimeFree.implSpeed x0 : TimeFree.Statement (.implSpeed x0) :=
  fun _ => ⟨rfl, rfl⟩

theorem TimeFree.channelStep x0 x1 x2 : TimeFree.Statement (.channelStep x0 x1 x2) :=
  fun _ => ⟨rfl, rfl⟩

theorem TimeFree.oilTimer x0 x1 : TimeFree.Statement (.oilTimer x0 x1) :=
  fun _ => ⟨rfl, rfl⟩

theorem TimeFree.runStep x0 x1 : TimeFree.Statement (.runStep x0 x1) :=
  fun _ => ⟨rfl, rfl⟩

theorem TimeFree.slotProgramComplete x0 x1 : TimeFree.Statement (.slotProgramComplete x0 x1) :=
  fun _ => ⟨rfl, rfl⟩

theorem TimeFree.voidProgramComplete x0 : TimeFree.Statement (.voidProgramComplete x0) :=
  fun _ => ⟨rfl, rfl⟩

theorem TimeFree.pageEraseComplete x0 x1 : TimeFree.Statement (.pageEraseComplete x0 x1) :=
  fun _ => ⟨rfl, rfl⟩

theorem TimeFree.headerProgramComplete x0 x1 : TimeFree.Statement (.headerProgramComplete x0 x1) :=
  fun _ => ⟨rfl, rfl⟩

theorem TimeFree.storeDrained x0 : TimeFree.Statement (.storeDrained x0) :=
  fun _ => ⟨rfl, rfl⟩

theorem TimeFree.axleStep x0 x1 : TimeFree.Statement (.axleStep x0 x1) :=
  fun _ => ⟨rfl, rfl⟩

theorem TimeFree.implAxle x0 : TimeFree.Statement (.implAxle x0) :=
  fun _ => ⟨rfl, rfl⟩

theorem TimeFree.hitchStep x0 x1 : TimeFree.Statement (.hitchStep x0 x1) :=
  fun _ => ⟨rfl, rfl⟩

theorem TimeFree.implHitchSetpoint x0 : TimeFree.Statement (.implHitchSetpoint x0) :=
  fun _ => ⟨rfl, rfl⟩

theorem TimeFree.implHitchRaise x0 : TimeFree.Statement (.implHitchRaise x0) :=
  fun _ => ⟨rfl, rfl⟩

theorem TimeFree.implHitchWork x0 : TimeFree.Statement (.implHitchWork x0) :=
  fun _ => ⟨rfl, rfl⟩

theorem TimeFree.hitchStatus x0 : TimeFree.Statement (.hitchStatus x0) :=
  fun _ => ⟨rfl, rfl⟩

theorem TimeFree.brakeStep x0 x1 : TimeFree.Statement (.brakeStep x0 x1) :=
  fun _ => ⟨rfl, rfl⟩

theorem TimeFree.trailerStatus x0 : TimeFree.Statement (.trailerStatus x0) :=
  fun _ => ⟨rfl, rfl⟩

theorem TimeFree.entryRemoval x0 x1 : TimeFree.Statement (.entryRemoval x0 x1) :=
  fun _ => ⟨rfl, rfl⟩

theorem TimeFree.powerStep x0 x1 x2 : TimeFree.Statement (.powerStep x0 x1 x2) :=
  fun _ => ⟨rfl, rfl⟩

theorem TimeFree.supplyApplied x0 x1 : TimeFree.Statement (.supplyApplied x0 x1) :=
  fun _ => ⟨rfl, rfl⟩

theorem TimeFree.strapWindowEnd x0 x1 : TimeFree.Statement (.strapWindowEnd x0 x1) :=
  fun _ => ⟨rfl, rfl⟩

theorem TimeFree.linkCheck x0 : TimeFree.Statement (.linkCheck x0) :=
  fun _ => ⟨rfl, rfl⟩

theorem TimeFree.engineReport x0 x1 : TimeFree.Statement (.engineReport x0 x1) :=
  fun _ => ⟨rfl, rfl⟩

theorem TimeFree.operatorDemandA x0 x1 : TimeFree.Statement (.operatorDemandA x0 x1) :=
  fun _ => ⟨rfl, rfl⟩

theorem TimeFree.operatorDemandB x0 x1 : TimeFree.Statement (.operatorDemandB x0 x1) :=
  fun _ => ⟨rfl, rfl⟩

theorem TimeFree.eventFrameReceived x0 x1 x2 x3 : TimeFree.Statement (.eventFrameReceived x0 x1 x2 x3) :=
  fun _ => ⟨rfl, rfl⟩

theorem TimeFree.frameSent x0 x1 : TimeFree.Statement (.frameSent x0 x1) :=
  fun _ => ⟨rfl, rfl⟩

theorem TimeFree.reportTimer x0 : TimeFree.Statement (.reportTimer x0) :=
  fun _ => ⟨rfl, rfl⟩

theorem TimeFree.busOff x0 x1 : TimeFree.Statement (.busOff x0 x1) :=
  fun _ => ⟨rfl, rfl⟩

theorem TimeFree.linkRejoin x0 x1 : TimeFree.Statement (.linkRejoin x0 x1) :=
  fun _ => ⟨rfl, rfl⟩

theorem TimeFree.serviceByte x0 x1 : TimeFree.Statement (.serviceByte x0 x1) :=
  fun _ => ⟨rfl, rfl⟩

theorem TimeFree.serviceGapExpiry x0 : TimeFree.Statement (.serviceGapExpiry x0) :=
  fun _ => ⟨rfl, rfl⟩

theorem TimeFree.answerStart x0 : TimeFree.Statement (.answerStart x0) :=
  fun _ => ⟨rfl, rfl⟩

theorem TimeFree.answerSent x0 x1 : TimeFree.Statement (.answerSent x0 x1) :=
  fun _ => ⟨rfl, rfl⟩

theorem TimeFree.sync x0 : TimeFree.Statement (.sync x0) :=
  fun _ => ⟨rfl, rfl⟩

theorem TimeFree.key x0 : TimeFree.Statement (.key x0) :=
  fun _ => ⟨rfl, rfl⟩

theorem TimeFree.cancel x0 : TimeFree.Statement (.cancel x0) :=
  fun _ => ⟨rfl, rfl⟩

theorem TimeFree.lock x0 : TimeFree.Statement (.lock x0) :=
  fun _ => ⟨rfl, rfl⟩

theorem TimeFree.readItem x0 : TimeFree.Statement (.readItem x0) :=
  fun _ => ⟨rfl, rfl⟩

theorem TimeFree.writeItem x0 : TimeFree.Statement (.writeItem x0) :=
  fun _ => ⟨rfl, rfl⟩

theorem TimeFree.take x0 : TimeFree.Statement (.take x0) :=
  fun _ => ⟨rfl, rfl⟩

theorem TimeFree.release x0 : TimeFree.Statement (.release x0) :=
  fun _ => ⟨rfl, rfl⟩

theorem TimeFree.calRun x0 x1 : TimeFree.Statement (.calRun x0 x1) :=
  fun _ => ⟨rfl, rfl⟩

theorem TimeFree.calAbort x0 : TimeFree.Statement (.calAbort x0) :=
  fun _ => ⟨rfl, rfl⟩

theorem TimeFree.storeNow x0 : TimeFree.Statement (.storeNow x0) :=
  fun _ => ⟨rfl, rfl⟩

theorem TimeFree.restart x0 : TimeFree.Statement (.restart x0) :=
  fun _ => ⟨rfl, rfl⟩

theorem TimeFree.silenceExpiry x0 : TimeFree.Statement (.silenceExpiry x0) :=
  fun _ => ⟨rfl, rfl⟩

theorem TimeFree.syncBlockExpiry x0 : TimeFree.Statement (.syncBlockExpiry x0) :=
  fun _ => ⟨rfl, rfl⟩

theorem TimeFree.lossOfSupply x0 x1 : TimeFree.Statement (.lossOfSupply x0 x1) :=
  fun _ => ⟨rfl, rfl⟩

theorem TimeFree.serviceLineFirstRise x0 : TimeFree.Statement (.serviceLineFirstRise x0) :=
  fun _ => ⟨rfl, rfl⟩

end Laws
end Sys2Proof
end

