-- ==== Sys2Proof/Laws/Restart.lean ====
section
/-! SUPPORT. What a Soft restart leaves of the part (R68, R72, R86, R169, R170, R189). -/

namespace Sys2Proof.Machine

/-- A Soft restart leaves the restarted part, whatever the drain of its store reads back. -/
theorem softRestart_restartedFrom (rbs : List ReadBack) (s : State) : (softRestart rbs s).restartedFrom s := by
  refine ⟨rfl, rfl, rfl, rfl, rfl, rfl, rfl, rfl, rfl, rfl, rfl, rfl, fun i => ?_, rfl, rfl, ?_⟩
  · rcases i with c | _ <;> first | rfl | (cases c <;> rfl)
  · show (if s.build.serviceStrap then Unlock.unlocked else Unlock.locked) = .unlocked ↔ _
    cases s.build.serviceStrap <;> simp

/-- The store is scanned after its drain: the memory is the drained one. -/
theorem softRestart_mem (rbs : List ReadBack) (s : State) : (softRestart rbs s).store.mem = (drain rbs s).store.mem := rfl

/-- A drained store has nothing left to drain. -/
theorem drainUpTo_of_drained (n : Nat) (rbs : List ReadBack) (s : State) (h : s.drained = true) : drainUpTo n rbs s = s := by
  cases n with
  | zero => rfl
  | succ n => exact if_pos h

/-- A Soft restart of a part whose store is drained keeps the memory. -/
theorem softRestart_mem_of_drained (rbs : List ReadBack) (s : State) (h : s.drained = true) :
    (softRestart rbs s).store.mem = s.store.mem :=
  congrArg (fun t => t.store.mem) (drainUpTo_of_drained 4096 rbs s h)

end Sys2Proof.Machine
end

