-- ==== Sys2Proof/Tests/Slice0.lean ====
section
/-! SUPPORT. Tests of the model on small states: the well-formedness checks, the worked values of the spec, and, for each
statement of Certificates/Slice0/Obligations.lean that has hypotheses, a state that meets them (`witness_…`). -/

namespace Sys2Proof.Tests

-- One theorem at a time: elaborated side by side, the tests take more threads than the check allows.
set_option Elab.async false

open Sys2Proof.Machine

/-! ### Well-formedness: each check refuses a term that fails it alone -/

/-- The currents with one channel's replaced. -/
def amps (i : Chan) (a : Nat) : PerChan Nat :=
  ({ clutch := everyClutch 0, fwdRelease := 0, diffLock := 0, hitchRaise := 0, hitchLower := 0, trailerControl := 0
     trailerSupply := 0, spare := 0 } : PerChan Nat).set i a

/-- Inputs of a hitch step within range. -/
def hitchInputs : HitchInputs :=
  { adc := 2000, pinLeft := 0, pinRight := 0, fenderLeft := .released, fenderRight := .released, pedal := 0 }

/-- Inputs of a brake step within range: nothing pressed, park released, the supply line charged. -/
def brakeInputs : BrakeInputs :=
  { pedalLeft := false, pedalRight := false, rawBrake := 400, rawLine := 400, parkApplied := false, supplyClosed := true }

theorem test_wf_pedal : (Instr.shiftStep 5 1001).wellFormed = false ∧ (Instr.shiftStep 5 1000).wellFormed = true := by decide +kernel
theorem test_wf_sample_pedal : (Instr.speedSample 10 1001).wellFormed = false := by decide +kernel
theorem test_wf_run_pedal : (Instr.runStep 5 1001).wellFormed = false ∧ (Instr.calRun 0 1001).wellFormed = false := by decide +kernel
theorem test_wf_edge : (Instr.pickupEdge 0 .input 1000).wellFormed = false ∧ (Instr.pickupEdge 0 .input 999).wellFormed := by
  decide +kernel
theorem test_wf_amps : (Instr.channelStep 10 (amps (.clutch .ch) 1601) 120).wellFormed = false ∧
    (Instr.channelStep 10 (amps .spare 1601) 120).wellFormed = false ∧
    (Instr.channelStep 10 (amps .diffLock 1600) 400).wellFormed = true := by decide +kernel
theorem test_wf_volts : (Instr.channelStep 10 (amps .spare 0) 401).wellFormed = false := by decide +kernel
theorem test_wf_slot : (Instr.slotProgramComplete 3 (.other (List.replicate 17 0))).wellFormed = false ∧
    (Instr.headerProgramComplete 3 (.other (List.replicate 17 0))).wellFormed = false := by decide +kernel
theorem test_wf_page : (Instr.pageEraseComplete 40 (.other (List.replicate 1025 0))).wellFormed = false := by decide +kernel
theorem test_wf_adc : (Instr.hitchStep 10 { hitchInputs with adc := 4096 }).wellFormed = false := by decide +kernel
theorem test_wf_pins : (Instr.hitchStep 10 { hitchInputs with pinLeft := 2048 }).wellFormed = false ∧
    (Instr.hitchStep 10 { hitchInputs with pinRight := -2049 }).wellFormed = false := by decide +kernel
theorem test_wf_hitch_pedal : (Instr.hitchStep 10 { hitchInputs with pedal := 1001 }).wellFormed = false := by decide +kernel
theorem test_wf_raw : (Instr.brakeStep 10 { brakeInputs with rawBrake := 4096 }).wellFormed = false ∧
    (Instr.brakeStep 10 { brakeInputs with rawLine := 4096 }).wellFormed = false ∧
    (Instr.brakeStep 10 brakeInputs).wellFormed = true := by decide +kernel
theorem test_wf_read_backs : (Instr.powerStep 10 true [.other (List.replicate 1025 0)]).wellFormed = false ∧
    (Instr.answerSent 1 [.other (List.replicate 1025 0)]).wellFormed = false := by decide +kernel
theorem test_wf_readings : (Instr.strapWindowEnd 50 []).wellFormed = false := by decide +kernel
theorem test_wf_data : (Instr.engineReport 0 (List.replicate 9 0)).wellFormed = false ∧
    (Instr.operatorDemandA 0 (List.replicate 9 0)).wellFormed = false ∧
    (Instr.operatorDemandB 0 (List.replicate 9 0)).wellFormed = false ∧
    (Instr.eventFrameReceived 0 .vehicle 0x218 (List.replicate 9 0)).wellFormed = false := by decide +kernel
theorem test_wf_ident : (Instr.eventFrameReceived 0 .vehicle 2048 []).wellFormed = false := by decide +kernel
theorem test_wf_mask : (Instr.lossOfSupply 0 (List.replicate 1025 0)).wellFormed = false := by decide +kernel

/-! ### States -/

/-- The state a command answers. -/
def after (c : Instr) (s : State) : State :=
  match exec c s with
  | .next t => t
  | _ => s

/-- A clutch record in use. -/
def clutchCal (t : Nat) : Option (Stored ClutchCal) :=
  some { val := { tFill := t, pKiss := 320, i0 := 320, iFull := 980, adapt := 0 }, seq := 1 }

/-- The HITCH record of the hitch examples. -/
def hitchRecord : HitchCal := { adcLow := 410, adcHigh := 3690, dFs := 1800, iThr := 350, iMax := 1350 }

/-- A calibrated part with page 0 in use, the cab holding GEAR and the two hitch functions. -/
def base : State :=
  let s := State.reset
  { s with
    store := { s.store with
      op := none, inUse := some .p0, nextFree := 14, nextSeq := 15
      cal := { s.store.cal with clutches := everyClutch (clutchCal 120), hitch := some { val := hitchRecord, seq := 1 } } }
    auth := { s.auth with table := { s.auth.table with
      gear := { holder := .cab }, hitchSet := { holder := .cab }, hitchLift := { holder := .cab } } } }

/-- A part with some build. -/
def built (b : BuildRecord) (s : State) : State := { s with build := b }

/-- A speed set in use. -/
def atSpeed (v : SpeedSet) (s : State) : State := { s with speed := { s.speed with set := v } }

/-- The implement's queue holds an event. -/
def implement (e : EventFrame) (s : State) : State := s.onLink .implement (fun k => { k with inbox := [e] })

/-- The vehicle link's queue holds an event. -/
def cab (e : EventFrame) (s : State) : State := s.onLink .vehicle (fun k => { k with inbox := [e] })

/-- A function in another entry. -/
def held (f : Func) (e : AuthEntry) (s : State) : State := s.onEntry f (fun _ => e)

/-- A function's enable state. -/
def enabled (f : Func) (e : Enable) (s : State) : State :=
  { s with auth := { s.auth with enable := s.auth.enable.set f e } }

/-- A waiting service frame in an unlock state. -/
def tool (f : SvcFrame) (u : Unlock) (s : State) : State :=
  s.onSvc (fun v => { v with frame := some f, rx := .answering, unlock := u })

/-- A store operation under way, with a write of the TRAILER record in flight. -/
def storing (o : StoreOp) (s : State) : State :=
  { s with store := { s.store with
    op := some o, opEnd := 3, nextFree := 15, nextSeq := 16
    inFlight := some ({ record := .trailer { kTb := 64 }, fromRun := false }, decide (o = .writeVoid .p0 14 true)) } }

/-- The bytes of that write. -/
def trailerBytes : List Byte := recordBytes (.trailer { kTb := 64 }) 15

/-- A cab demand with every implement-enable flag on. -/
def demandA : DemandA :=
  { lever := .forward, autoMode := false, fwdMode := .auto, dlMode := .off, enSpeed := true, enAxle := true
    enHitchSet := true, enHitchLift := false, gMin := 1, gMax := 12, nUp := 2050, nDn := 1500 }

/-- A cab demand of the hitch. -/
def demandB : DemandB :=
  { pLever := 500, dSet := 0, qDrop := 200, lock := false, uLim := 1000, lLim := 0, sLim := 0, rocker := .hold, mix := 0
    gS := 0 }

/-- Both demand copies have arrived at a time. -/
def demanded (t : Nat) (s : State) : State :=
  { s with link := { s.link with
    demandA := some { val := demandA, arrived := t }, demandB := some { val := demandB, arrived := t } } }

/-- A gear engaged, with its clutches APPLIED at P_full. -/
def inGear (g : Gear) (s : State) : State :=
  s.onSeq (fun q =>
    { q with
      gear := g, target := g, lastDir := g.dir, neutralStartOk := true
      clutches := q.clutches.mapWith (fun c r => if c ∈ elements g then applyClutch 0 2000 r else r)
      published := { q.published with gear := g, direction := g.direction, target := g } })

/-- An active class B or class A entry of the Fault List. -/
def entry (c : FaultCode) : FaultEntry := newEntry 0 c none

/-- A state on whose queue one command waits. -/
def waiting (c : Instr) (s : State) : State := { s with pending := [c] }

/-- The state a step answers. -/
def stepped (s : State) : State :=
  match step s with
  | .next t => t
  | _ => s

/-- Fault 5 and its entry are active, and it has closed the four gates. -/
def dark : State := base.raise .valveSupplyLow none

/-- A radar fitted and in order. -/
def radar (s : State) : State := { built { radarFitted := true } s with speed := { s.speed with radar := .ok } }

/-- Edges of the output shaft and the radar, as (pulses, span in µs) from time 0, and the state at 10 ms. -/
def turning (out rad : Nat × Nat) (s : State) : State :=
  { s with speed := { s.speed with
      capOutput := { ref := some 0, count := out.1, latest := some out.2 }
      capRadar := { ref := some 0, count := rad.1, latest := some rad.2 } } }

/-- A reversal from F3 in DIR_RELEASE. -/
def shuttling : State :=
  (inGear (.fwd 3) base).onSeq (fun q =>
    { q with target := .rev 3, shift := some { kind := .shuttle, phase := .dirRelease, start := 0, onComing := [.cv], offGoing := [.cf], reversing := true, upshift := false } })

/-! ### The step and the standing laws -/

theorem test_reset_idles : step State.reset = .next State.reset := by rfl
theorem test_step_takes_the_front :
    (stepped { base with pending := [.frameSent 5 .vehicle, .storeDrained 7] }).pending = [.storeDrained 7] ∧
    (stepped { base with pending := [.frameSent 5 .vehicle, .storeDrained 7] }).now = 5 := by decide +kernel
theorem witness_FaultListStaysSound : dark.fault.list ≠ [] ∧ dark.fault.sound = true ∧
    step (waiting (.channelStep 5 (amps .spare 0) 120) dark) =
      .next (stepped (waiting (.channelStep 5 (amps .spare 0) 120) dark)) := ⟨by decide +kernel, by decide +kernel, rfl⟩
theorem witness_OutputsStayGated : (inGear (.fwd 4) base).outputsGated = true ∧
    step (waiting (.shiftStep 5 0) (inGear (.fwd 4) base)) =
      .next (stepped (waiting (.shiftStep 5 0) (inGear (.fwd 4) base))) := ⟨by decide +kernel, rfl⟩
theorem witness_GearsStayLegal : (inGear (.rev 8) base).seq.gearsLegal = true ∧ (inGear (.fwd 12) base).seq.gearsLegal = true ∧
    shuttling.seq.shift.isSome = true ∧ shuttling.seq.shiftLegal = true ∧
    step (waiting (.shiftStep 5 0) (inGear (.rev 8) base)) =
      .next (stepped (waiting (.shiftStep 5 0) (inGear (.rev 8) base))) := ⟨by decide +kernel, by decide +kernel, by decide +kernel, by decide +kernel, rfl⟩
theorem witness_QueuesStayBounded : (implement (.authKeep 2) base).queuesBounded = true ∧
    step (waiting (.implAuthorityKeep 5) (implement (.authKeep 2) base)) =
      .next (stepped (waiting (.implAuthorityKeep 5) (implement (.authKeep 2) base))) := ⟨by decide +kernel, rfl⟩
theorem witness_StoreMemoryStaysCanonical :
    Memory.wf (storing (.writeSlot .p0 14 trailerBytes false) base).store.mem = true ∧
    step (waiting (.slotProgramComplete 5 .asMeant) (storing (.writeSlot .p0 14 trailerBytes false) base)) =
      .next (stepped (waiting (.slotProgramComplete 5 .asMeant) (storing (.writeSlot .p0 14 trailerBytes false) base))) :=
  ⟨by decide +kernel, rfl⟩
theorem witness_RecordRoundTrip :
    (CalRecord.clutch .c2 { tFill := 118, pKiss := 320, i0 := 320, iFull := 980, adapt := -40 }).inRange = true ∧
    (CalRecord.serviceKey { w0 := 65535, w1 := 0, w2 := 1, w3 := 2, w4 := 3 }).inRange = true ∧
    decodeRecord (recordBytes (.clutch .c2 { tFill := 118, pKiss := 320, i0 := 320, iFull := 980, adapt := -40 }) 4294967295) =
      some (.clutch .c2 { tFill := 118, pKiss := 320, i0 := 320, iFull := 980, adapt := -40 }, 4294967295) := by decide +kernel

/-! ### Speed Capture -/

theorem witness_WheelSpeedFromOutputShaft : base.running = true ∧ base.speedCal.w = 1562 ∧ base.store.cal.speed = none ∧
    (after (.speedSample 10 0) (turning (10, 10000) (0, 0) base)).speed.set.tout = 1000 ∧
    (after (.speedSample 10 0) (turning (10, 10000) (0, 0) base)).speed.set.vWheel = 1525 ∧
    (after (.speedSample 10 0) (turning (6, 9800) (0, 0) base)).speed.set.tout = 612 ∧
    (after (.speedSample 10 0) (turning (6, 9800) (0, 0) base)).speed.set.vWheel = 933 := by decide +kernel
/-- A last edge at 10 ms is recent at 260 ms and silent at 261; a report of 100 ms is fresh and one of 101 is not; and the
worked case of R13. -/
theorem witness_CaptureReadings :
    let still := { base with speed := { base.speed with capOutput := { ref := some 0, latest := some 10000, reading := 700 } } }
    let report := { base with link := { base.link with engine := some { val := { eng := 4001, load := 0, limitAck := false }, arrived := 0 } } }
    let silent := (inGear (.fwd 6) base).raise .speedSensor none
    let failed := { silent with speed := { silent.speed with
      silent := some .output, capInput := { ref := some 0, count := 9, latest := some 6250 } } }
    base.speed.capInput.latest = none ∧ (after (.speedSample 10 0) base).speed.capInput.reading = 0 ∧
    (after (.speedSample 260 0) still).speed.capOutput.reading = 700 ∧
    (after (.speedSample 261 0) still).speed.capOutput.reading = 0 ∧
    (after (.speedSample 261 0) still).speed.capOutput.ref = none ∧
    (after (.speedSample 10 0) (turning (0, 0) (3, 9600) (radar base))).speed.capRadar.reading = 865 ∧
    (after (.speedSample 100 0) report).speed.set.eng = 4000 ∧ (after (.speedSample 101 0) report).speed.set.engFresh = false ∧
    report.speed.stale = false ∧ (after (.speedSample 101 0) report).active .engineReportLost = true ∧
    failed.active .speedSensor = true ∧ (after (.speedSample 10 0) failed).active .speedSensor = true ∧
    (after (.speedSample 10 0) failed).speed.set.tin = 1800 ∧ (after (.speedSample 10 0) failed).speed.set.tout = 496 ∧
    (after (.speedSample 10 0) failed).speed.set.vWheel = 756 := by decide +kernel
/-- R4's radar example (3 pulses in 9600 µs), and a radar first doubted at v_wheel 1525. -/
theorem witness_GroundSpeedSource :
    (after (.speedSample 10 0) (turning (6, 9800) (3, 9600) (radar base))).speed.set.vGround = 865 ∧
    (after (.speedSample 10 0) (turning (6, 9800) (3, 9600) base)).speed.set.radarValid = false ∧
    (radar base).speed.radar = .ok ∧ (radar base).build.radarFitted = true ∧
    (after (.speedSample 300 0) (turning (10, 10000) (0, 9600) (radar base))).speed.capRadar.reading = 0 ∧
    (after (.speedSample 300 0) (turning (10, 10000) (0, 9600) (radar base))).speed.set.vWheel = 1525 := by decide +kernel
/-- R11's example: raw slip 72 from a filter at 0 gives 9; a freeze; an invalid slip. -/
theorem witness_SlipFilter :
    (after (.speedSample 10 0) (turning (6, 9800) (3, 9600) (radar base))).speed.set.slipValid = true ∧
    (after (.speedSample 10 0) (turning (6, 9800) (3, 9600) (radar base))).speed.set.slipF = 9 ∧
    (after (.speedSample 10 0) (turning (6, 9800) (3, 9600) (atSpeed { slipF := 1000 }
      { radar base with axle := { base.axle with own := { base.axle.own with transition := true } } }))).speed.set.slipF = 1000 ∧
    (after (.speedSample 10 0) base).speed.set.slipValid = false := by decide +kernel
theorem witness_PickupEdgeCounts : base.build.radarFitted = false ∧ (radar base).build.radarFitted = true ∧
    (base.speed.capture .output).ref = none ∧ ((turning (10, 9) (0, 0) base).speed.capture .output).ref = some 0 ∧
    (after (.pickupEdge 0 .output 999) (turning (10, 9) (0, 0) base)).speed.capOutput.count = 11 := by decide +kernel

/-! ### Function Arbiter -/

/-- SPEED armed, with both demands just arrived and a first review behind. -/
def armedSpeed : State := after (.authorityReview 10) (enabled .speed .armed (demanded 0 base))

/-- A shift in flight towards F5. -/
def shifting : State :=
  (inGear (.fwd 4) armedSpeed).onSeq (fun q =>
    { q with target := .fwd 5, shift := some { kind := .simple, phase := .prefill, start := 10, onComing := [.c1], offGoing := [.c4], reversing := false, upshift := true } })

/-- The implement holds SPEED with a lease to 510. -/
def leased : State := held .speed { holder := .impl, leaseEnd := some 510, reference := some (.speed .forward false) } armedSpeed

theorem witness_ReviewFollowsTheFlags : (demanded 0 base).running = true ∧ (demanded 0 base).readControls.isSome = true ∧
    ((demanded 0 base).readControls.map (flagOf .speed)) = some true ∧
    ((demanded 0 base).readControls.map (flagOf .hitchLift)) = some false ∧
    (demanded 0 dark).classAActive = true ∧ (demanded 0 dark).readControls.isSome = true ∧
    (after (.authorityReview 10) (demanded 0 base)).auth.enable.speed = .armed ∧
    (after (.authorityReview 10) (demanded 0 base)).auth.enable.hitchLift = .off := by decide +kernel
/-- A revocation of HITCH_LIFT, reclaims of SPEED and of HITCH_SET (20 from P_act, and not 21), a SPENT that stays, and a
waiting request granted at the safe point. -/
theorem witness_ReclaimsAndRevocation :
    let go := fun (s : State) => (after (.authorityReview 10) s).auth
    let lift := enabled .hitchLift .armed (held .hitchLift
      { holder := .impl, leaseEnd := some 510, pendingSince := some 5, reference := some (.hitchLift .hold) } armedSpeed)
    let speed := held .speed { holder := .impl, leaseEnd := some 510, reference := some (.speed .reverse false) } armedSpeed
    let set := fun (p : Nat) => held .hitchSet { holder := .part } { armedSpeed with hitch := { armedSpeed.hitch with pAct := some p } }
    let waits := held .speed { holder := .cab, pendingSince := some 5 } armedSpeed
    armedSpeed.running = true ∧ armedSpeed.readControls.isSome = true ∧ armedSpeed.auth.seen ≠ none ∧
    (go lift).table.hitchLift.holder = .part ∧ (go lift).enable.hitchLift = .off ∧ (go lift).table.hitchLift.pendingSince = none ∧
    (go speed).table.speed.holder = .cab ∧ (go speed).enable.speed = .spent ∧ (go leased).table.speed.holder = .impl ∧
    (go (set 520)).table.hitchSet.holder = .cab ∧ (go (set 521)).table.hitchSet.holder = .part ∧
    (go (enabled .axle .spent armedSpeed)).enable.axle = .spent ∧
    waits.safePoint .speed = true ∧ (go waits).table.speed.holder = .impl ∧ (go waits).table.speed.leaseEnd = some 520 ∧
    (go (held .speed { holder := .cab, pendingSince := some 5 } shifting)).table.speed.pendingSince = some 5 := by decide +kernel
theorem witness_RequestIsGrantedOrWaits :
    let s := implement (.authRequest 2) armedSpeed
    let u := implement (.authRequest 2) shifting
    s.running = true ∧ s.head .implement = some (.authRequest 2) ∧ funcOf 2 = some .speed ∧ s.power.power = .run ∧
    s.classAActive = false ∧ s.holder .speed = .cab ∧ (s.auth.table.get .speed).pendingSince = none ∧
    s.auth.enable.get .speed = .armed ∧ s.safePoint .speed = true ∧ s.link.implement.outbox = [] ∧
    s.link.implement.rejoin = none ∧ u.head .implement = some (.authRequest 2) ∧ u.running = true ∧
    u.holder .speed = .cab ∧ u.auth.enable.get .speed = .armed ∧ u.safePoint .speed = false ∧
    (implement (.authRequest 2) base).auth.enable.get .speed ≠ .armed ∧
    (after (.implAuthorityRequest 3) s).holder .speed = .impl ∧
    (after (.implAuthorityRequest 3) s).auth.table.speed.leaseEnd = some 513 ∧
    (after (.implAuthorityRequest 3) u).auth.table.speed.pendingSince = some 13 := by decide +kernel
theorem witness_KeepRenewsReleaseReturns :
    leased.running = true ∧ leased.holder .speed = .impl ∧
    (implement (.authKeep 2) leased).head .implement = some (.authKeep 2) ∧
    (implement (.authRelease 2) leased).head .implement = some (.authRelease 2) ∧
    (after (.implAuthorityKeep 90) (implement (.authKeep 2) leased)).auth.table.speed.leaseEnd = some 600 ∧
    (after (.implAuthorityRelease 90) (implement (.authRelease 2) leased)).holder .speed = .cab := by decide +kernel
theorem witness_AuthorityTimers :
    let w := held .speed { holder := .cab, pendingSince := some 10 } shifting
    w.running = true ∧ (after (.pendingTimeout 1999 .speed) w).auth.table.speed.pendingSince = some 10 ∧
    (after (.pendingTimeout 2000 .speed) w).auth.table.speed.pendingSince = none ∧
    (after (.leaseLapse 499 .speed) leased).holder .speed = .impl ∧
    (after (.leaseLapse 500 .speed) leased).holder .speed = .cab ∧ base.holder .speed ≠ .impl ∧
    (base.auth.table.get .speed).pendingSince = none := by decide +kernel

/-! ### Shift Sequencer -/

theorem witness_ShuttleDecel :
    let trailed := { built { trailerFitted := true } base with brake := { base.brake with trailer := { line := .supplyOff } } }
    shuttling.running = true ∧ (after (.shiftStep 5 0) shuttling).seq.published.shuttleDecel = true ∧
    (after (.shiftStep 5 0) (inGear (.fwd 3) base)).seq.published.shuttleDecel = false ∧
    trailed.running = true ∧ trailed.brake.trailer.line ≠ .notFitted ∧ base.brake.trailer.line = .notFitted ∧
    (after (.brakeStep 10 brakeInputs) (atSpeed { vGround := 301 } (trailed.onSeq (fun q =>
      { q with published := { q.published with shuttleDecel := true } })))).brake.trailer.assist = true ∧
    (after (.brakeStep 10 brakeInputs) (atSpeed { vGround := 300 } (trailed.onSeq (fun q =>
      { q with published := { q.published with shuttleDecel := true } })))).brake.trailer.assist = false := by decide +kernel
theorem witness_ShiftStepPublishesGearState : (inGear (.rev 2) base).running = true ∧
    (after (.shiftStep 5 0) (inGear (.rev 2) base)).seq.published.direction = .rev := by decide +kernel
/-- Starts of the three kinds, with the pedal at 900 and at 901; a COMPOUND that ends; and a timeout at 2000 ms. -/
theorem witness_ShiftStartsEndsAndTimesOut :
    let aim := fun (g : Gear) (s : State) => s.onSeq (fun q => { q with target := g })
    let flight := fun (p : Phase) => (aim (.fwd 5) (inGear (.fwd 4) base)).onSeq (fun q =>
      { q with shift := some { kind := .compound, phase := p, start := 0, onComing := [.c1, .cm], offGoing := [.c4, .cl], reversing := false, upshift := true } })
    let kind := fun (s : State) => (after (.shiftStep 5 900) s).seq.shift.map ShiftRec.kind
    let s := aim (.fwd 6) (inGear (.fwd 5) base)
    (flight .finish).seq.shiftLegal = true ∧
    s.running = true ∧ s.holder .gear = .cab ∧ s.active .vehicleLinkLost = false ∧ s.gateOpen .trans = true ∧
    s.power.power = .run ∧ s.runInProgress = false ∧ s.upshiftInhibit = false ∧ s.seq.shift = none ∧ s.seq.reengaged = false ∧
    allClutches.all (fun c => decide (c ∈ heldClutches s.seq) || decide ((s.seq.clutches.get c).state = .vented)) = true ∧
    kind s = some .simple ∧ kind (aim (.fwd 5) (inGear (.fwd 4) base)) = some .compound ∧ kind (aim (.fwd 1) base) = some .shuttle ∧
    (after (.shiftStep 5 900) s).seq.shift.map ShiftRec.onComing = some [.c2] ∧
    (after (.shiftStep 5 901) s).seq.shift.map ShiftRec.declutched = some true ∧
    (flight .finish).seq.slipSince = none ∧ (flight .finish).seq.autoMode = false ∧ (flight .finish).link.demandA = none ∧
    (after (.shiftStep 5 0) (flight .finish)).seq.gear = .fwd 5 ∧ (after (.shiftStep 5 0) (flight .finish)).seq.shift = none ∧
    (after (.shiftStep 1999 0) (flight .swapFill)).active .shiftTimeout = false ∧
    (after (.shiftStep 2000 0) (flight .swapFill)).active .shiftTimeout = true ∧
    (after (.shiftStep 2000 0) (flight .swapFill)).seq.shift.map ShiftRec.phase = some .finish := by decide +kernel
/-- R37: a SHUTTLE from N that releases both clutches of the preselect leaves none; one that keeps a clutch of it keeps it. -/
theorem test_preselect_goes :
    let n := (inGear (.fwd 3) base).onSeq (fun q =>
      { q with gear := .neutral, preselect := some 3, clutches := q.clutches.set .cf { state := .vented } })
    let go := fun (g : Gear) => (after (.shiftStep 5 0) (n.onSeq (fun q => { q with target := g }))).seq
    (go (.fwd 6)).preselect = none ∧ ((go (.fwd 6)).shift.map ShiftRec.kind) = some .shuttle ∧
    (go (.fwd 4)).preselect = some 3 ∧ (go .neutral).preselect = some 3 := by decide +kernel
/-- R48: P0 is the commanded pressure of this step, under the pedal limit: at 500, 2000 - 400 × 1680 / 800 = 1160. -/
theorem test_pressure_at_start :
    (after (.shiftStep 5 500) ((inGear (.fwd 4) base).onSeq (fun q => { q with target := .fwd 5 }))).seq.shift.map ShiftRec.p0 =
      some 1160 := by decide +kernel
/-- R38, R58: a declutched FINISH of a SHUTTLE waits for the off-going direction clutch to be VENTED. -/
theorem test_declutched_shuttle_waits :
    let s := shuttling.onSeq (fun q => { q with
      shift := q.shift.map (fun r => { r with phase := .finish, declutched := true })
      clutches := q.clutches.mapWith (fun c r => if c = .cf then { r with state := .releasing, pressure := 0, entered := 0 } else r) })
    (after (.shiftStep 59 950) s).seq.shift.isSome = true ∧ (after (.shiftStep 60 950) s).seq.gear = .rev 3 := by decide +kernel
/-- R59: a direction clutch found RELEASING with the pedal up is re-engaged, and is filled as it becomes VENTED, in a SIMPLE
shift that has started in between as well. -/
theorem test_reengaged_through_a_shift :
    let s := (inGear (.fwd 5) base).onSeq (fun q =>
      { q with target := .fwd 6, clutches := q.clutches.set .cf { state := .releasing, pressure := 0, entered := 0 } })
    let t := after (.shiftStep 59 0) s
    t.seq.shift.map ShiftRec.kind = some .simple ∧ t.seq.reengaged = true ∧ (t.seq.clutches.get .cf).state = .releasing ∧
    ((after (.shiftStep 60 0) (s.onSeq (fun q => { q with reengaged := true, shift := t.seq.shift }))).seq.clutches.get .cf).state =
      .filling := by decide +kernel
theorem witness_NeutralReactionToGateClosure :
    let s := inGear (.fwd 7) dark
    s.running = true ∧ s.gateOpen .trans = false ∧ s.seq.causes.gateClosed = false ∧ s.seq.shift = none ∧
    (after (.shiftStep 5 0) s).seq.gear = .neutral ∧ (after (.shiftStep 5 0) s).seq.neutralNumber = 7 := by decide +kernel
/-- Both taps at both ends of the table, in a shift, and in AUTO at the end of the span. -/
theorem witness_TapMovesOneGear :
    let up := cab .gearUp
    let dn := cab .gearDown
    (up base).running = true ∧ (up base).head .vehicle = some .gearUp ∧ (dn base).head .vehicle = some .gearDown ∧
    (up base).holder .gear = .cab ∧ (up base).runInProgress = false ∧ (up base).active .vehicleLinkLost = false ∧
    (after (.cabCommandGearUp 5) (up (inGear (.fwd 12) base))).seq.target = .fwd 12 ∧
    (after (.cabCommandGearUp 5) (up (inGear (.fwd 4) base))).seq.target = .fwd 5 ∧
    (after (.cabCommandGearDown 5) (dn (inGear (.fwd 1) base))).seq.target = .fwd 1 ∧
    (after (.cabCommandGearUp 5) (up (inGear (.rev 8) base))).seq.target = .rev 8 ∧
    (after (.cabCommandGearDown 5) (dn base)).seq.neutralNumber = 1 ∧
    (after (.cabCommandGearUp 5) (up shifting)).seq.pendingTarget = some (.fwd 6) ∧
    (after (.cabCommandGearDown 5) (dn shifting)).seq.pendingTarget = some (.fwd 4) ∧
    (after (.cabCommandGearUp 5) (up ((inGear (.fwd 6) base).onSeq (fun q =>
      { q with autoMode := true, gMax := 6 })))).seq.target = .fwd 6 := by decide +kernel
theorem witness_DirectionRequest :
    let moving := atSpeed { vGround := 1200 } (inGear (.fwd 11) base)
    let fast := atSpeed { vGround := 1201 } (inGear (.fwd 11) base)
    let ready := base.onSeq (fun q => { q with neutralStartOk := true, neutralNumber := 9 })
    let ask := fun (d : DirRequest) (s : State) => cab (.direction d) s
    let go := fun (d : DirRequest) (s : State) => (after (.cabCommandDirection 5) (ask d s)).seq
    (ask .reverse moving).running = true ∧ (ask .reverse moving).head .vehicle = some (.direction .reverse) ∧
    (ask .reverse moving).holder .gear = .cab ∧ (ask .reverse moving).runInProgress = false ∧
    moving.seq.shift = none ∧ moving.seq.autoMode = false ∧ moving.power.power = .run ∧ moving.gateOpen .trans = true ∧
    moving.active .vehicleLinkLost = false ∧ moving.seq.neutralStartOk = true ∧
    (go .reverse moving).target = .rev 8 ∧ (go .reverse fast).target = .fwd 11 ∧ (go .forward moving).target = .fwd 11 ∧
    (go .forward (inGear (.rev 8) base)).target = .fwd 8 ∧ (go .reverse ready).target = .rev 8 ∧
    (go .forward ready).target = .fwd 9 ∧ (go .forward base).target = .neutral ∧
    (go .neutral moving).gear = .neutral ∧ (go .neutral moving).preselect = some 11 ∧
    go .neutral base = base.seq := by decide +kernel
theorem witness_ImplementSpeedAndAxle :
    let auto := (inGear (.fwd 5) leased).onSeq (fun q => { q with autoMode := true })
    let s := implement (.implSpeed 4001) auto
    let a := implement (.implAxle 2 1) (held .axle { holder := .impl, leaseEnd := some 510 } base)
    s.running = true ∧ s.head .implement = some (.implSpeed 4001) ∧ s.holder .speed = .impl ∧ s.seq.gear.direction = .fwd ∧
    s.seq.autoMode = true ∧ (after (.implSpeed 0) s).seq.vTarget = some 4000 ∧
    (implement (.implSpeed 100) leased).seq.autoMode = false ∧ (implement (.implSpeed 100) base).holder .speed ≠ .impl ∧
    a.running = true ∧ a.head .implement = some (.implAxle 2 1) ∧ a.holder .axle = .impl ∧
    (after (.implAxle 0) a).axle.implModes = some (.auto, .on) ∧ modeOf 3 = none := by decide +kernel

/-! ### Solenoid Channels -/

/-- The supply monitor in some state. -/
def watching (m : Monitor) (s : State) : State := { s with chan := { s.chan with monitor := m } }

theorem witness_SupplyMonitorMoves :
    let go := fun (m : Monitor) (dt volts : Nat) => (after (.channelStep dt (amps .spare 0) volts) (watching m base)).chan.monitor
    base.running = true ∧ base.chan.monitor = .normal ∧ go .normal 10 89 = .dipping 10 ∧ go .normal 10 90 = .normal ∧
    go (.dipping 0) 49 89 = .dipping 0 ∧ go (.dipping 0) 50 89 = .low ∧ go (.dipping 0) 50 90 = .normal ∧
    go .low 10 99 = .low ∧ go .low 10 100 = .recovering 10 ∧ go (.recovering 0) 499 100 = .recovering 0 ∧
    go (.recovering 0) 500 100 = .normal ∧ go (.recovering 0) 500 99 = .low ∧
    go .normal 10 400 = .normal := by decide +kernel
/-- 15 percent of 900 mA is 135: a reading of 764 for 200 ms is a fault, one of 765 is not; and one of 51 mA at 0 mA is. -/
theorem witness_FailingChannelIsFaulted :
    let c : Channel := { fitted := true, state := .driving, demand := 900, commanded := 900, faultTimer := some 0 }
    let s := { base with chan := { base.chan with channels := base.chan.channels.set .trailerControl c } }
    let z := { base with chan := { base.chan with channels := base.chan.channels.set .hitchRaise { fitted := true, faultTimer := some 0 } } }
    s.running = true ∧ s.chan.monitor = .normal ∧ s.chan.channels.get .trailerControl = c ∧
    max 50 (c.commanded * 15 / 100) < Sys2Proof.dist ((amps .trailerControl 764).get .trailerControl) c.commanded ∧
    (after (.channelStep 200 (amps .trailerControl 764) 90) s).chan.channels.trailerControl.state = .faulted ∧
    (after (.channelStep 200 (amps .trailerControl 765) 90) s).chan.channels.trailerControl.state ≠ .faulted ∧
    (after (.channelStep 200 (amps .hitchRaise 51) 120) z).gateOpen .hitch = false := by decide +kernel

/-- The same for a channel in PULL_IN of 149 ms (1000 mA named, threshold 150) and of 150 ms (HOLD, 500 mA, threshold 75). -/
theorem witness_SwitchedChannelIsFaulted :
    let s := fun (st : ChanState) (mA since : Nat) => 
      let c : Channel := { fitted := true, state := st, demand := 1, commanded := mA, since := since, faultTimer := some 0 }
      { base with chan := { base.chan with channels := base.chan.channels.set .fwdRelease c } }
    let go := fun (st : ChanState) (mA since read : Nat) =>
      (after (.channelStep 200 (amps .fwdRelease read) 120) (s st mA since)).chan.channels.fwdRelease.state
    (s .pullIn 1000 51).chan.monitor = .normal ∧ go .pullIn 1000 51 849 = .faulted ∧ go .pullIn 1000 51 850 = .pullIn ∧
    go .pullIn 1000 50 424 = .faulted ∧ go .pullIn 1000 50 425 = .hold ∧ go .hold 500 0 576 = .faulted := by decide +kernel
/-- R80: the idle check runs on a FAULTED channel whose condition has cleared, and clears the condition with the timer as it
stands. -/
theorem test_idle_check :
    let s := fun (present : Bool) => 
      let c : Channel := { fitted := true, state := .faulted, faultTimer := some 0, conditionPresent := present }
      { base with chan := { base.chan with channels := base.chan.channels.set .hitchRaise c } }
    let go := fun (present : Bool) (read : Nat) => (after (.channelStep 200 (amps .hitchRaise read) 120) (s present)).chan.channels.hitchRaise
    (go false 51).faultTimer = some 200 ∧ (go false 50).faultTimer = some 0 ∧ (go true 50).faultTimer = some 0 ∧
    (go true 50).conditionPresent = false ∧ (go true 51).conditionPresent = true := by decide +kernel
/-! ### The store and adaptation -/

theorem witness_OilTemperature :
    let bad := { base with store := { base.store with oilBadSince := some 0 } }
    let f := base.raise .oilTemperature none
    let good := { f with store := { f.store with oilGoodSince := some 0 } }
    base.running = true ∧ (after (.oilTimer 1000 150) base).store.oil = some 150 ∧
    (after (.oilTimer 1000 151) base).store.oil = none ∧ (after (.oilTimer 1000 (-40)) base).store.oil = some (-40) ∧
    bad.active .oilTemperature = false ∧ (after (.oilTimer 999 151) bad).active .oilTemperature = false ∧
    (after (.oilTimer 1000 (-41)) bad).active .oilTemperature = true ∧ good.active .oilTemperature = true ∧
    (after (.oilTimer 1000 20) good).active .oilTemperature = false ∧
    (after (.oilTimer 999 20) good).active .oilTemperature = true := by decide +kernel
theorem witness_SlotProgramEnds :
    let s := storing (.writeSlot .p0 14 trailerBytes false) base
    let found := List.replicate 16 (0xFF : Byte)
    s.running = true ∧ Memory.wf s.store.mem = true ∧ s.store.op = some (.writeSlot .p0 14 trailerBytes false) ∧
    trailerBytes.length = 16 ∧ s.store.opEnd ≤ s.now + 3 ∧ s.store.queue = [] ∧ found.length = 16 ∧ found ≠ trailerBytes ∧
    (after (.slotProgramComplete 3 .asMeant) s).store.cal.trailer = some { val := { kTb := 64 }, seq := 15 } ∧
    (after (.slotProgramComplete 3 (.other found)) s).store.op = some (.writeVoid .p0 14 true) := by decide +kernel
/-- The second mismatch of a write that a run waits for. -/
theorem witness_SecondMismatch :
    let w : Write := { record := .clutch .c2 { tFill := 130, pKiss := 320, i0 := 320, iFull := 980, adapt := 8 }, fromRun := true }
    let b := storing (.writeSlot .p0 15 (recordBytes w.record 16) true) base
    let s := { b with
      store := { b.store with inFlight := some (w, true), saved := b.store.saved.set .c2 8, working := b.store.working.set .c2 8 }
      run := { b.run with phase := .write, clutch := some .c2 } }
    let t := after (.slotProgramComplete 3 (.other (List.replicate 16 0))) s
    s.running = true ∧ Memory.wf s.store.mem = true ∧ (recordBytes w.record 16).length = 16 ∧ s.store.opEnd ≤ s.now + 3 ∧
    t.store.op = some (.writeVoid .p0 15 false) ∧ t.store.inFlight = none ∧ t.active .storeWrite = true ∧
    t.run.phase = .failed ∧ t.run.reason = some .store ∧ t.store.saved.c2 = 0 ∧ t.store.working.c2 = 0 := by decide +kernel
theorem witness_VoidProgramEnds :
    let s := storing (.writeVoid .p0 14 true) base
    let n := storing (.writeVoid .p1 63 false) base
    s.running = true ∧ Memory.wf s.store.mem = true ∧ s.store.op = some (.writeVoid .p0 14 true) ∧
    s.store.opEnd ≤ s.now + 3 ∧
    s.store.inUse = some .p0 ∧ s.store.nextFree ≤ 63 ∧
    (after (.voidProgramComplete 3) s).store.op =
      some (.writeSlot .p0 15 (recordBytes (.trailer { kTb := 64 }) 16) true) ∧
    (after (.voidProgramComplete 3) n).store.op = none ∧
    Memory.read (after (.voidProgramComplete 3) n).store.mem (slotBase .p1 63) = 0 := by decide +kernel
/-- A copy of a compaction: the last one, one before another, a first and a second mismatch; the two voids; and the next write
after an abandoned compaction. -/
theorem witness_CompactionCopies :
    let more : List (CalRecord × Nat) := [(.speed { w := 700 }, 9)]
    let copy := fun (rest : List (CalRecord × Nat)) (b : Bool) => storing (.compactCopy .p1 4 trailerBytes rest b) base
    let go := fun (rb : ReadBack) (s : State) => (after (.slotProgramComplete 3 rb) s).store
    let bad : ReadBack := .other (List.replicate 16 0)
    let void := fun (r : Option (List Byte)) => storing (.compactVoid .p1 4 r more) base
    let left := { void none with store := { (void none).store with
      inFlight := none, nextFree := 64, queue := [{ record := .speed { w := 800 }, fromRun := false }] } }
    (copy [] true).running = true ∧ (copy [] true).store.opEnd ≤ (copy [] true).now + 3 ∧
    Memory.wf (copy [] true).store.mem = true ∧ List.replicate 16 (0 : Byte) ≠ trailerBytes ∧
    (go .asMeant (copy [] true)).op = some (.compactActive .p1 5 false) ∧
    (go .asMeant (copy more true)).op = some (.compactCopy .p1 5 (recordBytes (.speed { w := 700 }) 9) [] false) ∧
    (go bad (copy more false)).op = some (.compactVoid .p1 4 (some trailerBytes) more) ∧
    (go bad (copy more true)).op = some (.compactVoid .p1 4 none more) ∧ (go bad (copy more true)).inFlight = none ∧
    (go bad (copy more true)).inUse = some .p0 ∧
    (after (.voidProgramComplete 3) (void (some trailerBytes))).store.op = some (.compactCopy .p1 5 trailerBytes more true) ∧
    (after (.voidProgramComplete 3) (void none)).store.op = none ∧
    (after (.voidProgramComplete 3) left).store.op = some (.compactErase .p1 false) := by decide +kernel
theorem witness_EraseAndHeaderPrograms :
    let e := fun (b : Bool) => storing (.compactErase .p1 b) base
    let f := { storing (.formatActive false) State.reset with store := { (storing (.formatActive false) State.reset).store with queue := [] } }
    (e false).running = true ∧ (e false).store.op = some (.compactErase .p1 false) ∧
    (e true).store.opEnd ≤ (e true).now + 3 ∧
    Memory.wf (e true).store.mem = true ∧
    (after (.pageEraseComplete 3 .asMeant) (e true)).store.op = some (.compactReceiving .p1 false) ∧
    (∃ b ∈ ([0xFE] : List Byte).take 1024, b ≠ erasedByte) ∧
    (after (.pageEraseComplete 3 (.other [0xFE])) (e false)).store.op = some (.compactErase .p1 true) ∧
    f.store.op = some (.formatActive false) ∧ (after (.headerProgramComplete 3 .asMeant) f).store.inUse = some .p0 := by
  decide +kernel
/-- The marks of a compaction, and the second failures of an erase and of a mark, of a compaction and of a format. -/
theorem witness_MarksAndSecondFailures :
    let go := fun (o : StoreOp) (rb : ReadBack) => after (.headerProgramComplete 3 rb) (storing o base)
    let bad : ReadBack := .other (List.replicate 16 0x7F)
    (storing (.compactReceiving .p1 false) base).running = true ∧ List.replicate 16 (0x7F : Byte) ≠ receivingHeader base.store.mem .p1 ∧
    (go (.compactReceiving .p1 false) .asMeant).store.op.isSome = true ∧ recordsInUse base ≠ [] ∧ recordsInUse State.reset = [] ∧
    (go (.compactActive .p1 11 false) .asMeant).store.inUse = some .p1 ∧
    (go (.compactActive .p1 11 false) .asMeant).store.nextFree = 11 ∧
    pageState (go (.compactActive .p1 11 false) .asMeant).store.mem .p1 = .active 1 ∧
    (go (.compactSpent .p0 false) .asMeant).store.op = some (.writeSlot .p0 15 (recordBytes (.trailer { kTb := 64 }) 16) false) ∧
    pageState (go (.prepareSpent .p1 false) .asMeant).store.mem .p1 = .spent ∧
    (go (.compactReceiving .p1 false) bad).store.op = some (.compactReceiving .p1 true) ∧
    (go (.compactActive .p1 11 true) bad).store.inUse = some .p0 ∧ (go (.compactActive .p1 11 true) bad).active .storeWrite = true ∧
    (go (.compactSpent .p0 true) bad).active .storeWrite = true ∧
    (go (.formatReceiving true) bad).store.inUse = none ∧ (go (.formatActive true) bad).store.inUse = none ∧
    (after (.pageEraseComplete 3 (.other [0])) (storing (.formatErase true) base)).store.inUse = none ∧
    (after (.pageEraseComplete 3 (.other [0])) (storing (.compactErase .p1 true) base)).store.inFlight = none := by decide +kernel
/-- The format of an erased store, from reset: an erase, then the two marks, then a page in use. -/
theorem test_format_from_reset :
    let s := after (.headerProgramComplete 3 .asMeant)
      (after (.headerProgramComplete 3 .asMeant) (after (.pageEraseComplete 40 .asMeant) State.reset))
    s.store.inUse = some .p0 ∧ s.store.nextFree = 1 ∧ s.store.op = none := by decide +kernel
theorem witness_DrainedReportEndsFlush :
    let s := { base with power := { base.power with power := .flush } }
    s.running = true ∧ s.power.power = .flush ∧ s.drained = true ∧ s.power.restartWanted = false ∧
    (after (.storeDrained 1) s).power.power = .off ∧ (after (.storeDrained 1) s).power.hold = false ∧
    (storing (.writeVoid .p0 14 true) s).drained = false ∧
    (s.chan.channels.get .spare).state = .parked ∧ (s.chan.channels.get .fwdRelease).state ≠ .parked := by decide +kernel
/-- With a restart wanted, the drained report and the power step at 500 ms end FLUSH in a Soft restart; an ignition judged on
in FLUSH marks it, and one judged off again clears the mark. -/
theorem witness_FlushRestarts :
    let flush := fun (p : PowerState) => { base with power := { p with power := .flush } }
    let wanted := flush { restartWanted := true }
    let back := flush { ignitionOn := false, highSince := some 0 }
    let gone := flush { restartWanted := true, lowSince := some 0 }
    wanted.running = true ∧ wanted.drained = true ∧ (after (.storeDrained 1) wanted).power.power = .run ∧
    (after (.storeDrained 1) wanted).start = 1 ∧ (after (.storeDrained 1) wanted).power.hold = true ∧
    wanted.power.ignitionOn = true ∧ (after (.powerStep 499 true []) wanted).power.power = .flush ∧
    (after (.powerStep 500 true []) wanted).power.power = .run ∧ (after (.powerStep 500 true []) wanted).start = 500 ∧
    (after (.powerStep 49 true []) back).power.restartWanted = false ∧
    (after (.powerStep 50 true []) back).power.restartWanted = true ∧
    (after (.powerStep 49 false []) gone).power.restartWanted = true ∧
    (after (.powerStep 50 false []) gone).power.restartWanted = false ∧
    (after (.powerStep 500 false []) gone).power.power = .off := by decide +kernel
theorem witness_LossOfSupplyKeepsTheMemory :
    let s := storing (.writeSlot .p0 14 trailerBytes false) base
    s.store.op = some (.writeSlot .p0 14 trailerBytes false) ∧ trailerBytes.length = 16 ∧ Memory.wf s.store.mem = true ∧
    base.store.op = none ∧ (after (.lossOfSupply 1 []) s).life = .unpowered ∧
    Memory.read (after (.lossOfSupply 1 []) s).store.mem (slotBase .p0 14) = 11 ∧
    Memory.read (after (.lossOfSupply 1 []) (storing (.writeVoid .p0 14 true) s)).store.mem (slotBase .p0 14) = 0 := by
  decide +kernel

/-! ### The calibration run -/

/-- A run of C1 in some phase: park applied, engine at 1000. -/
def running (p : RunPhase) (named : Nat) : State :=
  let s := atSpeed { eng := 1000, tin := 1000 } base
  { s with
    run := { phase := p, clutch := some .c1, startTin := 1000, named := named }
    brake := { s.brake with demand := { s.brake.demand with parkApplied := true } } }

theorem witness_RunStepAbortsOrRaises :
    let s := running .kissSearch 780
    let n := running .kissSearch 800
    s.running = true ∧ s.run.clutch = some .c1 ∧ s.run.phase = .kissSearch ∧ s.brake.demand.parkApplied = true ∧
    s.speed.set.vGround < 50 ∧ 800 ≤ s.speed.set.eng ∧ s.gateOpen .trans = true ∧ s.power.power = .run ∧
    s.run.startTin < s.speed.set.tin + 60 ∧ s.run.lastChange + 200 ≤ s.now + 200 ∧
    (after (.runStep 200 100) s).run.named = 800 ∧ (after (.runStep 200 100) n).run.reason = some .kissNotFound ∧
    (after (.runStep 5 0) { s with brake := { s.brake with demand := { s.brake.demand with parkApplied := false } } }).run.reason =
      some .parkReleased := by decide +kernel
theorem witness_CalRunAndCalAbort :
    let idle := held .calib { holder := .svc } (running .idle 0)
    let s := tool (.calRun (Key.clutch .c3).code) .unlocked idle
    let a := fun (p : RunPhase) => tool .calAbort .unlocked (held .calib { holder := .svc } (running p 0))
    s.running = true ∧ s.svc.unlock = .unlocked ∧ s.holder .calib = .svc ∧
    s.svc.frame = some (.calRun (Key.clutch .c3).code) ∧
    s.runInProgress = false ∧ s.brake.demand.parkApplied = true ∧ s.speed.set.vGround < 50 ∧ 900 ≤ s.speed.set.eng ∧
    s.speed.set.eng ≤ 1600 ∧ s.seq.published.gear = .neutral ∧ s.seq.published.shiftKind = none ∧
    s.gateOpen .trans = true ∧ s.power.power = .run ∧ (after (.calRun 5 100) s).run.clutch = some .c3 ∧
    (after (.calRun 5 100) s).run.phase = .prepare ∧ (a .prepare).svc.frame = some .calAbort ∧
    (after (.calAbort 5) (a .prepare)).run.reason = some .aborted ∧ (after (.calAbort 5) (a .write)).run.phase = .write ∧
    (after (.calAbort 5) (a .done)).run.phase = .done := by decide +kernel

/-! ### Axle Engagement -/

theorem witness_AutoCondition :
    let cond := fun (v : Nat) (was : Bool) (l : LiftState) =>
      let s := atSpeed { vGround := v } base
      (after (.axleStep 5 true) { s with axle := { s.axle with autoCond := was }, hitch := { s.hitch with lift := l } }).axle.autoCond
    base.running = true ∧ cond 1300 false .work = true ∧ cond 1300 true .raised = false ∧ cond 1301 true .raised = true ∧
    cond 1499 false .work = false ∧ cond 1500 true .work = false ∧
    (after (.axleStep 5 true) (atSpeed { slipValid := true, slipF := 150 } base)).axle.autoCond = true ∧
    (after (.axleStep 5 true) (atSpeed { slipValid := true, slipF := 149 } base)).axle.autoCond = false := by decide +kernel
theorem witness_AxleStepEngages :
    let braked := { base with brake := { base.brake with demand := { base.brake.demand with brakeActive := true } } }
    let lost := base.raise .trailerSupplyLost none
    base.running = true ∧ (atSpeed { vGround := 200 } braked).brake.demand.brakeActive = true ∧
    (after (.axleStep 5 true) (atSpeed { vGround := 200 } braked)).axle.appliedEngaged = true ∧
    { braked with axle := { braked.axle with brakeEngagement := true } }.axle.brakeEngagement = true ∧
    lost.active .trailerSupplyLost = true ∧ lost.axle.faultEngagement = true ∧
    (base.raise .vehicleLinkLost none).active .vehicleLinkLost = true ∧ dark.gateOpen .axle = false ∧
    (after (.axleStep 5 true) dark).chan.channels.fwdRelease.demand = 0 ∧
    { base with axle := { base.axle with own := { base.axle.own with releaseBlock := true } } }.axle.ackSeen = false ∧
    (base.raise .axleReleaseFailed none).active .axleReleaseFailed = true := by decide +kernel
theorem witness_DiffLockDrops :
    let locked := { base with
      build := { diffLockFitted := true }
      axle := { base.axle with own := { base.axle.own with dlEngaged := true, dlMode := some .on } } }
    let pressed := { locked with brake := { locked.brake with demand := { locked.brake.demand with pedalLeft := true } } }
    let fast := atSpeed { vGround := 1501 } locked
    pressed.running = true ∧ pressed.brake.demand.pedalLeft = true ∧
    (after (.axleStep 5 true) pressed).axle.own.dlEngaged = false ∧
    (after (.axleStep 5 true) fast).axle.own.dlEngaged = false ∧ (after (.axleStep 5 true) fast).axle.own.dlMode = some .on ∧
    (after (.axleStep 5 true) fast).axle.own.dlCancel = true ∧ base.build.diffLockFitted = false ∧
    dark.gateOpen .axle = false ∧ dark.running = true := by decide +kernel

/-- R107, R118: the AXLE gate as the step read it keeps the lock out, where the step itself reopens it. -/
theorem test_lock_reads_the_gate_at_stage_one :
    let s := { base with
      build := { diffLockFitted := true }
      fault := { base.fault with
        gates := base.fault.gates.set .axle [{ code := .axleReleaseFailed, active := true, acked := true }], active := [.axleReleaseFailed] }
      axle := { base.axle with own := { base.axle.own with fwd := .applying, dlMode := some .on } } }
    s.gateOpen .axle = false ∧ (after (.axleStep 300 false) s).gateOpen .axle = true ∧
    (after (.axleStep 300 false) s).axle.own.dlEngaged = false := by decide +kernel

/-! ### Hitch Controller -/

/-- P_act at a step of 10 ms on the position reading 2132 is 525 (R121, entries 410 and 3690). -/
theorem test_position : (after (.hitchStep 10 { hitchInputs with adc := 2132 }) base).hitch.pAct = some 525 := by decide +kernel
/-- A fender that raises, the same above U_lim, and a lowering fender with the lock on. -/
theorem witness_HitchPilotCurrents :
    let s := demanded 0 { base with hitch := { base.hitch with fenderArm := true } }
    let up := fun (adc : Nat) => after (.hitchStep 10 { hitchInputs with adc := adc, fenderLeft := .up }) s
    let dn := fun (adc : Nat) => after (.hitchStep 10 { hitchInputs with adc := adc, fenderLeft := .down }) s
    s.running = true ∧ s.hitchCal = some hitchRecord ∧ (up 2132).hitch.lift = .fender ∧ (up 2132).hitch.report.q < 0 ∧
    0 < (up 2132).chan.channels.hitchRaise.demand ∧ (up 2132).chan.channels.hitchLower.demand = 0 ∧
    (up 3690).hitch.pAct = some 1000 ∧ (up 3690).chan.channels.hitchRaise.demand = 0 ∧
    0 < (dn 2132).hitch.report.q ∧ 0 < (dn 2132).chan.channels.hitchLower.demand ∧
    (dn 410).hitch.pAct = some 0 ∧ (dn 410).chan.channels.hitchLower.demand = 0 := by decide +kernel
/-- R127 by hand at P_act 525, deadband 10 and gain 64: WORK on a lever of 600 at mix 0 is (-75 + 10) * 64 / 32 = -130, on 400
it is (125 - 10) * 2 = 230 and the cap q_drop 100 holds it, on 530 it is inside the deadband; LOWERING has the same flow, and
RAISED holds U_lim 600. RAISING drives -1000, UNMATCHED 0. -/
theorem witness_HitchFlow :
    let q := fun (l : LiftState) (lever qDrop : Nat) => (after (.hitchStep 10 { hitchInputs with adc := 2132 })
      { base with hitch := { base.hitch with
          lift := l, gain := 64, deadband := 10, prevHolder := .cab
          cab := { base.hitch.cab with pLever := some lever, mix := 0, uLim := 600, lLim := 0, qDrop := qDrop, sLim := 0, lock := false } } }).hitch
    base.holder .hitchSet = .cab ∧ (q .work 600 1000).pAct = some 525 ∧ (q .work 600 1000).lift = .work ∧
    (q .work 600 1000).report.q = -130 ∧ (q .work 400 1000).report.q = 230 ∧ (q .work 400 100).report.q = 100 ∧
    (q .work 530 1000).report.q = 0 ∧ (q .lowering 400 100).lift = .lowering ∧ (q .lowering 400 100).report.q = 100 ∧
    (q .raised 400 1000).lift = .raised ∧ (q .raised 400 1000).report.q = -130 ∧
    (q .raising 400 1000).lift = .raising ∧ (q .raising 400 1000).report.q = -1000 ∧
    (q .unmatched 400 1000).lift = .unmatched ∧ (q .unmatched 400 1000).report.q = 0 := by decide +kernel
/-- R136: a switch pressed at v_ground 100 and held starts no FENDER at 99 before it has been released; one
pressed at 99 does. -/
theorem test_held_fender_switch :
    let s := demanded 0 { base with hitch := { base.hitch with fenderArm := true } }
    let step := fun (f : FenderSwitch) (v : Nat) (s : State) =>
      after (.hitchStep 10 { hitchInputs with fenderLeft := f }) (atSpeed { vGround := v } s)
    let moved := step .up 100 s
    moved.hitch.fenderHeld = true ∧ moved.hitch.fenderArm = true ∧ (step .up 99 moved).hitch.lift ≠ .fender ∧
    (step .up 99 moved).hitch.fenderHeld = true ∧ (step .released 99 moved).hitch.fenderHeld = false ∧
    (step .up 99 s).hitch.lift = .fender := by decide +kernel
theorem witness_HitchStops :
    let none_ := { base with store := { base.store with cal := { base.store.cal with hitch := none } } }
    let fender := held .hitchLift { holder := .fender } { dark with hitch := { dark.hitch with lift := .fender } }
    base.running = true ∧ none_.hitchCal = none ∧ (built { serviceStrap := true } base).build.serviceStrap = true ∧
    (watching .low base).valveSupplyOk = false ∧ dark.gateOpen .hitch = false ∧
    fender.running = true ∧ fender.hitch.lift = .fender ∧
    (after (.hitchStep 10 hitchInputs) fender).holder .hitchLift = .part ∧
    (after (.hitchStep 10 hitchInputs) none_).hitch.lift = .stopped := by decide +kernel
theorem witness_ImplementHitchParts :
    let impl := fun (s : State) => held .hitchLift { holder := .impl, leaseEnd := some 5 } (held .hitchSet { holder := .impl, leaseEnd := some 5 } s)
    let both := implement (.implHitch (some { p := 1001, d := 300, m := 101 }) (some .raise)) (impl base)
    let work := implement (.implHitch none (some .work)) (impl base)
    let raised := { work with hitch := { work.hitch with lift := .raised, cab := { work.hitch.cab with lock := false } } }
    both.running = true ∧ both.head .implement = some (.implHitch (some { p := 1001, d := 300, m := 101 }) (some .raise)) ∧
    both.holder .hitchSet = .impl ∧ both.holder .hitchLift = .impl ∧ both.hitch.lift ≠ .stopped ∧
    (after (.implHitchSetpoint 1) both).hitch.shadow = some { p := 1000, d := 300, m := 100 } ∧
    (after (.implHitchSetpoint 1) both).hitch.pendingLift = some .raise ∧
    (after (.implHitchSetpoint 1) both).link.implement.inbox = [] ∧
    after (.implHitchRaise 1) both = after (.implHitchSetpoint 1) both ∧
    work.hitch.lift = .unmatched ∧ work.link.implement.rejoin = none ∧ work.link.implement.outbox = [] ∧
    (after (.implHitchWork 1) work).hitch.pendingLift = none ∧ raised.hitch.cab.lock = false ∧
    (after (.implHitchWork 1) raised).hitch.pendingLift = some .work := by decide +kernel
/-- R138: without eleven steps in the history the runaway check waits, and fault 7 stays active. -/
theorem test_runaway_waits :
    let f := base.raise .hitchRunaway none
    let s := { f with hitch := { f.hitch with runaway := { bad := none, good := some 0 } } }
    (after (.hitchStep 1000 { hitchInputs with adc := 2132 }) s).active .hitchRunaway = true := by decide +kernel
/-- R139, R155: the two status frames carry the latest step's values, not the state a gate closure or an ACK has left since. -/
theorem test_status_snapshots :
    let h := { base with hitch := { base.hitch with lift := .stopped, report := { base.hitch.report with lift := .work } } }
    let b := { base with brake := { base.brake with trailer := { line := .ready }, report := { line := .lost } } }
    hitchStatusFrame h = hitchStatusFrame { h with hitch := { h.hitch with lift := .work } } ∧
    trailerStatusFrame b = trailerStatusFrame { b with brake := { b.brake with trailer := { line := .lost } } } := by decide +kernel

/-! ### Trailer Brake Controller -/

/-- Both pedals, and a raw reading that gives a P_brk: 480 is 50, 720 is 200. -/
def pressing (raw : Nat) : BrakeInputs := { brakeInputs with pedalLeft := true, pedalRight := true, rawBrake := raw }

/-- A fitted trailer line in some state since 0. -/
def trailer (l : SupplyLine) : State :=
  { built { trailerFitted := true } base with brake := { base.brake with trailer := { line := l } } }

theorem witness_BrakeDemandOfTheStep :
    let d := fun (raw : Nat) => (after (.brakeStep 10 (pressing raw)) base).brake.demand
    let one := fun (raw : Nat) => (after (.brakeStep 10 { pressing raw with pedalRight := false }) base).brake.demand
    base.running = true ∧ base.active .brakePressureSensor = false ∧ (d 480).pBrk = 50 ∧ (d 480).brakeActive = true ∧
    (d 479).brakeActive = false ∧ (one 720).pBrk = 200 ∧ (one 720).brakeActive = true ∧ (one 719).brakeActive = false ∧
    (d 200).pBrk = 0 ∧ (d 3895).pBrk = 2000 ∧
    (after (.brakeStep 10 (pressing 199)) { base with brake := { base.brake with rawBad := 2 } }).brake.demand.sensorFailed = true ∧
    (after (.brakeStep 10 (pressing 199)) { base with brake := { base.brake with rawBad := 2 } }).brake.demand.brakeActive = true := by
  decide +kernel
theorem witness_TrailerMapValue :
    let m := fun (raw : Nat) => (after (.brakeStep 10 (pressing raw)) (trailer .ready)).brake.trailer.pMap
    (trailer .ready).running = true ∧ (trailer .ready).brake.trailer.line ≠ .notFitted ∧
    (trailer .ready).store.cal.trailer = none ∧
    m 480 = 88 ∧ m 720 = 200 ∧ m 1040 = 350 ∧ m 2000 = 800 ∧ m 3600 = 1500 ∧ m 400 = 0 := by decide +kernel
theorem witness_TrailerLineCommand :
    let t := fun (l : SupplyLine) (i : BrakeInputs) => (after (.brakeStep 10 i) (trailer l)).brake.trailer
    (trailer .charging).running = true ∧ (t .charging (pressing 720)).line = .ready ∧
    (t .charging (pressing 720)).pTc = 200 ∧
    (t .lost brakeInputs).line = .lost ∧ (t .lost brakeInputs).pTc = 1500 ∧
    (t .ready { brakeInputs with parkApplied := true }).line = .supplyOff ∧
    (t .ready { brakeInputs with parkApplied := true }).pTc = 0 := by decide +kernel
/-- LOST: the recharge begins, holds at 500 ms, and clears the latch with an acknowledgement only. -/
theorem witness_LatchClears :
    let lost := fun (since : Option Nat) (ack : Bool) => { trailer .lost with brake := { (trailer .lost).brake with
      trailer := { line := .lost, closedSince := since, ackSeen := ack } } }
    let go := fun (dt : Nat) (s : State) => (after (.brakeStep dt brakeInputs) s).brake.trailer
    let opened := after (.brakeStep 500 { brakeInputs with supplyClosed := false }) (lost (some 0) true)
    (lost (some 0) true).running = true ∧ brakeInputs.supplyClosed = true ∧ (go 10 (lost none true)).closedSince = some 10 ∧
    (go 499 (lost (some 0) true)).line = .lost ∧ (go 500 (lost (some 0) true)).line = .ready ∧
    (go 500 (lost (some 0) false)).line = .lost ∧ opened.brake.trailer.line = .lost ∧
    opened.brake.trailer.closedSince = none := by decide +kernel
theorem witness_Breakaway :
    let s := { trailer .ready with brake := { (trailer .ready).brake with trailer := { (trailer .ready).brake.trailer with openSince := some 0 } } }
    let i := { brakeInputs with supplyClosed := false }
    s.running = true ∧ s.brake.trailer.line = .ready ∧ s.gateOpen .trailer = true ∧ s.valveSupplyOk = true ∧
    s.brake.trailer.openSince = some 0 ∧ (after (.brakeStep 199 i) s).brake.trailer.line = .ready ∧
    (after (.brakeStep 200 i) s).brake.trailer.line = .lost := by decide +kernel

/-! ### Faults -/

theorem witness_Acknowledgement :
    let s := cab (.ack 0) dark
    let n := cab (.ack 5) dark
    s.running = true ∧ s.head .vehicle = some (.ack 0) ∧ FaultCode.ofNum 5 = some .valveSupplyLow ∧
    FaultCode.ofNum 99 = none ∧
    (after (.cabCommandAck 1) n).fault.list.map FaultEntry.acked = [true] ∧
    (after (.cabCommandAck 1) (cab (.ack 6) dark)).fault.list.map FaultEntry.acked = [false] := by decide +kernel
/-- An acknowledgement of fault 4 in LOST, recharged and not, and one of another code. -/
theorem witness_AcknowledgementInLost :
    let s := fun (n : Nat) (charged : Bool) => cab (.ack n) { trailer .lost with brake := { (trailer .lost).brake with recharged := charged } }
    (s 4 true).running = true ∧ (s 4 true).head .vehicle = some (.ack 4) ∧ (s 4 true).brake.trailer.line = .lost ∧
    (after (.cabCommandAck 1) (s 4 true)).brake.trailer.line = .ready ∧
    (after (.cabCommandAck 1) (s 0 false)).brake.trailer.ackSeen = true ∧
    (after (.cabCommandAck 1) (s 5 true)).brake = (s 5 true).brake := by decide +kernel
theorem witness_EntryRemoval :
    let e : FaultEntry := { entry .storeWrite with active := false, acked := true, noticePending := false, removalDue := some 100 }
    let s := { base with fault := { base.fault with list := [e] } }
    s.running = true ∧ s.fault.list.find? (fun d => decide (d.code = e.code)) = some e ∧
    (after (.entryRemoval 99 .storeWrite) s).fault.list = [e] ∧
    (after (.entryRemoval 100 .storeWrite) s).fault.list = [] := by
  decide +kernel
theorem witness_LinkCheckJudgesDemand :
    let s := demanded 0 base
    s.running = true ∧ s.link.demandA.isSome = true ∧ s.link.demandB.isSome = true ∧
    (after (.linkCheck 200) s).active .vehicleLinkLost = false ∧ (after (.linkCheck 201) s).active .vehicleLinkLost = true ∧
    (after (.linkCheck 201) s).holder .hitchSet = .part ∧ s.link.vehicle.rejoin = none ∧
    (after (.linkCheck 1) (after (.operatorDemandB 0 (List.replicate 8 0)) (after (.linkCheck 201) s))).active .vehicleLinkLost = true := by
  decide +kernel

/-! ### Power -/

/-- Base in some power state with the ignition judged as given. -/
def powered (p : PowerState) : State := { base with power := p }

theorem witness_PowerStepMoves :
    let run := powered { lowSince := some 0 }
    let settle := powered { power := .settle, ignitionOn := false, highSince := some 0 }
    let flush := powered { power := .flush, ignitionOn := false }
    let off := powered { power := .off, ignitionOn := false, highSince := some 0, hold := false }
    run.life = .on ∧ (after (.powerStep 49 false []) run).power.power = .run ∧
    (after (.powerStep 50 false []) run).power.power = .settle ∧
    (after (.powerStep 50 true []) settle).power.power = .run ∧ (after (.powerStep 1 false []) settle).power.power = .flush ∧
    (after (.powerStep 1999 false []) (atSpeed { vGround := 50 } settle)).power.power = .settle ∧
    (after (.powerStep 2000 false []) (atSpeed { vGround := 50 } settle)).power.power = .flush ∧
    (after (.powerStep 499 false []) flush).power.power = .flush ∧
    (after (.powerStep 500 false []) flush).power.power = .off ∧
    (after (.powerStep 50 true []) off).life = .strapWindow := by decide +kernel
/-- Fifty readings, the first forty with a bouncing trailer strap. -/
def readings : List StrapReading :=
  let r : StrapReading := { trailerLow := false, draftLow := true, radarLow := false, diffLockLow := false, serviceLow := false }
  List.replicate 40 r ++ List.replicate 10 { r with trailerLow := true }
theorem witness_SupplyAndStrapWindow :
    let cold := after (.lossOfSupply 0 []) base
    let window := after (.supplyApplied 7 true) cold
    cold.life = .unpowered ∧ window.life = .strapWindow ∧ window.start + 50 ≤ window.now + 50 ∧ readings.length = 50 ∧
    (after (.strapWindowEnd 49 readings) window).life = .strapWindow ∧
    (after (.strapWindowEnd 50 readings) window).running = true ∧
    (after (.strapWindowEnd 50 readings) window).build = { trailerFitted := true, draftFitted := true } := by decide +kernel
/-- An erased store starts as reset describes it: the reset state is the start without straps. -/
theorem test_reset_is_a_start :
    { after (.strapWindowEnd 50 (List.replicate 50 { trailerLow := false, draftLow := false, radarLow := false, diffLockLow := false, serviceLow := false }))
      (after (.supplyApplied 0 true) (after (.lossOfSupply 0 []) State.reset)) with store := State.reset.store } = State.reset := by
  decide +kernel

/-! ### Links -/

theorem witness_PeriodicFrames :
    base.running = true ∧ base.link.vehicle.rejoin = none ∧
    (after (.engineReport 3 [0x08, 0x07, 50, 1]) base).link.engine =
      some { val := { eng := 1800, load := 50, limitAck := true }, arrived := 3 } ∧
    (after (.engineReport 3 [0x08, 0x07, 50]) base).link.engine = none ∧
    (decodeDemandA (List.replicate 8 0)).isSome = true ∧ (decodeDemandA [3, 0, 0, 0, 0, 0, 0, 0]) = none ∧
    (decodeDemandB [200, 0, 0, 0, 0, 0, 0, 0]).map DemandB.pLever = some 1000 ∧
    (decodeDemandB []) = none := by decide +kernel
theorem witness_EventFramesQueue :
    let full := base.onLink .vehicle (fun k => { k with inbox := List.replicate 8 .gearUp })
    base.running = true ∧ eventKind .vehicle 0x218 ≠ none ∧ eventKind .vehicle 0x100 = none ∧
    (after (.eventFrameReceived 1 .vehicle 0x218 [1, 0]) base).link.vehicle.inbox.length = 1 ∧
    (after (.eventFrameReceived 1 .vehicle 0x218 [1]) base).link.vehicle.inbox = [] ∧
    (after (.eventFrameReceived 1 .vehicle 0x218 [1, 0]) full).link.vehicle.inbox.length = 8 ∧
    full.link.vehicle.outbox.length < 8 ∧ full.link.vehicle.rejoin = none := by decide +kernel
theorem witness_TransmitterChoosesLowest :
    let s := base.onLink .vehicle (fun k =>
      { k with outbox := [outFrame .notice [0], outFrame .refusal [0]], mail := [{ ident := 0x300, data := [] }], tx := some .event })
    s.running = true ∧ s.link.vehicle.bounded = true ∧ s.link.vehicle.rejoin = none ∧ s.link.vehicle.tx = some .event ∧
    (after (.frameSent 1 .vehicle) s).link.vehicle.outbox = [outFrame .refusal [0]] := by decide +kernel
/-- R178: of two waiting copies the one of the lower identifier is chosen and leaves its mailbox, the other stays; with
nothing left to wait the transmitter is idle. -/
theorem witness_TransmitterChoosesCopy :
    let s := fun (mail : List Mail) =>
      after (.frameSent 1 .vehicle) (base.onLink .vehicle (fun k => { k with mail := mail, tx := some .event }))
    (s [{ ident := 0x300, data := [1] }, { ident := 0x308, data := [2] }]).link.vehicle.tx =
      some (.mail { ident := 0x300, data := [1] }) ∧
    (s [{ ident := 0x300, data := [1] }, { ident := 0x308, data := [2] }]).link.vehicle.mail =
      [{ ident := 0x308, data := [2] }] ∧ (s []).link.vehicle.tx = none := by decide +kernel
theorem witness_BusOffAndRejoin :
    let s := leased.onLink .implement (fun k => { k with inbox := [.authKeep 2], outbox := [outFrame .reply [2, 1, 0, 50], outFrame .notice [0]] })
    let t := after (.busOff 1 .implement) s
    s.running = true ∧ (s.link.get .implement).rejoin = none ∧ t.link.implement.rejoin = some 211 ∧
    t.link.implement.inbox = [] ∧
    t.link.implement.outbox = [outFrame .notice [0]] ∧ t.holder .speed = .cab ∧
    (after (.linkRejoin 199 .implement) t).link.implement.rejoin = some 211 ∧
    (after (.linkRejoin 200 .implement) t).link.implement.rejoin = none := by decide +kernel
/-- R172: a TORQUE_LIMIT cut short returns to its mailbox only where the torque part in flight has asked for it. -/
theorem test_torque_limit_returns :
    let s := fun (asked : Bool) => (shifting.onSeq (fun q => { q with shift := q.shift.map (fun r =>
      { r with torque := some { t0 := 10, asked := asked, acked := false, nextSend := 20 } }) })).onLink .vehicle (fun k =>
        { k with tx := some (.mail { ident := 0x0C0, data := [50] }) })
    (after (.busOff 1 .vehicle) (s true)).link.vehicle.mail = [{ ident := 0x0C0, data := [50] }] ∧
    (after (.busOff 1 .vehicle) (s false)).link.vehicle.mail = [] := by decide +kernel
theorem witness_StatusCopiesArePlaced : base.running = true ∧ base.link.vehicle.bounded = true ∧ base.link.implement.bounded = true ∧
    (after (.reportTimer 1) base).link.implement = base.link.implement ∧
    (after (.reportTimer 1) (after (.reportTimer 1) base)).link.implement.tx.isSome = true := by decide +kernel
/-- R176: a new HITCH_STATUS takes the place of the waiting one, and the waiting DRIVE_STATUS and TRAILER_STATUS stand. -/
theorem test_status_copy_replaced :
    let s := base.onLink .vehicle (fun k => { k with
      mail := [{ ident := 0x300, data := [1] }, { ident := 0x308, data := [2] }, { ident := 0x310, data := [3] }], tx := some .event })
    s.link.vehicle.bounded = true ∧ (after (.hitchStatus 1) s).link.vehicle.mail =
      [{ ident := 0x300, data := [1] }, { ident := 0x308, data := hitchStatusFrame s }, { ident := 0x310, data := [3] }] ∧
    (after (.hitchStatus 1) s).link.vehicle.tx = some .event := by decide +kernel

/-! ### Service line -/

/-- A receiver that holds some bytes of a frame, the last at 0. -/
def receiving (bs : List Byte) : State := base.onSvc (fun v => { v with rx := .receiving, buf := bs })

theorem witness_ServiceReceiver :
    base.running = true ∧ base.svc.lineRisen = true ∧ base.svc.rx = .idle ∧
    (after (.serviceByte 1 33) base).svc.rx = .idle ∧ (after (.serviceByte 1 32) base).svc.rx = .receiving ∧
    (receiving [0, 0x32]).svc.rx = .receiving ∧ (receiving [0, 0x32]).svc.buf = [0, 0x32] ∧
    (after (.serviceByte 1 0xCE) (receiving [0, 0x32])).svc.rx = .answering ∧
    (after (.serviceByte 1 0xCF) (receiving [0, 0x32])).svc.rx = .idle ∧
    (after (.serviceGapExpiry 4) (receiving [0])).svc.rx = .receiving ∧
    (after (.serviceGapExpiry 5) (receiving [0])).svc.rx = .idle ∧
    (after (.serviceLineFirstRise 1) (base.onSvc (fun v => { v with lineRisen := false }))).svc.lineRisen = true := by decide +kernel
theorem witness_AnswersEnd :
    let s := base.onSvc (fun v => { v with rx := .answering, answer := some (frameBytes 0x81 []) })
    let sent := fun (r : Bool) => s.onSvc (fun v => { v with sending := true, restartAfter := r })
    s.running = true ∧ s.svc.rx = .answering ∧ s.svc.answer ≠ none ∧ (after (.answerStart 1) s).svc.sending = true ∧
    (sent false).svc.sending = true ∧ (sent false).svc.restartAfter = false ∧
    (after (.answerSent 2 []) (sent false)).svc.rx = .idle ∧
    (sent true).svc.restartAfter = true ∧ (after (.answerSent 2 []) (sent true)).start = 2 := by decide +kernel
theorem witness_SyncAndKey :
    let keying := (tool (.key 0xFFFF) .keying base).onSvc (fun v => { v with words := [65535, 65535, 65535, 65535], lastAnswer := some 0 })
    (tool (.sync 0x4B2D) .locked base).running = true ∧ (tool (.sync 0x4B2D) .locked base).svc.frame = some (.sync 0x4B2D) ∧
    (after (.sync 1) (tool (.sync 0x4B2D) .locked base)).svc.unlock = .synced ∧ (base.svc.syncBlock = none) ∧
    keying.svc.frame = some (.key 0xFFFF) ∧ keying.svc.unlock = .keying ∧ keying.svc.words.length = 4 ∧
    (after (.key 49) keying).svc.unlock = .keying ∧ (after (.key 50) keying).svc.unlock = .unlocked ∧
    (after (.key 50) (keying.onSvc (fun v => { v with frame := some (.key 1) }))).svc.syncBlock = some 50 := by decide +kernel
theorem witness_UnlockedEnds :
    let s := fun (f : SvcFrame) => held .gear { holder := .svc } (tool f .unlocked base)
    (s .cancel).running = true ∧ (s .cancel).svc.frame = some .cancel ∧ (s .lock).svc.frame = some .lock ∧
    (s .cancel).build.serviceStrap = false ∧ (after (.cancel 1) (s .cancel)).holder .gear = .cab ∧
    (after (.lock 1) (s .lock)).svc.unlock = .locked ∧ (after (.lock 1) (tool .lock .synced base)).svc.unlock = .synced ∧
    (after (.silenceExpiry 4999) ((s .lock).onSvc (fun v => { v with silence := some 5000 }))).svc.unlock = .unlocked ∧
    (after (.silenceExpiry 5000) ((s .lock).onSvc (fun v => { v with silence := some 5000 }))).svc.unlock = .locked ∧
    (after (.syncBlockExpiry 9999) (base.onSvc (fun v => { v with syncBlock := some 0 }))).svc.syncBlock = some 0 ∧
    (after (.syncBlockExpiry 10000) (base.onSvc (fun v => { v with syncBlock := some 0 }))).svc.syncBlock = none := by decide +kernel
/-- Movement at v_ground 100 locks, and 99 does not; a run in PREPARE fails with CALIB_LOST, and one in WRITE goes on. -/
theorem witness_MovementLocks :
    let s := fun (p : RunPhase) => held .calib { holder := .svc } (tool .lock .unlocked (running p 0))
    let moving := fun (out : Nat × Nat) => turning out (0, 0) (s .prepare)
    (s .prepare).running = true ∧ (s .prepare).svc.unlock = .unlocked ∧ (s .prepare).build.serviceStrap = false ∧
    (after (.speedSample 20 0) (moving (1, 15151))).speed.set.vGround = 100 ∧
    (after (.speedSample 20 0) (moving (1, 15151))).svc.unlock = .locked ∧
    (after (.speedSample 20 0) (moving (1, 15151))).run.reason = some .calibLost ∧
    (after (.speedSample 20 0) (moving (1, 15384))).speed.set.vGround = 99 ∧
    (after (.speedSample 20 0) (moving (1, 15384))).svc.unlock = .unlocked ∧
    (after (.lock 1) (s .write)).run.phase = .write ∧ (after (.lock 1) (s .write)).holder .calib = .part := by decide +kernel
theorem witness_ItemAccess :
    let w := fun (v : List Byte) (u : Unlock) => tool (.writeItem 0x040A v) u base
    (w [1, 0] .unlocked).running = true ∧ (tool (.readItem 0x0001) .locked base).svc.frame = some (.readItem 0x0001) ∧
    (w [1, 0] .unlocked).svc.frame = some (.writeItem 0x040A [1, 0]) ∧
    (after (.writeItem 1) (w [1, 0] .unlocked)).hitch.gain = 1 ∧
    (after (.writeItem 1) (w [0, 0] .unlocked)).hitch.gain = 1 ∧
    (after (.writeItem 1) (w [0, 1] .unlocked)).hitch.gain = 255 ∧
    (after (.writeItem 1) (w [1, 0] .locked)).hitch.gain = 40 ∧ itemClass 0x040A = .svc ∧
    itemValue base 0x040A = some [40, 0] ∧ itemValue base 0x7777 = none := by decide +kernel
/-- Taken writes of the deadband, of an offset (42 gives 40, -7 gives -4), of adc_low, which adc_high 3690 bounds at 3590, and
of a SERVICE_KEY word; a value of the wrong width; and the two refusals of a clutch key without a record. -/
theorem witness_TakenWrites :
    let w := fun (item : Nat) (v : List Byte) (s : State) =>
      let t := tool (.writeItem item v) .unlocked s
      { t with brake := { t.brake with demand := { t.brake.demand with parkApplied := true } } }
    let go := fun (item : Nat) (v : List Byte) (s : State) => after (.writeItem 1) (w item v s)
    let bare := { base with store := { base.store with cal := { base.store.cal with clutches := everyClutch none } } }
    let refused := fun (r : Reason) => some (frameBytes 0x83 [BitVec.ofNat 8 (reasonCode r)])
    (w 0x040B [60, 0] base).running = true ∧ itemClass 0x040B = .svc ∧ (w 0x040B [60, 0] base).svc.unlock = .unlocked ∧
    (go 0x040B [60, 0] base).hitch.deadband = 50 ∧ (go 0x040B [0xFF, 0xFF] base).hitch.deadband = 0 ∧
    (go 0x040B [5] base).svc.answer = refused .unknown ∧ (itemValue base 0x040B).map List.length = some 2 ∧
    base.queuesBounded = true ∧ base.store.inUse ≠ none ∧ allClutches[3]? = some .c2 ∧ base.latestClutch .c2 ≠ none ∧
    (go 0x3203 [42, 0] base).store.working.get .c2 = 40 ∧ (go 0x3203 [42, 0] base).store.saved.get .c2 = 40 ∧
    (go 0x3203 [0xF9, 0xFF] base).store.working.get .c2 = -4 ∧ (go 0x3203 [0xF9, 0xFF] base).store.saved.get .c2 = 0 ∧
    bare.latestClutch .c2 = none ∧ (go 0x3203 [4, 0] bare).svc.answer = refused .uncalibrated ∧
    itemClass 0x4A00 = .prot ∧ 0x4A00 = (0x40 + Key.hitch.code) * 256 + 0 ∧ base.latestPayload .hitch ≠ none ∧
    (w 0x4A00 [0, 0] base).speed.set.vGround < 50 ∧
    (go 0x4A00 [0xFF, 0x0F] base).latestPayload .hitch = some (.hitch { hitchRecord with adcLow := 3590 }) ∧
    (go 0x4D01 [0xFF, 0xFE] base).latestPayload .serviceKey ≠ base.latestPayload .serviceKey ∧
    (go 0x4100 [100, 0] bare).svc.answer = refused .uncalibrated := by decide +kernel
theorem witness_ServiceTakesAndReleases :
    let t := tool (.take 2) .unlocked base
    let r := held .speed { holder := .svc } (tool (.release 2) .unlocked base)
    t.running = true ∧ t.svc.frame = some (.take 2) ∧ t.svc.unlock = .unlocked ∧ funcOf 2 = some .speed ∧
    t.holder .speed = .cab ∧
    (after (.take 1) t).holder .speed = .svc ∧ funcOf 7 = none ∧ r.svc.frame = some (.release 2) ∧ r.holder .speed = .svc ∧
    (after (.release 1) r).holder .speed = .cab ∧
    (after (.take 1) (held .speed { holder := .fender } t)).holder .speed = .fender := by decide +kernel
theorem witness_StoreNowAndRestart :
    let s := tool .storeNow .unlocked base
    let r := tool .restart .unlocked base
    s.running = true ∧ s.svc.frame = some .storeNow ∧ s.svc.unlock = .unlocked ∧ s.store.inUse ≠ none ∧
    s.latestClutch .c1 ≠ none ∧ r.svc.frame = some .restart ∧ r.power.power = .run ∧ r.speed.set.vGround < 50 ∧
    (after (.restart 1) r).svc.restartAfter = true ∧
    (after (.restart 1) (atSpeed { vGround := 50 } r)).svc.restartAfter = false ∧
    (after (.storeNow 1) { s with store := { s.store with working := s.store.working.set .c1 3 } }).store.saved.get .c1 = 3 := by
  decide +kernel

end Sys2Proof.Tests
end

section
/-! PROOFS. Speed Capture (01): the facts of a pickup edge and of a speed sample, and what they settle. -/

open Sys2Proof Sys2Proof.Machine

namespace Sys2Proof.Machine

/-! ### The two events of Speed Capture -/

/-- An edge of a running part is read at its time (R2). -/
theorem exec_pickupEdge_of_running (s : State) (dt us : Nat) (p : Pickup) (h : s.running = true) :
    exec (.pickupEdge dt p us) s = .next (pickupEdge p us (s.advance dt)) :=
  congrArg Host.Outcome.next (State.event_running s dt _ h)

/-- A sample of a running part is taken at its time (R1). -/
theorem exec_speedSample_of_running (s : State) (dt pedal : Nat) (h : s.running = true) :
    exec (.speedSample dt pedal) s = .next (speedSample pedal (s.advance dt)) :=
  congrArg Host.Outcome.next (State.event_running s dt _ h)

/-! ### Pickup edges (R2) -/

@[simp] theorem captureEdge_latest (us : Nat) (c : Capture) : (captureEdge us c).latest = some us := by
  unfold captureEdge; split <;> rfl

theorem captureEdge_of_ref_none (us : Nat) {c : Capture} (h : c.ref = none) :
    (captureEdge us c).ref = some us ∧ (captureEdge us c).count = 0 := by simp [captureEdge, h]

theorem captureEdge_of_ref_some (us : Nat) {c : Capture} {r : Nat} (h : c.ref = some r) :
    (captureEdge us c).ref = some r ∧ (captureEdge us c).count = c.count + 1 := by simp [captureEdge, h]

/-- An edge changes the records of Speed Capture alone. -/
theorem pickupEdge_eq_speed_changed (p : Pickup) (us : Nat) (s : State) :
    pickupEdge p us s = { s with speed := (pickupEdge p us s).speed } := by
  cases p with
  | radar => unfold pickupEdge; dsimp only; split <;> rfl
  | input | output | front => rfl

/-- Without RADAR_FITTED the radar pickup is not read (R4). -/
theorem pickupEdge_radar_unfitted (us : Nat) {s : State} (h : s.build.radarFitted = false) :
    pickupEdge .radar us s = s := by simp [pickupEdge, h]

/-- A pickup that is read: its record takes the edge, and every other record of Speed Capture stands (R2). -/
theorem pickupEdge_of_read (p : Pickup) (us : Nat) (s : State) (h : p = .radar → s.build.radarFitted = true) :
    (∀ q, (pickupEdge p us s).speed.capture q =
        if q = p then captureEdge (1000 * s.now + us) (s.speed.capture q) else s.speed.capture q) ∧
      (pickupEdge p us s).speed.set = s.speed.set ∧ (pickupEdge p us s).speed.radar = s.speed.radar := by
  cases p with
  | radar =>
    rw [pickupEdge, if_pos (h rfl)]
    exact ⟨fun q => by cases q <;> rfl, rfl, rfl⟩
  | input | output | front => exact ⟨fun q => by cases q <;> rfl, rfl, rfl⟩

/-! ### The reading of a capture record (R3, R4) -/

theorem readCapture_of_no_edge (now scale per top : Nat) {c : Capture} (h : c.latest = none) :
    readCapture now scale per top c = { c with ref := none, reading := 0 } := by simp [readCapture, h]

theorem readCapture_of_new_edges (now scale per top : Nat) {c : Capture} {e r : Nat} (hl : c.latest = some e)
    (hr : c.ref = some r) (hc : 1 ≤ c.count) (hre : r < e) :
    readCapture now scale per top c =
      { c with ref := some e, count := 0, reading := clamp 0 top (scale * c.count / (per * (e - r))) } := by
  have hspan : e - r ≠ 0 := by omega
  simp [readCapture, spanReading, hl, hr, hc, hspan]

theorem readCapture_of_recent_edge (now scale per top : Nat) {c : Capture} {e : Nat} (hl : c.latest = some e)
    (hc : c.count = 0) (hn : 1000 * now ≤ e + 250000) : readCapture now scale per top c = c := by
  simp [readCapture, hl, hc, hn]

theorem readCapture_of_silence (now scale per top : Nat) {c : Capture} {e : Nat} (hl : c.latest = some e)
    (hc : c.count = 0) (hn : e + 250000 < 1000 * now) :
    readCapture now scale per top c = { c with ref := none, reading := 0 } := by
  simp [readCapture, hl, hc, Nat.not_le.mpr hn]

/-- A sample never changes the latest edge. -/
@[simp] theorem readCapture_latest (now scale per top : Nat) (c : Capture) :
    (readCapture now scale per top c).latest = c.latest := by
  unfold readCapture
  split
  · rfl
  · split
    · rfl
    · split <;> rfl

/-- What R3 and R4 say of a sample's reading: the four cases of a record. -/
theorem readCapture_reads {now scale per top : Nat} {c d : Capture} (hd : d = readCapture now scale per top c) :
    (c.latest = none → d.reading = 0 ∧ d.ref = none) ∧
      ∀ e, c.latest = some e →
        (∀ r, 1 ≤ c.count → 1000 * now ≤ e + 250000 → c.ref = some r → r < e →
          d.reading = clamp 0 top (scale * c.count / (per * (e - r))) ∧ d.ref = some e ∧ d.count = 0) ∧
        (c.count = 0 → 1000 * now ≤ e + 250000 → d.reading = c.reading ∧ d.ref = c.ref ∧ d.count = 0) ∧
        (c.count = 0 → e + 250000 < 1000 * now → d.reading = 0 ∧ d.ref = none) ∧
        d.latest = some e := by
  subst hd
  refine ⟨fun hl => ?_, fun e hl => ⟨fun r hc _ hr hre => ?_, fun hc hn => ?_, fun hc hn => ?_, ?_⟩⟩
  · simp [readCapture_of_no_edge now scale per top hl]
  · simp [readCapture_of_new_edges now scale per top hl hr hc hre]
  · simp [readCapture_of_recent_edge now scale per top hl hc hn, hc]
  · simp [readCapture_of_silence now scale per top hl hc hn]
  · simp [hl]

/-! ### Engine speed (R6) -/

/-- Once a copy has arrived, the Engine Report is fresh for 100 ms after it, while the vehicle link receives. -/
theorem reportFresh_iff {s : State} {c : Copy EngineReport} (h : s.link.engine = some c) :
    reportFresh s = true ↔ s.link.vehicle.rejoin = none ∧ s.now ≤ c.arrived + 100 := by
  simp [reportFresh, State.receives, LinkBlock.get, h]

theorem engineSpeed_of_copy {s : State} {c : Copy EngineReport} (h : s.link.engine = some c) :
    engineSpeed s = clamp 0 4000 c.val.eng := by simp [engineSpeed, h]

/-! ### The calibration in use, and the radar check (R5, R8) -/

/-- Without a SPEED entry in the calibration in use, W is 1562 (R5). -/
theorem State.speedCal_w_of_none {s : State} (h : s.store.cal.speed = none) : s.speedCal.w = 1562 := by
  simp [State.speedCal, h]

/-- A radar in OK that reads 0 above the wheel speed of R8 is doubted at that sample. -/
theorem moveRadar_doubts (now : Nat) {r vWheel : Nat} (hr : r = 0) (hv : 300 < vWheel) :
    moveRadar now r vWheel .ok = (.doubt now, .quiet) := by simp [moveRadar, hr, hv]

/-! ### The substitute (R13) -/

/-- The shafts are published as they read while fault 29 is inactive, in N, or with no silent pickup recorded. -/
theorem substitute_of_none {g : Gear} {active : Bool} {silent : Option Shaft}
    (h : active = false ∨ g = .neutral ∨ silent = none) (tin tout : Nat) :
    substitute g active silent tin tout = (tin, tout) := by
  rcases h with rfl | rfl | rfl <;> simp [substitute]

theorem substitute_of_silent_output {g : Gear} (h : g ≠ .neutral) (tin tout : Nat) :
    substitute g true (some .output) tin tout =
      (tin, if tout = 0 then clamp 0 4000 (tin * 256 / ratio g.num) else tout) := by
  simp only [substitute, h, ne_eq, not_false_eq_true, decide_true, Bool.and_self, if_true]
  split <;> rfl

theorem substitute_of_silent_input {g : Gear} (h : g ≠ .neutral) (tin tout : Nat) :
    substitute g true (some .input) tin tout =
      (if tin = 0 then clamp 0 4000 (tout * ratio g.num / 256) else tin, tout) := by
  simp only [substitute, h, ne_eq, not_false_eq_true, decide_true, Bool.and_self, if_true]
  split <;> rfl

/-! ### Slip (R10, R11) -/

/-- The raw slip lies within 0 to 1000. -/
theorem rawSlip_le (vWheel vGround : Nat) : rawSlip vWheel vGround ≤ 1000 := by
  unfold rawSlip
  split
  · exact Nat.div_le_of_le_mul (Nat.mul_le_mul_right 1000 (Nat.sub_le ..))
  · omega

/-- A step by an eighth of the distance, truncated toward zero, does not pass its goal. -/
theorem truncatedEighth_between (a b : Nat) :
    min (a : Int) b ≤ (a : Int) + ((b : Int) - a).tdiv 8 ∧ (a : Int) + ((b : Int) - a).tdiv 8 ≤ max (a : Int) b := by
  rcases Int.le_total a b with h | h
  · rw [Int.tdiv_eq_ediv_of_nonneg (by omega)]; omega
  · rw [show (b : Int) - a = -(a - b) by omega, Int.neg_tdiv, Int.tdiv_eq_ediv_of_nonneg (by omega)]; omega

@[simp] theorem filterSlip_of_invalid (frozen : Bool) (old slip : Nat) : filterSlip false frozen old slip = 0 := rfl
@[simp] theorem filterSlip_of_frozen (old slip : Nat) : filterSlip true true old slip = old := rfl

/-- A filter step moves by the truncated eighth, and stays between the previous value and the raw slip. -/
theorem filterSlip_moves (old slip : Nat) :
    (filterSlip true false old slip : Int) = (old : Int) + ((slip : Int) - (old : Int)).tdiv 8 ∧
      min old slip ≤ filterSlip true false old slip ∧ filterSlip true false old slip ≤ max old slip := by
  have hb := truncatedEighth_between old slip
  have hf : (filterSlip true false old slip : Int) = (old : Int) + ((slip : Int) - (old : Int)).tdiv 8 :=
    Int.toNat_of_nonneg (by omega)
  omega

/-- The filter keeps its range. -/
theorem filterSlip_le {valid frozen : Bool} {old slip top : Nat} (ho : old ≤ top) (hs : slip ≤ top) :
    filterSlip valid frozen old slip ≤ top := by
  have hm := filterSlip_moves old slip
  cases valid with
  | false => simp
  | true =>
    cases frozen with
    | true => simpa using ho
    | false => omega

/-! ### Faults of a sample -/

/-- Whether a fault is active after a check's verdict on it. -/
def Verdict.after (v : Verdict) (active : Bool) : Bool :=
  match v with
  | .raise => true
  | .clear => false
  | .quiet => active

/-- A verdict on a code decides whether that code is active. -/
@[simp] theorem State.report_active (s : State) (c : FaultCode) (v : Verdict) :
    (s.report c v).active c = v.after (s.active c) := by
  cases v <;> simp [State.report, Verdict.after]

/-- A verdict on one code leaves every other code as it was. -/
theorem State.report_active_other (s : State) {c d : FaultCode} (v : Verdict) (h : d ≠ c) :
    (s.report c v).active d = s.active d := by
  cases v <;> simp [State.report, h]

/-- A publication of the Speed Set changes no active code. -/
@[simp] theorem publishSpeed_active (s : State) (c : FaultCode) : (publishSpeed s).active c = s.active c := by
  simp [State.active]

/-- The verdict on fault 18: raised at the first stale sample of a run, inactive at a fresh one (R6). -/
def engineVerdict (s : State) : Verdict :=
  if reportFresh s then .clear else if s.speed.stale then .quiet else .raise

theorem State.report_engineVerdict (s t : State) : t.report .engineReportLost (engineVerdict s) =
    if reportFresh s then t.reportInactive .engineReportLost
    else if s.speed.stale then t else t.raise .engineReportLost none := by
  unfold engineVerdict
  split
  · rfl
  · split <;> rfl

/-! ### The speed sample (R1) -/

/-- The radar reading r of R4 after a sample: the record's where the radar is fitted, else 0. -/
def State.radarReading (s : State) : Nat := if s.build.radarFitted then s.speed.capRadar.reading else 0

section
variable (pedal : Nat) (s : State)

theorem speedSample_capInput : (speedSample pedal s).speed.capInput =
    readCapture s.now 60000000 s.speedCal.teethInput 4000 s.speed.capInput := by
  simp [speedSample, apply_ite State.speed]

theorem speedSample_capOutput : (speedSample pedal s).speed.capOutput =
    readCapture s.now 60000000 s.speedCal.teethOutput 4000 s.speed.capOutput := by
  simp [speedSample, apply_ite State.speed]

theorem speedSample_capFront : (speedSample pedal s).speed.capFront =
    readCapture s.now 60000000 s.speedCal.teethFront 4000 s.speed.capFront := by
  simp [speedSample, apply_ite State.speed]

theorem speedSample_capRadar : (speedSample pedal s).speed.capRadar =
    if s.build.radarFitted then readCapture s.now 360000000 s.speedCal.ppm 6000 s.speed.capRadar
    else s.speed.capRadar := by
  simp [speedSample, apply_ite State.speed]

/-- FAX is the reading of the front shaft (R3). -/
theorem speedSample_fax : (speedSample pedal s).speed.set.fax = (speedSample pedal s).speed.capFront.reading := by
  simp [speedSample, apply_ite State.speed]

theorem speedSample_engFresh : (speedSample pedal s).speed.set.engFresh = reportFresh s := by
  simp [speedSample, apply_ite State.speed]

theorem speedSample_eng :
    (speedSample pedal s).speed.set.eng = if reportFresh s then engineSpeed s else 0 := by
  simp [speedSample, apply_ite State.speed]

/-- v_wheel is computed from the TOUT that the sample publishes (R7). -/
theorem speedSample_vWheel : (speedSample pedal s).speed.set.vWheel =
    clamp 0 6000 ((speedSample pedal s).speed.set.tout * s.speedCal.w / 1024) := by
  simp [speedSample, apply_ite State.speed]

/-- The radar check moves on the sample's radar reading and v_wheel (R8). -/
theorem speedSample_radar : (speedSample pedal s).speed.radar =
    (moveRadar s.now (speedSample pedal s).radarReading (speedSample pedal s).speed.set.vWheel s.speed.radar).1 := by
  simp [State.radarReading, speedSample, apply_ite State.speed, apply_ite State.build]

theorem speedSample_radarValid :
    (speedSample pedal s).speed.set.radarValid = decide ((speedSample pedal s).speed.radar = .ok) := by
  simp [speedSample, apply_ite State.speed]

/-- v_ground is the radar reading while it is valid, else v_wheel of the same sample (R9). -/
theorem speedSample_vGround : (speedSample pedal s).speed.set.vGround =
    if (speedSample pedal s).speed.set.radarValid then (speedSample pedal s).radarReading
    else (speedSample pedal s).speed.set.vWheel := by
  simp [State.radarReading, speedSample, apply_ite State.speed, apply_ite State.build]

theorem speedSample_slipValid : (speedSample pedal s).speed.set.slipValid =
    (s.build.radarFitted && (speedSample pedal s).speed.set.radarValid &&
      decide (100 ≤ (speedSample pedal s).speed.set.vWheel)) := by
  simp [speedSample, apply_ite State.speed]

theorem speedSample_slipF : (speedSample pedal s).speed.set.slipF =
    filterSlip (speedSample pedal s).speed.set.slipValid s.axle.own.transition s.speed.set.slipF
      (rawSlip (speedSample pedal s).speed.set.vWheel (speedSample pedal s).speed.set.vGround) := by
  simp [speedSample, apply_ite State.speed]

/-- The three verdicts of a sample are reported on a state whose faults are still those before it. -/
theorem speedSample_reports : ∃ t : State, t.fault = s.fault ∧
    speedSample pedal s = publishSpeed (((t.report .engineReportLost (engineVerdict s)).report .radarImplausible
      (moveRadar s.now (speedSample pedal s).radarReading (speedSample pedal s).speed.set.vWheel s.speed.radar).2).report
      .speedSensor (sensorCheck s pedal (speedSample pedal s).speed.capInput.reading
        (speedSample pedal s).speed.capOutput.reading).2) := by
  refine ⟨{ s with free := (speedSample pedal s).free, speed := (speedSample pedal s).speed }, rfl, ?_⟩
  rw [State.report_engineVerdict]
  simp [State.radarReading, speedSample, apply_ite State.speed, apply_ite State.build, apply_ite State.free]

theorem speedSample_active_speedSensor : (speedSample pedal s).active .speedSensor =
    (sensorCheck s pedal (speedSample pedal s).speed.capInput.reading
      (speedSample pedal s).speed.capOutput.reading).2.after (s.active .speedSensor) := by
  obtain ⟨t, hf, ht⟩ := speedSample_reports pedal s
  conv_lhs => rw [ht]
  rw [publishSpeed_active, State.report_active, State.report_active_other _ _ (by decide),
    State.report_active_other _ _ (by decide), State.active, hf, ← State.active]

theorem speedSample_active_radarImplausible : (speedSample pedal s).active .radarImplausible =
    (moveRadar s.now (speedSample pedal s).radarReading (speedSample pedal s).speed.set.vWheel s.speed.radar).2.after
      (s.active .radarImplausible) := by
  obtain ⟨t, hf, ht⟩ := speedSample_reports pedal s
  conv_lhs => rw [ht]
  rw [publishSpeed_active, State.report_active_other _ _ (by decide), State.report_active,
    State.report_active_other _ _ (by decide), State.active, hf, ← State.active]

theorem speedSample_active_engineReportLost : (speedSample pedal s).active .engineReportLost =
    (engineVerdict s).after (s.active .engineReportLost) := by
  obtain ⟨t, hf, ht⟩ := speedSample_reports pedal s
  rw [ht, publishSpeed_active, State.report_active_other _ _ (by decide), State.report_active_other _ _ (by decide),
    State.report_active, State.active, hf, ← State.active]

/-- The published shafts are the readings with the substitute of R13, on fault 29 as the sample leaves it. -/
theorem speedSample_shafts :
    ((speedSample pedal s).speed.set.tin, (speedSample pedal s).speed.set.tout) =
      substitute s.seq.gear ((speedSample pedal s).active .speedSensor) (speedSample pedal s).speed.silent
        (speedSample pedal s).speed.capInput.reading (speedSample pedal s).speed.capOutput.reading := by
  rw [speedSample_active_speedSensor]
  simp [speedSample, apply_ite State.speed, Verdict.after] <;> rfl

/-- The published shafts are the readings while no substitute applies (R13). -/
theorem speedSample_shafts_as_read
    (h : (speedSample pedal s).active .speedSensor = false ∨ s.seq.gear = .neutral ∨
      (speedSample pedal s).speed.silent = none) :
    (speedSample pedal s).speed.set.tin = (speedSample pedal s).speed.capInput.reading ∧
      (speedSample pedal s).speed.set.tout = (speedSample pedal s).speed.capOutput.reading :=
  Prod.mk.inj ((speedSample_shafts pedal s).trans (substitute_of_none h _ _))

/-- The published shafts while fault 29 is active with OUTPUT silent in gear (R13). -/
theorem speedSample_shafts_silent_output (ha : (speedSample pedal s).active .speedSensor = true)
    (hg : s.seq.gear ≠ .neutral) (hs : (speedSample pedal s).speed.silent = some .output) :
    (speedSample pedal s).speed.set.tin = (speedSample pedal s).speed.capInput.reading ∧
      (speedSample pedal s).speed.set.tout =
        if (speedSample pedal s).speed.capOutput.reading = 0 then
          clamp 0 4000 ((speedSample pedal s).speed.set.tin * 256 / ratio s.seq.gear.num)
        else (speedSample pedal s).speed.capOutput.reading := by
  have h := speedSample_shafts pedal s
  rw [ha, hs, substitute_of_silent_output hg] at h
  obtain ⟨htin, htout⟩ := Prod.mk.inj h
  exact ⟨htin, by rw [htout, htin]⟩

/-- The published shafts while fault 29 is active with INPUT silent in gear (R13). -/
theorem speedSample_shafts_silent_input (ha : (speedSample pedal s).active .speedSensor = true)
    (hg : s.seq.gear ≠ .neutral) (hs : (speedSample pedal s).speed.silent = some .input) :
    (speedSample pedal s).speed.set.tout = (speedSample pedal s).speed.capOutput.reading ∧
      (speedSample pedal s).speed.set.tin =
        if (speedSample pedal s).speed.capInput.reading = 0 then
          clamp 0 4000 ((speedSample pedal s).speed.set.tout * ratio s.seq.gear.num / 256)
        else (speedSample pedal s).speed.capInput.reading := by
  have h := speedSample_shafts pedal s
  rw [ha, hs, substitute_of_silent_input hg] at h
  obtain ⟨htin, htout⟩ := Prod.mk.inj h
  exact ⟨htout, by rw [htin, htout]⟩

/-- The radar record is read where the radar is fitted. -/
theorem speedSample_capRadar_fitted (h : s.build.radarFitted = true) : (speedSample pedal s).speed.capRadar =
    readCapture s.now 360000000 s.speedCal.ppm 6000 s.speed.capRadar := by
  rw [speedSample_capRadar, if_pos h]

/-- The radar record stands where no radar is fitted. -/
theorem speedSample_capRadar_unfitted (h : s.build.radarFitted = false) :
    (speedSample pedal s).speed.capRadar = s.speed.capRadar := by
  rw [speedSample_capRadar, h]; rfl

/-- The radar reading of a sample is its record's where the radar is fitted (R4). -/
theorem speedSample_radarReading_fitted (h : s.build.radarFitted = true) :
    (speedSample pedal s).radarReading = (speedSample pedal s).speed.capRadar.reading := by
  simp [State.radarReading, h]

/-- A stale sample publishes ENG 0, and the first of a run leaves fault 18 active (R6). -/
theorem speedSample_stale (h : (speedSample pedal s).speed.set.engFresh = false) :
    (speedSample pedal s).speed.set.eng = 0 ∧
      (s.speed.stale = false → (speedSample pedal s).active .engineReportLost = true) := by
  rw [speedSample_engFresh] at h
  rw [speedSample_eng, speedSample_active_engineReportLost]
  simp +contextual [engineVerdict, Verdict.after, h]

/-- A fresh sample leaves fault 18 inactive (R6). -/
theorem speedSample_fresh (h : (speedSample pedal s).speed.set.engFresh = true) :
    (speedSample pedal s).active .engineReportLost = false := by
  rw [speedSample_engFresh] at h
  rw [speedSample_active_engineReportLost]
  simp [engineVerdict, Verdict.after, h]

/-- The doubt takes the radar out of use at its own sample, without fault 17 (R8, R9). -/
theorem speedSample_doubts (hf : s.build.radarFitted = true) (hok : s.speed.radar = .ok)
    (hr : (speedSample pedal s).speed.capRadar.reading = 0) (hv : 300 < (speedSample pedal s).speed.set.vWheel) :
    (speedSample pedal s).speed.radar = .doubt s.now ∧
      (speedSample pedal s).speed.set.vGround = (speedSample pedal s).speed.set.vWheel ∧
      (speedSample pedal s).active .radarImplausible = s.active .radarImplausible := by
  rw [← speedSample_radarReading_fitted pedal s hf] at hr
  have hmove := moveRadar_doubts s.now hr hv
  have hradar : (speedSample pedal s).speed.radar = .doubt s.now := by rw [speedSample_radar, hok, hmove]
  refine ⟨hradar, ?_, ?_⟩
  · rw [speedSample_vGround, speedSample_radarValid, hradar]; rfl
  · rw [speedSample_active_radarImplausible, hok, hmove]; rfl

end

end Sys2Proof.Machine

/-! ### The obligations -/

namespace Sys2Proof.Proofs

/-- Settles O13, by the one record that an edge touches. -/
theorem pickupEdgeCounts : Obligations.PickupEdgeCounts := by
  intro s dt p us hrun
  refine ⟨_, exec_pickupEdge_of_running s dt us p hrun, pickupEdge_eq_speed_changed p us (s.advance dt), ?_, fun hread => ?_⟩
  · rintro rfl hfit
    exact pickupEdge_radar_unfitted us hfit
  · obtain ⟨hcap, hset, hradar⟩ := pickupEdge_of_read p us (s.advance dt) hread
    rw [(hcap p).trans (if_pos rfl)]
    exact ⟨captureEdge_latest _ _, captureEdge_of_ref_none _, fun r => captureEdge_of_ref_some _,
      fun q hq => (hcap q).trans (if_neg hq), hset, hradar⟩

/-- Settles O10: each record by `readCapture_reads`, the published shafts by R13's substitute, ENG by the report's age, and
v_wheel from the published TOUT. -/
theorem wheelSpeedFromOutputShaft : Obligations.WheelSpeedFromOutputShaft := by
  intro s dt pedal hrun
  refine ⟨_, exec_speedSample_of_running s dt pedal hrun, ?_⟩
  set u := s.advance dt with hu
  intro now k q v reads
  have hw : v.vWheel = clamp 0 6000 (v.tout * k.w / 1024) := speedSample_vWheel pedal u
  refine ⟨readCapture_reads (speedSample_capInput pedal u), readCapture_reads (speedSample_capOutput pedal u),
    readCapture_reads (speedSample_capFront pedal u),
    fun hfit => readCapture_reads (speedSample_capRadar_fitted pedal u hfit),
    speedSample_capRadar_unfitted pedal u, speedSample_fax pedal u, speedSample_shafts_as_read pedal u,
    fun ha hg => ⟨speedSample_shafts_silent_output pedal u ha hg, speedSample_shafts_silent_input pedal u ha hg⟩,
    fun c hc => ⟨?_, fun hfresh => ?_⟩, speedSample_stale pedal u, speedSample_fresh pedal u, hw,
    fun hk => ⟨fun ho => ?_, fun ho => ?_⟩, State.speedCal_w_of_none, by simp [hu]⟩
  · rw [show v.engFresh = reportFresh u from speedSample_engFresh pedal u]
    exact reportFresh_iff hc
  · have hrep : reportFresh u = true := (speedSample_engFresh pedal u).symm.trans hfresh
    calc v.eng = if reportFresh u then engineSpeed u else 0 := speedSample_eng pedal u
      _ = engineSpeed u := if_pos hrep
      _ = clamp 0 4000 c.val.eng := engineSpeed_of_copy hc
  · rw [hw, hk, ho]; rfl
  · rw [hw, hk, ho]; rfl

/-- Settles O11: the source of R9, and the doubt of R8 at the sample that meets it. -/
theorem groundSpeedSource : Obligations.GroundSpeedSource := by
  intro s dt pedal hrun
  refine ⟨_, exec_speedSample_of_running s dt pedal hrun, fun hvalid hfit => ?_, fun hvalid => ?_,
    fun hok hfit => speedSample_doubts pedal (s.advance dt) hfit hok, by simp⟩
  · rw [speedSample_vGround, hvalid, if_pos rfl]
    exact speedSample_radarReading_fitted pedal (s.advance dt) hfit
  · rw [speedSample_vGround, hvalid]; rfl

/-- Settles O12: the raw slip is `rawSlip`, and the filter moves by the truncated eighth (`filterSlip_moves`). -/
theorem slipFilter : Obligations.SlipFilter := by
  intro s dt pedal hrun
  refine ⟨_, exec_speedSample_of_running s dt pedal hrun, ?_⟩
  intro v slip old
  have hf : v.slipF = filterSlip v.slipValid s.axle.own.transition old slip := speedSample_slipF pedal (s.advance dt)
  have hslip : slip ≤ 1000 := rawSlip_le v.vWheel v.vGround
  refine ⟨speedSample_slipValid pedal (s.advance dt), hslip, fun hv => ?_, fun hv ht => ?_, fun hv ht => ?_, fun ho => ?_⟩
  · rw [hf, hv, filterSlip_of_invalid]
  · rw [hf, hv, ht, filterSlip_of_frozen]
  · rw [hf, hv, ht]; exact filterSlip_moves old slip
  · rw [hf]; exact filterSlip_le ho hslip

end Sys2Proof.Proofs
end

section
/-! PROOFS. The Function Arbiter's operations (02): what each leaves in the entry it works on, that it leaves every other
entry and every record a judgement reads, and how a pass over several functions comes apart into its turns. -/

open Sys2Proof Sys2Proof.Machine

namespace Sys2Proof.Machine

/-- An event of a running part has its effect at its time (R71, R168). -/
theorem exec_of_running {c : Instr} {s : State} {dt : Nat} {f : State → State} (hc : exec c s = .next (s.event dt f))
    (h : s.running = true) : exec c s = .next (f (s.advance dt)) :=
  hc.trans (congrArg Host.Outcome.next (State.event_running s dt f h))

/-! ### Frames as one equation -/

/-- A state that differs at most in authority, axle, hitch and links is the old one with these four records. -/
theorem State.eq_but_authority {s t : State}
    (h : t.pending = s.pending ∧ t.life = s.life ∧ t.now = s.now ∧ t.start = s.start ∧ t.free = s.free ∧
      t.build = s.build ∧ t.speed = s.speed ∧ t.seq = s.seq ∧ t.chan = s.chan ∧ t.store = s.store ∧ t.run = s.run ∧
      t.brake = s.brake ∧ t.fault = s.fault ∧ t.power = s.power ∧ t.svc = s.svc) :
    t = { s with auth := t.auth, axle := t.axle, hitch := t.hitch, link := t.link } := by
  cases s; cases t; simp_all

/-! ### The entry after a change of holder -/

/-- The entry of a function that passes to a holder at a time, with the seen values of that time (R16, R17). -/
def AuthEntry.movedTo (now : Nat) (seen : Option Seen) (f : Func) (h : Holder) (e : AuthEntry) : AuthEntry :=
  if e.holder = h then e
  else
    { e with
      holder := h
      leaseEnd := if h = .impl then some (now + 500) else none
      reference :=
        if h = .cab then none
        else if e.holder = .cab ∨ h = .impl then seen.bind (referenceOf f)
        else e.reference }

/-- The entry of a function without its request (R23). -/
def AuthEntry.dropped (e : AuthEntry) : AuthEntry := { e with pendingSince := none }

section
variable (now : Nat) (seen : Option Seen) (f : Func) (h : Holder) (e : AuthEntry)

@[simp] theorem AuthEntry.movedTo_holder : (e.movedTo now seen f h).holder = h := by
  unfold AuthEntry.movedTo; split <;> simp_all

@[simp] theorem AuthEntry.movedTo_pendingSince : (e.movedTo now seen f h).pendingSince = e.pendingSince := by
  unfold AuthEntry.movedTo; split <;> rfl

theorem AuthEntry.movedTo_leaseEnd (he : e.holder ≠ h) :
    (e.movedTo now seen f h).leaseEnd = if h = .impl then some (now + 500) else none := by
  rw [AuthEntry.movedTo, if_neg he]

theorem AuthEntry.movedTo_reference_cab (he : e.holder ≠ .cab) : (e.movedTo now seen f .cab).reference = none := by
  rw [AuthEntry.movedTo, if_neg he]; rfl

@[simp] theorem AuthEntry.dropped_holder : e.dropped.holder = e.holder := rfl
@[simp] theorem AuthEntry.dropped_leaseEnd : e.dropped.leaseEnd = e.leaseEnd := rfl
@[simp] theorem AuthEntry.dropped_reference : e.dropped.reference = e.reference := rfl
@[simp] theorem AuthEntry.dropped_pendingSince : e.dropped.pendingSince = none := rfl

theorem AuthEntry.dropped_of_none (he : e.pendingSince = none) : e.dropped = e := by
  cases e; simp_all [AuthEntry.dropped]

end

/-! ### What an operation for one function leaves of the others -/

/-- The records that a judgement of the Arbiter reads besides the function's own entry and enable state are as they were. -/
structure State.ReadsAlike (s t : State) : Prop where
  now : t.now = s.now
  build : t.build = s.build
  store : t.store = s.store
  fault : t.fault = s.fault
  seen : t.auth.seen = s.auth.seen
  shift : t.seq.shift = s.seq.shift
  fwd : t.axle.own.fwd = s.axle.own.fwd
  lift : t.hitch.lift = s.hitch.lift
  pAct : t.hitch.pAct = s.hitch.pAct

/-- For a function two states are alike: its entry, its enable state, and what a judgement reads besides. -/
structure State.AlikeFor (f : Func) (s t : State) : Prop extends s.ReadsAlike t where
  entry : t.auth.table.get f = s.auth.table.get f
  enable : t.auth.enable.get f = s.auth.enable.get f

/-- A step for one function leaves the state alike for every other. -/
structure State.ActsOn (f : Func) (s t : State) : Prop where
  reads : s.ReadsAlike t
  others : ∀ g, g ≠ f → s.AlikeFor g t

theorem State.ReadsAlike.refl (s : State) : s.ReadsAlike s := ⟨rfl, rfl, rfl, rfl, rfl, rfl, rfl, rfl, rfl⟩

theorem State.ReadsAlike.trans {s t u : State} (h : s.ReadsAlike t) (k : t.ReadsAlike u) : s.ReadsAlike u :=
  ⟨k.now.trans h.now, k.build.trans h.build, k.store.trans h.store, k.fault.trans h.fault, k.seen.trans h.seen,
    k.shift.trans h.shift, k.fwd.trans h.fwd, k.lift.trans h.lift, k.pAct.trans h.pAct⟩

theorem State.AlikeFor.refl (f : Func) (s : State) : s.AlikeFor f s := ⟨.refl s, rfl, rfl⟩

theorem State.AlikeFor.trans {f : Func} {s t u : State} (h : s.AlikeFor f t) (k : t.AlikeFor f u) : s.AlikeFor f u :=
  ⟨h.toReadsAlike.trans k.toReadsAlike, k.entry.trans h.entry, k.enable.trans h.enable⟩

theorem State.ActsOn.refl (f : Func) (s : State) : s.ActsOn f s := ⟨.refl s, fun g _ => .refl g s⟩

theorem State.ActsOn.trans {f : Func} {s t u : State} (h : s.ActsOn f t) (k : t.ActsOn f u) : s.ActsOn f u :=
  ⟨h.reads.trans k.reads, fun g hg => (h.others g hg).trans (k.others g hg)⟩

/-- A step for one function leaves the entry of every other. -/
theorem State.ActsOn.entry {f g : Func} {s t : State} (h : s.ActsOn f t) (hg : g ≠ f) :
    t.auth.table.get g = s.auth.table.get g := (h.others g hg).entry

theorem State.ReadsAlike.classA {s t : State} (h : s.ReadsAlike t) : t.classAActive = s.classAActive := by
  simp only [State.classAActive, h.fault]

/-- The target of a function depends on the calibration and the Build Record (R17). -/
theorem State.target_congr {s t : State} (hstore : t.store = s.store) (hbuild : t.build = s.build) (f : Func) :
    t.target f = s.target f := by
  have hcal : t.uncalibrated = s.uncalibrated := by rw [State.uncalibrated, hstore, State.uncalibrated]
  cases f <;> simp only [State.target, hcal, hbuild]

theorem State.ReadsAlike.target {s t : State} (h : s.ReadsAlike t) (f : Func) : t.target f = s.target f :=
  State.target_congr h.store h.build f

theorem State.ReadsAlike.safePoint {s t : State} (h : s.ReadsAlike t) (f : Func) : t.safePoint f = s.safePoint f := by
  cases f <;> simp only [State.safePoint, h.shift, h.fwd, h.lift]

/-- The code of the function that a code names is that code (R181). -/
theorem funcCode_of_funcOf {code : Nat} {f : Func} (h : funcOf code = some f) : funcCode f = code := by
  unfold funcOf at h
  split at h <;> simp_all [funcCode] <;> subst h <;> rfl

/-- No function returns to the implement. -/
theorem State.target_ne_impl (s : State) (f : Func) : s.target f ≠ .impl := by
  cases f <;> simp [State.target]
  split <;> simp

/-- No function returns to the service tool. -/
theorem State.target_ne_svc (s : State) (f : Func) : s.target f ≠ .svc := by
  cases f <;> simp [State.target]
  split <;> simp

/-! ### The operations, one by one -/

section
variable (s : State) (f : Func)

theorem State.onEntry_actsOn (g : AuthEntry → AuthEntry) : s.ActsOn f (s.onEntry f g) :=
  ⟨⟨rfl, rfl, rfl, rfl, rfl, rfl, rfl, rfl, rfl⟩, fun _ hk =>
    ⟨⟨rfl, rfl, rfl, rfl, rfl, rfl, rfl, rfl, rfl⟩, func_get_set_other _ _ _ _ hk, rfl⟩⟩

@[simp] theorem State.onEntry_entry (g : AuthEntry → AuthEntry) :
    (s.onEntry f g).auth.table.get f = g (s.auth.table.get f) := by simp [State.onEntry]

/-- Whether AUTHORITY_STATUS is due is read by no judgement. -/
theorem State.statusDue_actsOn (b : Bool) : s.ActsOn f { s with auth := { s.auth with statusDue := b } } :=
  ⟨⟨rfl, rfl, rfl, rfl, rfl, rfl, rfl, rfl, rfl⟩, fun _ _ => ⟨⟨rfl, rfl, rfl, rfl, rfl, rfl, rfl, rfl, rfl⟩, rfl, rfl⟩⟩

theorem State.setEnable_actsOn (e : Enable) :
    s.ActsOn f { s with auth := { s.auth with enable := s.auth.enable.set f e, statusDue := true } } :=
  ⟨⟨rfl, rfl, rfl, rfl, rfl, rfl, rfl, rfl, rfl⟩, fun _ hk =>
    ⟨⟨rfl, rfl, rfl, rfl, rfl, rfl, rfl, rfl, rfl⟩, rfl, func_get_set_other _ _ _ _ hk⟩⟩

/-- A reply is read by no judgement. -/
theorem State.reply_alikeFor (code : Nat) (r : ReplyResult) : s.AlikeFor f (s.reply code r) := by
  refine ⟨⟨?_, ?_, ?_, ?_, ?_, ?_, ?_, ?_, ?_⟩, ?_, ?_⟩ <;> simp

theorem State.reply_actsOn (code : Nat) (r : ReplyResult) : s.ActsOn f (s.reply code r) :=
  ⟨(s.reply_alikeFor f code r).toReadsAlike, fun g _ => s.reply_alikeFor g code r⟩

/-- A calibration run that is aborted leaves the shift in flight. -/
theorem State.abortRun_shift (r : RunReason) : (s.abortRun r).seq.shift = s.seq.shift := by
  unfold State.abortRun; split <;> rfl

/-- What falls with a change of holder is read by no judgement. -/
theorem State.holderMoved_reads (before after : Holder) :
    (s.holderMoved f before after).seq.shift = s.seq.shift ∧
      (s.holderMoved f before after).axle.own.fwd = s.axle.own.fwd ∧
      (s.holderMoved f before after).hitch.lift = s.hitch.lift ∧
      (s.holderMoved f before after).hitch.pAct = s.hitch.pAct := by
  cases f with
  | gear | speed | hitchLift | axle => exact ⟨rfl, rfl, rfl, rfl⟩
  | hitchSet => unfold State.holderMoved; dsimp only; split <;> exact ⟨rfl, rfl, rfl, rfl⟩
  | calib => unfold State.holderMoved; dsimp only; split <;> simp [State.abortRun_shift]

theorem State.holderMoved_alikeFor (g : Func) (before after : Holder) : s.AlikeFor g (s.holderMoved f before after) := by
  obtain ⟨hshift, hfwd, hlift, hpos⟩ := s.holderMoved_reads f before after
  exact ⟨⟨by simp, by simp, by simp, by simp, by simp, hshift, hfwd, hlift, hpos⟩, by simp, by simp⟩

theorem State.holderMoved_actsOn (before after : Holder) : s.ActsOn f (s.holderMoved f before after) :=
  ⟨(s.holderMoved_alikeFor f f before after).toReadsAlike, fun g _ => s.holderMoved_alikeFor f g before after⟩

theorem State.setHolder_actsOn (h : Holder) : s.ActsOn f (s.setHolder f h) := by
  unfold State.setHolder
  dsimp only
  split
  · exact .refl f s
  · exact ((s.onEntry_actsOn f _).trans (State.statusDue_actsOn _ f true)).trans (State.holderMoved_actsOn _ f _ _)

@[simp] theorem State.setHolder_entry (h : Holder) :
    (s.setHolder f h).auth.table.get f = (s.auth.table.get f).movedTo s.now s.auth.seen f h := by
  unfold State.setHolder AuthEntry.movedTo
  dsimp only
  split <;> simp

@[simp] theorem State.setHolder_enable (h : Holder) : (s.setHolder f h).auth.enable = s.auth.enable := by
  unfold State.setHolder
  dsimp only
  split <;> simp [State.onEntry]

theorem State.dropPending_actsOn : s.ActsOn f (s.dropPending f) := by
  unfold State.dropPending
  dsimp only
  split
  · exact (s.onEntry_actsOn f _).trans (State.statusDue_actsOn _ f true)
  · exact .refl f s

@[simp] theorem State.dropPending_entry : (s.dropPending f).auth.table.get f = (s.auth.table.get f).dropped := by
  unfold State.dropPending
  dsimp only
  split
  · simp [AuthEntry.dropped]
  · next h => exact ((s.auth.table.get f).dropped_of_none (by simpa using h)).symm

@[simp] theorem State.dropPending_enable : (s.dropPending f).auth.enable = s.auth.enable := by
  unfold State.dropPending
  dsimp only
  split <;> rfl

theorem State.dropPending_of_none (h : (s.auth.table.get f).pendingSince = none) : s.dropPending f = s := by
  simp [State.dropPending, h]

/-- What is refused is dropped, and its answer changes no authority. -/
@[simp] theorem State.refusePending_auth (r : Reason) : (s.refusePending f r).auth = (s.dropPending f).auth := by
  unfold State.refusePending
  split
  · simp
  · next h => rw [s.dropPending_of_none f (by simpa using h)]

theorem State.refusePending_actsOn (r : Reason) : s.ActsOn f (s.refusePending f r) := by
  unfold State.refusePending
  split
  · exact (s.dropPending_actsOn f).trans (State.reply_actsOn _ f _ _)
  · exact .refl f s

/-- What moves away is moved, and the LAPSED changes no authority. -/
@[simp] theorem State.moveAway_auth (h : Holder) : (s.moveAway f h).auth = (s.setHolder f h).auth := by
  unfold State.moveAway
  split <;> simp

theorem State.moveAway_actsOn (h : Holder) : s.ActsOn f (s.moveAway f h) := by
  unfold State.moveAway
  split
  · exact (s.setHolder_actsOn f h).trans (State.reply_actsOn _ f _ _)
  · exact s.setHolder_actsOn f h

theorem State.grant_actsOn : s.ActsOn f (s.grant f) :=
  ((s.dropPending_actsOn f).trans (State.setHolder_actsOn _ f .impl)).trans (State.reply_actsOn _ f _ _)

/-- A grant drops the request and gives the function to the implement (R21). -/
@[simp] theorem State.grant_entry :
    (s.grant f).auth.table.get f = (s.auth.table.get f).dropped.movedTo s.now s.auth.seen f .impl := by
  have hd := (s.dropPending_actsOn f).reads
  simp [State.grant, hd.seen]

@[simp] theorem State.grant_enable : (s.grant f).auth.enable = s.auth.enable := by simp [State.grant]

@[simp] theorem State.seize_entry (h : Holder) :
    (s.seize f h).auth.table.get f = (s.auth.table.get f).dropped.movedTo s.now s.auth.seen f h := by
  have hd := (s.dropPending_actsOn f).reads
  simp [State.seize, hd.seen]

theorem State.seize_actsOn (h : Holder) : s.ActsOn f (s.seize f h) :=
  (s.refusePending_actsOn f _).trans (State.moveAway_actsOn _ f h)

theorem State.reclaim_actsOn : s.ActsOn f (s.reclaim f) := by
  have hmove := (s.refusePending_actsOn f .notDelegated).trans (State.moveAway_actsOn _ f .cab)
  unfold State.reclaim
  dsimp only
  split
  · exact hmove.trans (State.setEnable_actsOn _ f .spent)
  · exact hmove

/-- A reclaim drops the request and gives the function to CAB (R26). -/
@[simp] theorem State.reclaim_entry :
    (s.reclaim f).auth.table.get f = (s.auth.table.get f).dropped.movedTo s.now s.auth.seen f .cab := by
  have hd := (s.dropPending_actsOn f).reads
  unfold State.reclaim
  dsimp only
  split <;> simp [hd.seen]

/-- A reclaim spends an armed function (R19, R26). -/
theorem State.reclaim_enable : (s.reclaim f).auth.enable.get f =
    if s.auth.enable.get f = .armed then .spent else s.auth.enable.get f := by
  unfold State.reclaim
  dsimp only
  split <;> simp_all

end

/-! ### A pass over several functions -/

section
variable {op : State → Func → State} (hop : ∀ (s : State) (f : Func), s.ActsOn f (op s f))
include hop

/-- A pass leaves the state alike for a function without a turn. -/
theorem State.AlikeFor.foldl_of_notMem {f : Func} {l : List Func} (hf : f ∉ l) (s : State) :
    s.AlikeFor f (l.foldl op s) := by
  induction l generalizing s with
  | nil => exact .refl f s
  | cons g rest ih =>
    obtain ⟨hne, hrest⟩ : f ≠ g ∧ f ∉ rest := by simpa using hf
    exact ((hop s g).others f hne).trans (ih hrest (op s g))

/-- In a pass with one turn each, a function's turn finds the state alike for it, and what its turn leaves stands. -/
theorem State.AlikeFor.foldl_turn {f : Func} {l : List Func} (hl : l.Nodup) (hf : f ∈ l) (s : State) :
    ∃ t, s.AlikeFor f t ∧ (op t f).AlikeFor f (l.foldl op s) := by
  induction l generalizing s with
  | nil => exact absurd hf List.not_mem_nil
  | cons g rest ih =>
    obtain ⟨hg, hrest⟩ := List.nodup_cons.mp hl
    rcases List.mem_cons.mp hf with rfl | hf
    · exact ⟨s, .refl f s, State.AlikeFor.foldl_of_notMem hop hg (op s f)⟩
    · have hne : f ≠ g := fun h => hg (h ▸ hf)
      obtain ⟨t, hbefore, hafter⟩ := ih hrest hf (op s g)
      exact ⟨t, ((hop s g).others f hne).trans hbefore, hafter⟩

end

end Sys2Proof.Machine
end

section
/-! PROOFS. The implement's messages, the Arbiter's timers and the service tool's TAKE and RELEASE (R20 to R25, R30). -/

open Sys2Proof Sys2Proof.Machine

namespace Sys2Proof.Machine

/-! ### The links as the Arbiter uses them -/

@[simp] theorem transmit_inbox (l : Link) (k : LinkState) : (transmit l k).inbox = k.inbox := by
  unfold transmit; repeat' split
  all_goals rfl

@[simp] theorem transmit_outbox (l : Link) (k : LinkState) : (transmit l k).outbox = k.outbox := by
  unfold transmit; repeat' split
  all_goals rfl

@[simp] theorem transmit_rejoin (l : Link) (k : LinkState) : (transmit l k).rejoin = k.rejoin := by
  unfold transmit; repeat' split
  all_goals rfl

/-- The event taken is the head of a queue that time does not change. -/
@[simp] theorem State.head_advance (s : State) (dt : Nat) (l : Link) : (s.advance dt).head l = s.head l := rfl

/-- Joining a transmit queue leaves the inbound queue. -/
@[simp] theorem State.pushOut_inbox (s : State) (l k : Link) (e : OutEvent) :
    ((s.pushOut l e).link.get k).inbox = (s.link.get k).inbox := by
  unfold State.pushOut
  by_cases h : k = l
  · subst h; rw [State.onLink_get]; split <;> simp
  · rw [State.onLink_get_other s l k _ h]

/-- A frame joins the tail of a transmit queue that has room on an ACTIVE link (R178). -/
theorem State.pushOut_outbox (s : State) (l : Link) (e : OutEvent) (hr : (s.link.get l).rejoin = none)
    (hlen : (s.link.get l).outbox.length < 8) :
    ((s.pushOut l e).link.get l).outbox = (s.link.get l).outbox ++ [e] := by
  simp [State.pushOut, hr, hlen]

/-- An answer to the implement leaves its queue of events. -/
@[simp] theorem State.reply_inbox (s : State) (code : Nat) (r : ReplyResult) :
    (s.reply code r).link.implement.inbox = s.link.implement.inbox :=
  s.pushOut_inbox .implement .implement _

/-- The four bytes of an AUTHORITY_REPLY (R34, R181). -/
def ReplyResult.bytes (code : Nat) (r : ReplyResult) : List Nat :=
  match r with
  | .granted => [code, 1, 0, 50]
  | .pending => [code, 2, 0, 0]
  | .refused q => [code, 3, reasonCode q, 0]
  | .lapsed => [code, 4, 0, 0]

/-- An answer on the code of a function joins the transmit queue where there is room (R34, R178). -/
theorem State.reply_outbox (s : State) (f : Func) (r : ReplyResult) (hr : s.link.implement.rejoin = none)
    (hlen : s.link.implement.outbox.length < 8) : (s.reply (funcCode f) r).link.implement.outbox =
      s.link.implement.outbox ++ [outFrame .reply (r.bytes (funcCode f))] := by
  refine (s.pushOut_outbox .implement _ hr hlen).trans (congrArg (s.link.implement.outbox ++ [·]) ?_)
  cases r with
  | granted | pending | lapsed => cases f <;> rfl
  | refused q => cases f <;> cases q <;> rfl

/-! ### The implement's messages (R21, R24, R25) -/

/-- GEAR and CALIB are not delegable (R17). -/
theorem not_gear_or_calib_of_delegable {f : Func} (h : f ∈ delegableFuncs) : ¬ (f = .gear ∨ f = .calib) := by
  rintro (rfl | rfl) <;> exact absurd h (by decide)

/-- The state in which a function's request waits from now on (R21). -/
def State.awaiting (s : State) (f : Func) : State :=
  let t := s.onEntry f (fun e => { e with pendingSince := some s.now })
  { t with auth := { t.auth with statusDue := true } }

@[simp] theorem State.awaiting_entry (s : State) (f : Func) :
    (s.awaiting f).auth.table.get f = { s.auth.table.get f with pendingSince := some s.now } := by simp [State.awaiting]

/-- A grant is answered where there is room (R34). -/
theorem State.grant_outbox (s : State) (f : Func) (hr : s.link.implement.rejoin = none)
    (hlen : s.link.implement.outbox.length < 8) : (s.grant f).link.implement.outbox =
      s.link.implement.outbox ++ [outFrame .reply [funcCode f, 1, 0, 50]] := by
  have hlink : ((s.dropPending f).setHolder f .impl).link = s.link := by simp
  rw [State.grant, State.reply_outbox _ f .granted (by rw [hlink]; exact hr) (by rw [hlink]; exact hlen), hlink]
  rfl

section
variable {s : State} {code : Nat} {f : Func} (hf : funcOf code = some f) (hd : f ∈ delegableFuncs)
include hf hd

/-- KEEP from the holder renews the lease (R24). -/
theorem judgeKeep_of_held (hh : s.holder f = .impl) : judgeKeep s code = s.renew f := by
  simp [judgeKeep, hf, not_gear_or_calib_of_delegable hd, hh]

/-- RELEASE from the holder returns the function (R25). -/
theorem judgeRelease_of_held (hh : s.holder f = .impl) :
    judgeRelease s code = (s.dropPending f).setHolder f (s.target f) := by
  simp [judgeRelease, hf, not_gear_or_calib_of_delegable hd, hh]

/-- A REQUEST in RUN for a function that is not ARMED is refused NOT_DELEGATED (R21). -/
theorem judgeRequest_of_unarmed (hp : s.power.power = .run) (he : s.auth.enable.get f ≠ .armed) :
    judgeRequest s code = s.reply code (.refused .notDelegated) := by
  simp [judgeRequest, hf, not_gear_or_calib_of_delegable hd, hp, he]

/-- A REQUEST for an ARMED function of CAB or PART, none waiting and no class A fault active, is granted at the safe point and
waits away from it (R21). -/
theorem judgeRequest_of_armed (hp : s.power.power = .run) (he : s.auth.enable.get f = .armed)
    (ha : s.classAActive = false) (hh : s.holder f = .cab ∨ s.holder f = .part)
    (hn : (s.auth.table.get f).pendingSince = none) :
    judgeRequest s code = if s.safePoint f then s.grant f else (s.awaiting f).reply code .pending := by
  rcases hh with hh | hh <;>
    simp [judgeRequest, hf, not_gear_or_calib_of_delegable hd, hp, he, ha, hh, hn, State.awaiting]

end

/-- A REQUEST changes no other function, and no enable state. -/
theorem judgeRequest_actsOn {s : State} {code : Nat} {f : Func} (hf : funcOf code = some f) :
    s.ActsOn f (judgeRequest s code) ∧ (judgeRequest s code).auth.enable = s.auth.enable := by
  have hreply (t : State) (r : ReplyResult) (h : s.ActsOn f t) (he : t.auth.enable = s.auth.enable) :
      s.ActsOn f (t.reply code r) ∧ (t.reply code r).auth.enable = s.auth.enable :=
    ⟨h.trans (t.reply_actsOn f code r), by simp [he]⟩
  simp only [judgeRequest, hf]
  repeat' split
  · exact hreply _ _ (.refl f s) rfl
  · exact hreply _ _ (.refl f s) rfl
  · exact hreply _ _ (.refl f s) rfl
  · exact hreply _ _ (.refl f s) rfl
  · exact hreply _ _ (.refl f s) rfl
  · exact hreply _ _ (s.onEntry_actsOn f _) rfl
  · exact hreply _ _ (.refl f s) rfl
  · exact ⟨s.grant_actsOn f, s.grant_enable f⟩
  · exact hreply _ _ ((s.onEntry_actsOn f _).trans (State.statusDue_actsOn _ f true)) rfl

theorem judgeRequest_inbox (s : State) (code : Nat) :
    (judgeRequest s code).link.implement.inbox = s.link.implement.inbox := by
  unfold judgeRequest
  repeat' split
  all_goals simp [State.grant, State.onEntry, State.renew]


/-! ### The timers (R23, R25) -/

/-- A request is due 2000 ms after it came (R23). -/
theorem pendingTimeout_of_due {f : Func} {s : State} {a : Nat} (h : (s.auth.table.get f).pendingSince = some a)
    (hd : a + 2000 ≤ s.now) : pendingTimeout f s = s.refusePending f .timeout := by simp [pendingTimeout, passed, h, hd]

theorem pendingTimeout_of_early {f : Func} {s : State} {a : Nat} (h : (s.auth.table.get f).pendingSince = some a)
    (hd : s.now < a + 2000) : pendingTimeout f s = s := by simp [pendingTimeout, passed, h, Nat.not_le.mpr hd]

theorem pendingTimeout_of_none {f : Func} {s : State} (h : (s.auth.table.get f).pendingSince = none) :
    pendingTimeout f s = s := by simp [pendingTimeout, passed, h]

/-- A lease lapses where now has reached its end (R25). -/
theorem leaseLapse_of_due {f : Func} {s : State} {e : Nat} (hh : s.holder f = .impl)
    (h : (s.auth.table.get f).leaseEnd = some e) (hd : e ≤ s.now) : leaseLapse f s = s.moveAway f (s.target f) := by
  simp [leaseLapse, passed, hh, h, hd]

theorem leaseLapse_of_early {f : Func} {s : State} {e : Nat} (h : (s.auth.table.get f).leaseEnd = some e)
    (hd : s.now < e) : leaseLapse f s = s := by simp [leaseLapse, passed, h, Nat.not_le.mpr hd]

theorem leaseLapse_of_not_held {f : Func} {s : State} (hh : s.holder f ≠ .impl) : leaseLapse f s = s := by
  simp [leaseLapse, hh]

/-- Without a request in its entry a table is the one with that entry dropped. -/
theorem State.dropPending_table (s : State) (f : Func) :
    (s.dropPending f).auth.table = s.auth.table.set f { s.auth.table.get f with pendingSince := none } := by
  unfold State.dropPending
  dsimp only
  split
  · rfl
  · next h =>
    have he := AuthEntry.dropped_of_none (s.auth.table.get f) (by simpa using h)
    show s.auth.table = s.auth.table.set f (s.auth.table.get f).dropped
    rw [he]
    cases f <;> rfl

/-- A function that leaves the implement has no lease. -/
theorem AuthEntry.movedTo_leaseEnd_none (now : Nat) (seen : Option Seen) (f : Func) {h : Holder} {e : AuthEntry}
    (he : e.holder = .impl) (hh : h ≠ .impl) : (e.movedTo now seen f h).leaseEnd = none := by
  rw [AuthEntry.movedTo_leaseEnd _ _ _ _ _ (he ▸ hh.symm), if_neg hh]

/-! ### The commands on the queues -/

/-- The state in which the block that takes an event judges it: time has passed, and the event has left its queue. -/
def State.taken (s : State) (dt : Nat) (l : Link) : State := (s.advance dt).popEvent l

section
variable {s : State} {dt code : Nat} (hrun : s.running = true)
include hrun

theorem exec_implAuthorityRequest_of_head (h : s.head .implement = some (.authRequest code)) :
    exec (.implAuthorityRequest dt) s = .next (judgeRequest (s.taken dt .implement) code) := by
  rw [exec_of_running rfl hrun, takeRequest, State.head_advance, h]; rfl

theorem exec_implAuthorityKeep_of_head (h : s.head .implement = some (.authKeep code)) :
    exec (.implAuthorityKeep dt) s = .next (judgeKeep (s.taken dt .implement) code) := by
  rw [exec_of_running rfl hrun, takeKeep, State.head_advance, h]; rfl

theorem exec_implAuthorityRelease_of_head (h : s.head .implement = some (.authRelease code)) :
    exec (.implAuthorityRelease dt) s = .next (judgeRelease (s.taken dt .implement) code) := by
  rw [exec_of_running rfl hrun, takeRelease, State.head_advance, h]; rfl

end

/-! ### TAKE and RELEASE of the service tool (R30, R188) -/

theorem State.answeredOk_of_answerResult (s : State) : (s.answerResult none).answeredOk := ⟨rfl, rfl⟩

theorem State.answeredRefused_of_answerRefused (s : State) (r : Reason) : (s.answerRefused r).answeredRefused r :=
  ⟨rfl, rfl⟩

theorem State.answerResult_auth (s : State) (r : Option Reason) : (s.answerResult r).auth = s.auth := by simp

section
variable {s : State} {dt code : Nat} (hrun : s.running = true)
include hrun

theorem exec_take_of_frame (h : s.svc.frame = some (.take code)) :
    exec (.take dt) s = .next (unlockedOnly (s.advance dt) (judgeTake code)) := by
  rw [exec_of_running rfl hrun, withFrame, State.advance_svc, h]; rfl

theorem exec_release_of_frame (h : s.svc.frame = some (.release code)) :
    exec (.release dt) s = .next (unlockedOnly (s.advance dt) (judgeServiceRelease code)) := by
  rw [exec_of_running rfl hrun, withFrame, State.advance_svc, h]; rfl

end

section
variable {s : State} {g : State → State}

theorem unlockedOnly_of_unlocked (h : s.svc.unlock = .unlocked) : unlockedOnly s g = g s := if_pos h

theorem unlockedOnly_of_not (h : s.svc.unlock ≠ .unlocked) : unlockedOnly s g = s.answerRefused .locked := if_neg h

end

section
variable {s : State} {code : Nat} {f : Func} (hf : funcOf code = some f)
include hf

/-- TAKE of a function of CAB, IMPL or PART (R30). -/
theorem judgeTake_of_free (h : s.holder f = .cab ∨ s.holder f = .impl ∨ s.holder f = .part) :
    judgeTake code s = (s.seize f .svc).answerResult none := by
  rcases h with h | h | h <;> simp [judgeTake, hf, h]

theorem judgeTake_of_svc (h : s.holder f = .svc) : judgeTake code s = s.answerResult none := by
  simp [judgeTake, hf, h]

theorem judgeTake_of_fender (h : s.holder f = .fender) : judgeTake code s = s.answerRefused .busy := by
  simp [judgeTake, hf, h]

/-- RELEASE of a function of SVC (R30). -/
theorem judgeServiceRelease_of_svc (h : s.holder f = .svc) :
    judgeServiceRelease code s = (s.setHolder f (s.target f)).answerResult none := by
  simp [judgeServiceRelease, hf, h]

theorem judgeServiceRelease_of_not (h : s.holder f ≠ .svc) :
    judgeServiceRelease code s = s.answerRefused .notHolder := by
  simp [judgeServiceRelease, hf, h]

end

theorem State.holder_ne_svc_of_free {s : State} {f : Func}
    (h : s.holder f = .cab ∨ s.holder f = .impl ∨ s.holder f = .part) : s.holder f ≠ .svc := by
  rcases h with h | h | h <;> simp [h]

theorem judgeTake_of_unknown {s : State} {code : Nat} (h : funcOf code = none) :
    judgeTake code s = s.answerRefused .unknown := by simp [judgeTake, h]

end Sys2Proof.Machine

/-! ### The obligations -/

namespace Sys2Proof.Proofs

/-- Settles O16: KEEP is `State.renew`, RELEASE a change of holder to the target. -/
theorem keepRenewsReleaseReturns : Obligations.KeepRenewsReleaseReturns := by
  intro s dt code f hrun hf hd hh
  set u := s.taken dt .implement with hu
  refine ⟨fun hhead => ⟨_, exec_implAuthorityKeep_of_head hrun hhead, ?_⟩,
    fun hhead => ⟨_, exec_implAuthorityRelease_of_head hrun hhead, ?_⟩⟩
  · rw [judgeKeep_of_held (s := u) hf hd hh]
    exact ⟨rfl, rfl⟩
  · rw [judgeRelease_of_held (s := u) hf hd hh]
    set t := (u.dropPending f).setHolder f (u.target f) with ht
    have hact : u.ActsOn f t := (u.dropPending_actsOn f).trans (State.setHolder_actsOn _ f _)
    have hentry : t.auth.table.get f =
        (u.auth.table.get f).dropped.movedTo (u.dropPending f).now (u.dropPending f).auth.seen f (u.target f) := by
      simp [ht]
    have hlease := AuthEntry.movedTo_leaseEnd_none (u.dropPending f).now (u.dropPending f).auth.seen f
      (e := (u.auth.table.get f).dropped) hh (u.target_ne_impl f)
    refine ⟨by simp [State.holder, hentry]; rfl, by rw [hentry, hlease], by simp [hentry], fun g => hact.entry,
      by simp [ht]; rfl, ?_⟩
    rw [State.eq_but_authority (s := u) (t := t) (by have := ne_calib_of_delegable hd; simp [ht, this])]
    have : t.link = u.link := by simp [ht]
    rw [this]; rfl

/-- Settles O17: an expiry that finds something due is a refusal or a change of holder, and any other changes nothing. -/
theorem authorityTimers : Obligations.AuthorityTimers := by
  intro s dt f hrun
  set u := s.advance dt with hu
  refine ⟨⟨_, exec_of_running rfl hrun, fun a ha hdue => ?_, fun a ha => pendingTimeout_of_early (s := u) ha,
    pendingTimeout_of_none (s := u)⟩, ⟨_, exec_of_running rfl hrun, fun e hh he hdue => ?_,
    fun e he => leaseLapse_of_early (s := u) he, leaseLapse_of_not_held (s := u)⟩⟩
  · rw [pendingTimeout_of_due (s := u) ha hdue]
    refine ⟨by rw [State.refusePending_auth, State.dropPending_table]; rfl, by simp; rfl, ?_⟩
    rw [State.eq_but_authority (s := u) (t := u.refusePending f .timeout) (by simp)]
    simp
  · rw [leaseLapse_of_due (s := u) hh he hdue]
    have hact := u.moveAway_actsOn f (u.target f)
    refine ⟨by simp [State.holder]; rfl, ?_, by simp; rfl, fun g => hact.entry⟩
    rw [State.moveAway_auth, State.setHolder_entry]
    exact AuthEntry.movedTo_leaseEnd_none _ _ f hh (u.target_ne_impl f)

/-- Settles O15: the request is judged by `judgeRequest_of_unarmed` and `judgeRequest_of_armed`. -/
theorem requestIsGrantedOrWaits : Obligations.RequestIsGrantedOrWaits := by
  intro s dt code f hrun hhead hf hd hp ha hh hn
  set u := s.taken dt .implement with hu
  have hcode := funcCode_of_funcOf hf
  have hunarmed := judgeRequest_of_unarmed (s := u) hf hd hp
  have harmed := judgeRequest_of_armed (s := u) hf hd hp
  obtain ⟨hact, henable⟩ := judgeRequest_actsOn (s := u) hf
  refine ⟨_, exec_implAuthorityRequest_of_head hrun hhead, judgeRequest_inbox u code, fun he hsafe => ?_,
    fun he hsafe => ?_, fun he => ?_, fun hr hlen => ?_, fun g => hact.entry, henable,
    State.eq_but_authority (judgeRequest_frame u code)⟩
  · have hgrant : judgeRequest u code = u.grant f := (harmed he ha hh hn).trans (if_pos hsafe)
    have hne : (s.auth.table.get f).dropped.holder ≠ .impl := by rcases hh with h | h <;> simp_all [State.holder]
    rw [← hu, hgrant]
    refine ⟨by simp [State.holder], ?_, by simp⟩
    rw [State.grant_entry]
    exact AuthEntry.movedTo_leaseEnd _ _ f .impl _ hne
  · have hwait : judgeRequest u code = (u.awaiting f).reply code .pending :=
      (harmed he ha hh hn).trans (if_neg (Bool.eq_false_iff.mp hsafe))
    rw [← hu, hwait]
    exact ((u.awaiting f).reply_alikeFor f code .pending).entry.trans (u.awaiting_entry f)
  · rw [← hu, hunarmed he]
    simp
    rfl
  · rw [← hu]
    by_cases he : s.auth.enable.get f = .armed
    · by_cases hsafe : s.safePoint f = true
      · have hgrant : judgeRequest u code = u.grant f := (harmed he ha hh hn).trans (if_pos hsafe)
        rw [hgrant, u.grant_outbox f hr hlen, if_neg (not_not.mpr he), if_pos hsafe, hcode]
        rfl
      · have hwait : judgeRequest u code = (u.awaiting f).reply code .pending :=
          (harmed he ha hh hn).trans (if_neg hsafe)
        rw [hwait, if_neg (not_not.mpr he), if_neg hsafe, ← hcode]
        exact (u.awaiting f).reply_outbox f .pending hr hlen
    · rw [hunarmed he, if_pos he, ← hcode]
      exact u.reply_outbox f (.refused .notDelegated) hr hlen

/-- Settles O59: TAKE is `State.seize`, RELEASE a change of holder to the target. -/
theorem serviceTakesAndReleases : Obligations.ServiceTakesAndReleases := by
  intro s dt code hrun
  set u := s.advance dt with hu
  refine ⟨fun hframe => ⟨_, exec_take_of_frame hrun hframe, fun hl => ?_, fun hl hf => ?_, fun f hl hf => ?_⟩,
    fun hframe => ⟨_, exec_release_of_frame hrun hframe, fun hl => ?_, fun f hl hf => ?_⟩⟩
  · rw [unlockedOnly_of_not (s := u) hl]
    exact ⟨u.answeredRefused_of_answerRefused .locked, rfl⟩
  · rw [unlockedOnly_of_unlocked (s := u) hl, judgeTake_of_unknown hf]
    exact ⟨u.answeredRefused_of_answerRefused .unknown, rfl⟩
  · rw [unlockedOnly_of_unlocked (s := u) hl]
    refine ⟨fun hh => ?_, fun hh => ?_, fun hh => ?_⟩
    · rw [judgeTake_of_free (s := u) hf hh]
      have hne : (u.auth.table.get f).dropped.holder ≠ .svc := State.holder_ne_svc_of_free (s := u) hh
      refine ⟨by simp [State.holder], ?_, by simp, fun g hg => ?_, State.answeredOk_of_answerResult _⟩
      · simpa using AuthEntry.movedTo_leaseEnd u.now u.auth.seen f .svc _ hne
      · rw [State.answerResult_auth]; exact (u.seize_actsOn f .svc).entry hg
    · rw [judgeTake_of_svc (s := u) hf hh]
      exact ⟨rfl, u.answeredOk_of_answerResult⟩
    · rw [judgeTake_of_fender (s := u) hf hh]
      exact ⟨rfl, u.answeredRefused_of_answerRefused .busy⟩
  · rw [unlockedOnly_of_not (s := u) hl]
    exact ⟨u.answeredRefused_of_answerRefused .locked, rfl⟩
  · rw [unlockedOnly_of_unlocked (s := u) hl]
    refine ⟨fun hh => ?_, fun hh => ?_⟩
    · rw [judgeServiceRelease_of_svc (s := u) hf hh]
      refine ⟨by simp [State.holder]; rfl, fun g hg => ?_, State.answeredOk_of_answerResult _⟩
      rw [State.answerResult_auth]; exact (u.setHolder_actsOn f (u.target f)).entry hg
    · rw [judgeServiceRelease_of_not (s := u) hf hh]
      exact ⟨rfl, u.answeredRefused_of_answerRefused .notHolder⟩

end Sys2Proof.Proofs
end

section
/-! PROOFS. The authority review (R18, R19, R23, R26, R28): what each stage does at a function's turn, and the review as the
stages one after the other. -/

open Sys2Proof Sys2Proof.Machine

namespace Sys2Proof.Machine

/-! ### Passes -/

/-- A pass leaves what a judgement reads besides. -/
theorem State.ReadsAlike.foldl {op : State → Func → State} (hop : ∀ (s : State) (f : Func), s.ActsOn f (op s f))
    (l : List Func) (s : State) : s.ReadsAlike (l.foldl op s) := by
  induction l generalizing s with
  | nil => exact .refl s
  | cons g rest ih => exact (hop s g).reads.trans (ih (op s g))

theorem delegableFuncs_nodup : delegableFuncs.Nodup := by decide

theorem allFuncs_nodup : allFuncs.Nodup := by decide

theorem mem_allFuncs (f : Func) : f ∈ allFuncs := by cases f <;> decide

/-! ### Stage 2: the enable states move on the flags (R19) -/

/-- The enable state of a function whose flag has just been read. -/
def Enable.byFlag (flag : Bool) (e : Enable) : Enable :=
  if flag then (if e = .off then .armed else e) else .off

/-- The entry of a function whose flag has just been read: a revocation drops its request and takes it from the implement. -/
def State.entryByFlag (s : State) (v : Seen) (f : Func) : AuthEntry :=
  if s.auth.enable.get f = .armed ∧ flagOf f v = false then
    if s.holder f = .impl then (s.auth.table.get f).dropped.movedTo s.now s.auth.seen f (s.target f)
    else (s.auth.table.get f).dropped
  else s.auth.table.get f

/-- A function's enable state moves (R19). -/
def State.withEnable (s : State) (f : Func) (e : Enable) : State :=
  { s with auth := { s.auth with enable := s.auth.enable.set f e, statusDue := true } }

@[simp] theorem State.withEnable_enable (s : State) (f : Func) (e : Enable) :
    (s.withEnable f e).auth.enable.get f = e := func_get_set ..

@[simp] theorem State.withEnable_table (s : State) (f : Func) (e : Enable) :
    (s.withEnable f e).auth.table = s.auth.table := rfl

/-- What a revocation does besides the enable state: the request is refused, and the implement loses the function. -/
def State.revoke (s : State) (f : Func) : State :=
  let t := s.refusePending f .notDelegated
  if t.holder f = .impl then t.moveAway f (t.target f) else t

section
variable (s : State) (f : Func)

theorem State.revoke_actsOn : s.ActsOn f (s.revoke f) := by
  have hrefuse := s.refusePending_actsOn f .notDelegated
  unfold State.revoke
  dsimp only
  split
  · exact hrefuse.trans (State.moveAway_actsOn _ f _)
  · exact hrefuse

theorem State.revoke_entry : (s.revoke f).auth.table.get f =
    if s.holder f = .impl then (s.auth.table.get f).dropped.movedTo s.now s.auth.seen f (s.target f)
    else (s.auth.table.get f).dropped := by
  have hread := (s.refusePending_actsOn f .notDelegated).reads
  have hheld : (s.refusePending f .notDelegated).holder f = s.holder f := by simp [State.holder]
  have hseen := (s.dropPending_actsOn f).reads.seen
  rw [State.revoke, hheld, hread.target]
  split <;> simp [hseen]

@[simp] theorem State.revoke_enable : (s.revoke f).auth.enable = s.auth.enable := by
  unfold State.revoke
  dsimp only
  split <;> simp

end

section
variable (v : Seen) (s : State) (f : Func)

/-- The three moves of an enable state, and a revocation with the second (R19). -/
theorem applyFlag_cases : applyFlag v s f =
    if s.auth.enable.get f = .off ∧ flagOf f v = true then s.withEnable f .armed
    else if s.auth.enable.get f = .armed ∧ flagOf f v = false then (s.withEnable f .off).revoke f
    else if s.auth.enable.get f = .spent ∧ flagOf f v = false then s.withEnable f .off
    else s := by
  unfold applyFlag
  cases s.auth.enable.get f <;> cases flagOf f v <;> rfl

theorem applyFlag_actsOn : s.ActsOn f (applyFlag v s f) := by
  rw [applyFlag_cases]
  split
  · exact s.setEnable_actsOn f .armed
  split
  · exact (s.setEnable_actsOn f .off).trans (State.revoke_actsOn _ f)
  split
  · exact s.setEnable_actsOn f .off
  · exact .refl f s

theorem applyFlag_enable : (applyFlag v s f).auth.enable.get f = (s.auth.enable.get f).byFlag (flagOf f v) := by
  rw [applyFlag_cases]
  cases he : s.auth.enable.get f <;> cases flagOf f v <;> simp [Enable.byFlag, he]

theorem applyFlag_entry : (applyFlag v s f).auth.table.get f = s.entryByFlag v f := by
  rw [applyFlag_cases, State.entryByFlag]
  split
  · simp_all
  split
  · exact State.revoke_entry (s.withEnable f .off) f
  · split <;> rfl

end

/-- The entry after the flags depends on nothing of other functions. -/
theorem State.AlikeFor.entryByFlag {f : Func} {s t : State} (h : s.AlikeFor f t) (v : Seen) :
    t.entryByFlag v f = s.entryByFlag v f := by
  rw [State.entryByFlag, State.holder, h.entry, h.enable, h.now, h.seen, h.toReadsAlike.target]
  rfl

/-- The flags of all functions: each entry and enable state as its own turn leaves it. -/
theorem applyFlags_turn (v : Seen) (s : State) {f : Func} (hf : f ∈ delegableFuncs) :
    (delegableFuncs.foldl (applyFlag v) s).auth.table.get f = s.entryByFlag v f ∧
      (delegableFuncs.foldl (applyFlag v) s).auth.enable.get f = (s.auth.enable.get f).byFlag (flagOf f v) := by
  obtain ⟨t, hbefore, hafter⟩ := State.AlikeFor.foldl_turn (applyFlag_actsOn v) delegableFuncs_nodup hf s
  rw [hafter.entry, hafter.enable, applyFlag_entry, applyFlag_enable, hbefore.entryByFlag, hbefore.enable]
  exact ⟨rfl, rfl⟩

/-! ### The entry after the flags -/

section
variable {s : State} {v : Seen} {f : Func}

theorem State.entryByFlag_of_kept (h : ¬ (s.auth.enable.get f = .armed ∧ flagOf f v = false)) :
    s.entryByFlag v f = s.auth.table.get f := if_neg h

/-- The holder after the flags: a revocation returns the implement's function to its target. -/
theorem State.entryByFlag_holder : (s.entryByFlag v f).holder =
    if s.auth.enable.get f = .armed ∧ flagOf f v = false ∧ s.holder f = .impl then s.target f else s.holder f := by
  unfold State.entryByFlag
  by_cases hr : s.auth.enable.get f = .armed ∧ flagOf f v = false
  · by_cases hh : s.holder f = .impl
    · simp [hr, hh]
    · simp [hr, hh]; rfl
  · rw [if_neg hr, if_neg (fun h => hr ⟨h.1, h.2.1⟩)]; rfl

/-- A request that a revocation drops, or none, leaves none. -/
theorem State.entryByFlag_pendingSince_of_none
    (h : (s.auth.enable.get f = .armed ∧ flagOf f v = false) ∨ (s.auth.table.get f).pendingSince = none) :
    (s.entryByFlag v f).pendingSince = none := by
  unfold State.entryByFlag
  by_cases hr : s.auth.enable.get f = .armed ∧ flagOf f v = false
  · rw [if_pos hr]
    split <;> simp
  · rw [if_neg hr]
    exact h.resolve_left hr

theorem State.entryByFlag_leaseEnd_of_revoked (h : s.auth.enable.get f = .armed ∧ flagOf f v = false)
    (hh : s.holder f = .impl) : (s.entryByFlag v f).leaseEnd = none := by
  rw [State.entryByFlag, if_pos h, if_pos hh]
  exact AuthEntry.movedTo_leaseEnd_none _ _ _ hh (s.target_ne_impl f)

/-- Away from CAB the reclaim reference stands (R17). -/
theorem State.entryByFlag_reference (h : (s.entryByFlag v f).holder ≠ .cab) :
    (s.entryByFlag v f).reference = (s.auth.table.get f).reference := by
  unfold State.entryByFlag at h ⊢
  split
  · next hr =>
    rw [if_pos hr] at h
    split
    · next hh =>
      rw [if_pos hh, AuthEntry.movedTo_holder] at h
      have hheld : (s.auth.table.get f).holder = .impl := hh
      have ht := s.target_ne_impl f
      simp [AuthEntry.movedTo, hheld, h, ht, ht.symm]
    · rfl
  · rfl

end

/-! ### Stage 3: the operator's reclaims (R26, R28) -/

/-- The values read show a reclaim of a function with a holder and a reference, at a position of the hitch. -/
def ReclaimShown (v : Seen) (pAct : Option Nat) (f : Func) (h : Holder) (ref : Option Reference) : Prop :=
  if f = .hitchSet then
    (h = .impl ∧ ∃ p, ref = some (.hitchSet p) ∧ 30 < Sys2Proof.dist v.pLever p) ∨
      (h = .part ∧ ∃ p, pAct = some p ∧ Sys2Proof.dist v.pLever p ≤ 20)
  else (h = .impl ∨ h = .part) ∧ ∃ r, ref = some r ∧ some r ≠ referenceOf f v

/-- Only a function of the implement or of PART is reclaimed. -/
theorem ReclaimShown.holder_ne_cab {v : Seen} {pAct : Option Nat} {f : Func} {h : Holder} {ref : Option Reference}
    (hr : ReclaimShown v pAct f h ref) : h ≠ .cab := by
  rintro rfl
  simp [ReclaimShown] at hr

theorem reclaimShown_iff (s : State) (v : Seen) {f : Func} (hf : f ∈ delegableFuncs) :
    reclaimShown s v f = true ↔
      ReclaimShown v s.hitch.pAct f (s.auth.table.get f).holder (s.auth.table.get f).reference := by
  generalize hh : (s.auth.table.get f).holder = h
  generalize hr : (s.auth.table.get f).reference = r
  cases f with
  | gear | calib => exact absurd hf (by decide)
  | speed | axle | hitchLift =>
    unfold reclaimShown ReclaimShown
    simp only [hh, hr]
    cases h <;> cases r <;> simp [referenceOf]
  | hitchSet =>
    unfold reclaimShown ReclaimShown
    simp only [hh, hr]
    cases h with
    | impl =>
      cases r with
      | none => simp
      | some r => cases r <;> simp
    | part => cases s.hitch.pAct <;> simp
    | cab | svc | fender => simp

/-- The reclaim of one function, where the values read show it. -/
def reclaimIfShown (v : Seen) (s : State) (f : Func) : State := if reclaimShown s v f then s.reclaim f else s

theorem reclaimIfShown_actsOn (v : Seen) (s : State) (f : Func) : s.ActsOn f (reclaimIfShown v s f) := by
  unfold reclaimIfShown
  split
  · exact s.reclaim_actsOn f
  · exact .refl f s

/-- A reclaim is judged on the function's own entry and the hitch position. -/
theorem State.AlikeFor.reclaimShown {f : Func} {s t : State} (h : s.AlikeFor f t) (v : Seen) :
    reclaimShown t v f = reclaimShown s v f := by
  unfold Machine.reclaimShown
  rw [h.entry, h.pAct]

/-- The absent reference of a function that CAB does not hold, at the first review that reads (R28). -/
def setReference (v : Seen) (s : State) (f : Func) : State :=
  s.onEntry f (fun e => if e.holder ≠ .cab ∧ e.reference = none then { e with reference := referenceOf f v } else e)

/-- The reclaims of a review: before the values read are seen, an earlier sight of them decides which pass runs. -/
def reclaimPass (v : Seen) (s : State) : State :=
  if s.auth.seen.isSome then delegableFuncs.foldl (reclaimIfShown v) s else allFuncs.foldl (setReference v) s

/-- A state with values seen (R18). -/
def State.withSeen (s : State) (v : Seen) : State := { s with auth := { s.auth with seen := some v } }

@[simp] theorem State.withSeen_table (s : State) (v : Seen) : (s.withSeen v).auth.table = s.auth.table := rfl

theorem judgeReclaims_eq (s : State) (v : Seen) : judgeReclaims s v = (reclaimPass v s).withSeen v := by
  unfold judgeReclaims reclaimPass
  cases s.auth.seen <;> rfl

theorem reclaimPass_readsAlike (v : Seen) (s : State) : s.ReadsAlike (reclaimPass v s) := by
  unfold reclaimPass
  split
  · exact .foldl (reclaimIfShown_actsOn v) _ s
  · exact .foldl (fun s f => s.onEntry_actsOn f _) _ s

section
variable {v : Seen} {s : State} {f : Func} (hf : f ∈ delegableFuncs)
include hf

/-- A function reclaimed goes to CAB without its request, and ARMED becomes SPENT (R19, R26). -/
theorem reclaimPass_of_shown (hs : s.auth.seen ≠ none) (hr : reclaimShown s v f = true) :
    (reclaimPass v s).auth.table.get f = (s.auth.table.get f).dropped.movedTo s.now s.auth.seen f .cab ∧
      (reclaimPass v s).auth.enable.get f =
        if s.auth.enable.get f = .armed then .spent else s.auth.enable.get f := by
  obtain ⟨t, hbefore, hafter⟩ := State.AlikeFor.foldl_turn (reclaimIfShown_actsOn v) delegableFuncs_nodup hf s
  rw [reclaimPass, if_pos (Option.isSome_iff_ne_none.mpr hs), hafter.entry, hafter.enable, reclaimIfShown,
    if_pos ((hbefore.reclaimShown v).trans hr), State.reclaim_entry, State.reclaim_enable, hbefore.entry, hbefore.enable,
    hbefore.now, hbefore.seen]
  exact ⟨rfl, rfl⟩

/-- A function not reclaimed keeps holder, lease and request, and its enable state. -/
theorem reclaimPass_of_not_shown (h : ¬ (s.auth.seen ≠ none ∧ reclaimShown s v f = true)) :
    ((reclaimPass v s).auth.table.get f).holder = (s.auth.table.get f).holder ∧
      ((reclaimPass v s).auth.table.get f).leaseEnd = (s.auth.table.get f).leaseEnd ∧
      ((reclaimPass v s).auth.table.get f).pendingSince = (s.auth.table.get f).pendingSince ∧
      (reclaimPass v s).auth.enable.get f = s.auth.enable.get f := by
  unfold reclaimPass
  split
  · next hs =>
    obtain ⟨t, hbefore, hafter⟩ := State.AlikeFor.foldl_turn (reclaimIfShown_actsOn v) delegableFuncs_nodup hf s
    have hr : ¬ reclaimShown t v f = true := fun hr =>
      h ⟨Option.isSome_iff_ne_none.mp hs, (hbefore.reclaimShown v).symm.trans hr⟩
    rw [hafter.entry, hafter.enable, reclaimIfShown, if_neg hr, hbefore.entry, hbefore.enable]
    exact ⟨rfl, rfl, rfl, rfl⟩
  · obtain ⟨t, hbefore, hafter⟩ :=
      State.AlikeFor.foldl_turn (op := setReference v) (fun s f => s.onEntry_actsOn f _) allFuncs_nodup (mem_allFuncs f) s
    rw [hafter.entry, hafter.enable, setReference, State.onEntry_entry, hbefore.entry]
    refine ⟨?_, ?_, ?_, hbefore.enable⟩ <;> split <;> rfl

end

/-! ### Stage 4: the requests that wait (R23) -/

theorem settleRequest_actsOn (s : State) (f : Func) : s.ActsOn f (settleRequest s f) := by
  unfold settleRequest
  repeat' split
  · exact s.refusePending_actsOn f .inhibited
  · exact s.refusePending_actsOn f .notPermitted
  · exact s.grant_actsOn f
  · exact .refl f s
  · exact .refl f s

/-- The entry of a function whose request has been settled. -/
def State.entrySettled (s : State) (f : Func) : AuthEntry :=
  if s.classAActive ∨ s.holder f = .svc ∨ s.holder f = .fender then (s.auth.table.get f).dropped
  else if s.safePoint f ∧ (s.auth.table.get f).pendingSince ≠ none then
    (s.auth.table.get f).dropped.movedTo s.now s.auth.seen f .impl
  else s.auth.table.get f

theorem settleRequest_entry (s : State) (f : Func) : (settleRequest s f).auth.table.get f = s.entrySettled f := by
  by_cases hn : (s.auth.table.get f).pendingSince = none
  · simp [settleRequest, State.entrySettled, hn, AuthEntry.dropped_of_none]
  · have hsome := Option.isSome_iff_ne_none.mpr hn
    unfold settleRequest State.entrySettled
    by_cases ha : s.classAActive = true
    · simp [hsome, ha]
    · by_cases hh : s.holder f = .svc ∨ s.holder f = .fender
      · simp [hsome, ha, hh]
      · by_cases hp : s.safePoint f = true <;> simp [hsome, ha, hh, hp, hn]

@[simp] theorem settleRequest_enable (s : State) (f : Func) :
    (settleRequest s f).auth.enable = s.auth.enable := by
  unfold settleRequest
  repeat' split
  all_goals simp

theorem State.AlikeFor.entrySettled {f : Func} {s t : State} (h : s.AlikeFor f t) : t.entrySettled f = s.entrySettled f := by
  rw [State.entrySettled, State.holder, h.toReadsAlike.classA, h.toReadsAlike.safePoint, h.entry, h.now, h.seen]
  rfl

theorem settleRequests_turn (s : State) {f : Func} (hf : f ∈ delegableFuncs) :
    (delegableFuncs.foldl settleRequest s).auth.table.get f = s.entrySettled f ∧
      (delegableFuncs.foldl settleRequest s).auth.enable.get f = s.auth.enable.get f := by
  obtain ⟨t, hbefore, hafter⟩ := State.AlikeFor.foldl_turn settleRequest_actsOn delegableFuncs_nodup hf s
  rw [hafter.entry, hafter.enable, settleRequest_entry, settleRequest_enable, hbefore.entrySettled, hbefore.enable]
  exact ⟨rfl, rfl⟩

/-! ### The settled entry -/

section
variable {s : State} {f : Func}

theorem State.entrySettled_of_none (h : (s.auth.table.get f).pendingSince = none) :
    s.entrySettled f = s.auth.table.get f := by
  simp [State.entrySettled, h, AuthEntry.dropped_of_none]

theorem State.entrySettled_of_barred (h : s.classAActive = true ∨ s.holder f = .svc ∨ s.holder f = .fender) :
    s.entrySettled f = (s.auth.table.get f).dropped := if_pos h

theorem State.entrySettled_of_safe (ha : s.classAActive = false) (hs : s.holder f ≠ .svc) (hd : s.holder f ≠ .fender)
    (hp : s.safePoint f = true) (hn : (s.auth.table.get f).pendingSince ≠ none) :
    s.entrySettled f = (s.auth.table.get f).dropped.movedTo s.now s.auth.seen f .impl := by
  simp [State.entrySettled, ha, hs, hd, hp, hn]

theorem State.entrySettled_of_unsafe (ha : s.classAActive = false) (hs : s.holder f ≠ .svc) (hd : s.holder f ≠ .fender)
    (hp : s.safePoint f = false) : s.entrySettled f = s.auth.table.get f := by
  simp [State.entrySettled, ha, hs, hd, hp]

end

/-! ### The review -/

/-- The table, the enable states and the seen values do not depend on the sending of AUTHORITY_STATUS (R33). -/
theorem sendAuthorityStatus_auth (s : State) :
    (sendAuthorityStatus s).auth.table = s.auth.table ∧ (sendAuthorityStatus s).auth.enable = s.auth.enable ∧
      (sendAuthorityStatus s).auth.seen = s.auth.seen := by
  unfold sendAuthorityStatus
  dsimp only
  split <;> simp

/-- The state of a review that reads, before the requests are settled. -/
def reviewed (s : State) (v : Seen) : State := (reclaimPass v (delegableFuncs.foldl (applyFlag v) s)).withSeen v

section
variable {s : State} {v : Seen} (hv : s.readControls = some v)
include hv

theorem authorityReview_eq :
    authorityReview s = sendAuthorityStatus (delegableFuncs.foldl settleRequest (reviewed s v)) := by
  rw [authorityReview, hv, reviewed, ← judgeReclaims_eq]

/-- A review that reads keeps the values read (R18). -/
theorem authorityReview_seen : (authorityReview s).auth.seen = some v := by
  obtain ⟨-, -, hseen⟩ := sendAuthorityStatus_auth (delegableFuncs.foldl settleRequest (reviewed s v))
  rw [authorityReview_eq hv, hseen]
  exact (State.ReadsAlike.foldl settleRequest_actsOn _ (reviewed s v)).seen

theorem authorityReview_entry {f : Func} (hf : f ∈ delegableFuncs) :
    (authorityReview s).auth.table.get f = (reviewed s v).entrySettled f ∧
      (authorityReview s).auth.enable.get f = (reviewed s v).auth.enable.get f := by
  obtain ⟨htable, henable, -⟩ := sendAuthorityStatus_auth (delegableFuncs.foldl settleRequest (reviewed s v))
  rw [authorityReview_eq hv, htable, henable]
  exact settleRequests_turn (reviewed s v) hf

end

/-- Flags and reclaims leave time, faults and safe points. -/
theorem reviewed_reads (s : State) (v : Seen) : (reviewed s v).now = s.now ∧
    (reviewed s v).classAActive = s.classAActive ∧ ∀ f, (reviewed s v).safePoint f = s.safePoint f := by
  have h := (State.ReadsAlike.foldl (applyFlag_actsOn v) delegableFuncs s).trans (reclaimPass_readsAlike v _)
  exact ⟨h.now, h.classA, h.safePoint⟩

section
variable {s : State} {v : Seen} {f : Func} (hf : f ∈ delegableFuncs)
include hf

/-- What a reclaim reads after the flags: the holder that a revocation leaves, and the reference as it was. -/
theorem reclaimShown_afterFlags : reclaimShown (delegableFuncs.foldl (applyFlag v) s) v f = true ↔
    ReclaimShown v s.hitch.pAct f (s.entryByFlag v f).holder (s.auth.table.get f).reference := by
  have hread := State.ReadsAlike.foldl (applyFlag_actsOn v) delegableFuncs s
  rw [reclaimShown_iff _ v hf, (applyFlags_turn v s hf).1, hread.pAct]
  by_cases hh : (s.entryByFlag v f).holder = .cab
  · simp [ReclaimShown, hh]
  · rw [State.entryByFlag_reference hh]

/-- A reclaim in a review: CAB, no lease, no reference, no request; ARMED by the flag becomes SPENT (R26). -/
theorem reviewed_of_reclaimed (hs : s.auth.seen ≠ none)
    (hr : ReclaimShown v s.hitch.pAct f (s.entryByFlag v f).holder (s.auth.table.get f).reference) :
    ((reviewed s v).auth.table.get f).holder = .cab ∧ ((reviewed s v).auth.table.get f).leaseEnd = none ∧
      ((reviewed s v).auth.table.get f).reference = none ∧ ((reviewed s v).auth.table.get f).pendingSince = none ∧
      (reviewed s v).auth.enable.get f =
        if (s.auth.enable.get f).byFlag (flagOf f v) = .armed then .spent
        else (s.auth.enable.get f).byFlag (flagOf f v) := by
  have hread := State.ReadsAlike.foldl (applyFlag_actsOn v) delegableFuncs s
  obtain ⟨hentry, henable⟩ := applyFlags_turn v s hf
  obtain ⟨hpass, hpassed⟩ := reclaimPass_of_shown hf (fun hnone => hs (hread.seen.symm.trans hnone))
    ((reclaimShown_afterFlags hf).mpr hr)
  have hne : (s.entryByFlag v f).dropped.holder ≠ .cab := hr.holder_ne_cab
  rw [hentry] at hpass
  rw [henable] at hpassed
  refine ⟨?_, ?_, ?_, ?_, hpassed⟩
  all_goals rw [reviewed, State.withSeen_table, hpass]
  · exact AuthEntry.movedTo_holder ..
  · exact AuthEntry.movedTo_leaseEnd _ _ _ _ _ hne
  · exact AuthEntry.movedTo_reference_cab _ _ _ _ hne
  · exact AuthEntry.movedTo_pendingSince ..

/-- Without a reclaim a review leaves the function as the flags left it. -/
theorem reviewed_of_not_reclaimed (h : ¬ (s.auth.seen ≠ none ∧
      ReclaimShown v s.hitch.pAct f (s.entryByFlag v f).holder (s.auth.table.get f).reference)) :
    ((reviewed s v).auth.table.get f).holder = (s.entryByFlag v f).holder ∧
      ((reviewed s v).auth.table.get f).leaseEnd = (s.entryByFlag v f).leaseEnd ∧
      ((reviewed s v).auth.table.get f).pendingSince = (s.entryByFlag v f).pendingSince ∧
      (reviewed s v).auth.enable.get f = (s.auth.enable.get f).byFlag (flagOf f v) := by
  have hread := State.ReadsAlike.foldl (applyFlag_actsOn v) delegableFuncs s
  obtain ⟨hentry, henable⟩ := applyFlags_turn v s hf
  rw [← hentry, ← henable]
  refine reclaimPass_of_not_shown hf fun ⟨hs, hr⟩ => h ⟨fun hnone => hs (hread.seen.trans hnone), ?_⟩
  exact (reclaimShown_afterFlags hf).mp hr

end

/-! ### The enable state by the flag -/

@[simp] theorem Enable.byFlag_false (e : Enable) : e.byFlag false = .off := rfl

/-- A flag that is on arms, and what is armed is spent by a reclaim. -/
theorem Enable.byFlag_spent_of_armed (e : Enable) :
    (if e.byFlag true = .armed then .spent else e.byFlag true) = Enable.spent := by cases e <;> rfl

theorem Enable.byFlag_of_not_spent {e : Enable} (h : e ≠ .spent) : e.byFlag true = .armed := by
  cases e with
  | off | armed => rfl
  | spent => exact absurd rfl h

end Sys2Proof.Machine

/-! ### The obligation -/

namespace Sys2Proof.Proofs

/-- Settles O14: each function's entry is `State.entrySettled` of the state after flags and reclaims. -/
theorem reviewFollowsTheFlags : Obligations.ReviewFollowsTheFlags := by
  intro s dt v hrun hv revoked held reclaimed
  set u := s.advance dt with hu
  have hread : u.readControls = some v := hv
  obtain ⟨hnow, hclass, hsafe⟩ := reviewed_reads u v
  refine ⟨_, exec_of_running rfl hrun, authorityReview_seen hread, fun f hf => ?_, fun ha f hf => ?_,
    State.eq_but_authority (authorityReview_frame u)⟩
  · intro e t
    have hheld : (u.entryByFlag v f).holder = held f := State.entryByFlag_holder
    obtain ⟨hentry, henable⟩ := authorityReview_entry hread hf
    have hshown : reclaimed f ↔ (u.auth.seen ≠ none ∧
        ReclaimShown v u.hitch.pAct f (u.entryByFlag v f).holder (u.auth.table.get f).reference) := by
      rw [hheld]; exact Iff.rfl
    have hyes (hr : reclaimed f) := reviewed_of_reclaimed hf (hshown.mp hr).1 (hshown.mp hr).2
    have hno (hr : ¬ reclaimed f) := reviewed_of_not_reclaimed hf (fun h => hr (hshown.mpr h))
    refine ⟨fun hoff => ?_, fun hon hspent => ?_, fun hon hspent hr => ?_, fun hr => ?_, fun hr hn => ?_,
      fun hr hrev hh => ?_, fun hr hrev hn => ?_⟩
    · rw [← hu, henable]
      by_cases hr : reclaimed f
      · obtain ⟨-, -, -, -, hspent⟩ := hyes hr
        simp [hspent, hoff]
      · obtain ⟨-, -, -, hkept⟩ := hno hr
        simp [hkept, hoff]
    · rw [← hu, henable]
      by_cases hr : reclaimed f
      · obtain ⟨-, -, -, -, hreclaimed⟩ := hyes hr
        rw [hreclaimed, hon]
        exact Enable.byFlag_spent_of_armed _
      · obtain ⟨-, -, -, hkept⟩ := hno hr
        rw [hkept, hon, show u.auth.enable.get f = .spent from hspent.resolve_right hr]
        rfl
    · obtain ⟨-, -, -, hkept⟩ := hno hr
      rw [← hu, henable, hkept, hon]
      exact Enable.byFlag_of_not_spent hspent
    · obtain ⟨hholder, hlease, href, hpend, -⟩ := hyes hr
      rw [show t = _ from hentry, State.entrySettled_of_none hpend]
      exact ⟨hholder, hlease, href, hpend⟩
    · obtain ⟨hholder, -, hpend, -⟩ := hno hr
      rw [State.entryByFlag_pendingSince_of_none (s := u) hn] at hpend
      rw [show t = _ from hentry, State.entrySettled_of_none hpend, hholder, hheld]
      exact ⟨rfl, hpend⟩
    · obtain ⟨-, hlease, hpend, -⟩ := hno hr
      rw [State.entryByFlag_pendingSince_of_none (s := u) (.inl hrev)] at hpend
      rw [show t = _ from hentry, State.entrySettled_of_none hpend, hlease]
      exact State.entryByFlag_leaseEnd_of_revoked (s := u) hrev hh
    · obtain ⟨hholder, -, hpend, -⟩ := hno hr
      rw [State.entryByFlag_of_kept (s := u) hrev] at hholder hpend
      rw [show t = _ from hentry]
      have hsame : (reviewed u v).holder f = s.holder f := hholder
      refine ⟨fun hbar => ?_, fun ha hs hd => ⟨fun hp => ?_, fun hp => ?_⟩⟩
      · rw [State.entrySettled_of_barred (by rwa [hclass, hsame])]
        exact ⟨hholder, rfl⟩
      · rw [State.entrySettled_of_safe (hclass.trans ha) (hsame ▸ hs) (hsame ▸ hd) ((hsafe f).trans hp) (hpend ▸ hn)]
        refine ⟨AuthEntry.movedTo_holder .., AuthEntry.movedTo_pendingSince .., fun hne => ?_⟩
        rw [AuthEntry.movedTo_leaseEnd _ _ _ _ _ (by rwa [AuthEntry.dropped_holder, hholder]), hnow]
        rfl
      · rw [State.entrySettled_of_unsafe (hclass.trans ha) (hsame ▸ hs) (hsame ▸ hd) ((hsafe f).trans hp)]
        exact ⟨hholder, hpend⟩
  · obtain ⟨hentry, -⟩ := authorityReview_entry hread hf
    rw [← hu, hentry, State.entrySettled_of_barred (.inl (hclass.trans ha))]
    rfl

end Sys2Proof.Proofs
end

section
/-! PROOFS. The events that reach the Shift Sequencer, the Axle Engagement block and the Hitch Controller over the links:
taps (R27, R41), IMPL_SPEED and IMPL_AXLE (R66, R109), IMPL_HITCH (R125, R130). -/

open Sys2Proof Sys2Proof.Machine

namespace Sys2Proof.Machine

/-! ### Taps (R27, R41) -/

/-- A state that differs at most in authority, sequencer, axle, hitch and links is the old one with these records. -/
theorem State.eq_but_authority_seq {s t : State}
    (h : t.pending = s.pending ∧ t.life = s.life ∧ t.now = s.now ∧ t.start = s.start ∧ t.free = s.free ∧
      t.build = s.build ∧ t.speed = s.speed ∧ t.chan = s.chan ∧ t.store = s.store ∧ t.run = s.run ∧
      t.brake = s.brake ∧ t.fault = s.fault ∧ t.power = s.power ∧ t.svc = s.svc) :
    t = { s with auth := t.auth, seq := t.seq, axle := t.axle, hitch := t.hitch, link := t.link } := by
  cases s; cases t; simp_all

/-- An answer to the implement leaves the vehicle link. -/
@[simp] theorem State.reply_vehicle (s : State) (code : Nat) (r : ReplyResult) :
    (s.reply code r).link.vehicle = s.link.vehicle := rfl

theorem State.refusePending_vehicle (s : State) (f : Func) (r : Reason) :
    (s.refusePending f r).link.vehicle = s.link.vehicle := by
  unfold State.refusePending
  split <;> simp

theorem State.moveAway_vehicle (s : State) (f : Func) (h : Holder) :
    (s.moveAway f h).link.vehicle = s.link.vehicle := by
  unfold State.moveAway
  split <;> simp

/-- A reclaim tells the implement alone (R34). -/
theorem State.reclaim_vehicle (s : State) (f : Func) : (s.reclaim f).link.vehicle = s.link.vehicle := by
  unfold State.reclaim
  dsimp only
  split <;> simp only [State.moveAway_vehicle, State.refusePending_vehicle]

theorem State.reclaimByCommand_actsOn (s : State) : s.ActsOn .speed s.reclaimByCommand := by
  unfold State.reclaimByCommand
  split
  · exact s.reclaim_actsOn .speed
  · exact .refl .speed s

theorem State.reclaimByCommand_vehicle (s : State) : s.reclaimByCommand.link.vehicle = s.link.vehicle := by
  unfold State.reclaimByCommand
  split
  · exact s.reclaim_vehicle .speed
  · rfl

/-- A command of the driver takes SPEED from the implement and from PART (R27). -/
theorem State.reclaimByCommand_holder (s : State) :
    s.reclaimByCommand.holder .speed ≠ .impl ∧ s.reclaimByCommand.holder .speed ≠ .part := by
  unfold State.reclaimByCommand
  split
  · have hcab : (s.reclaim .speed).holder .speed = .cab := by rw [State.holder, State.reclaim_entry]; simp
    simp [hcab]
  · next h => exact not_or.mp h

/-- A tap while CAB holds GEAR, with no run in progress and fault 3 inactive, reclaims SPEED and is taken (R41). -/
theorem judgeTap_of_taken (up : Bool) {s : State} (hh : s.holder .gear = .cab) (hrun : s.runInProgress = false)
    (hlink : s.active .vehicleLinkLost = false) : judgeTap up s = applyTap up s.reclaimByCommand := by
  have hgear : s.reclaimByCommand.holder .gear = .cab :=
    (congrArg AuthEntry.holder (s.reclaimByCommand_actsOn.entry (by decide))).trans hh
  have hrun' : s.reclaimByCommand.runInProgress = false := by simpa [State.runInProgress] using hrun
  have hlink' : s.reclaimByCommand.active .vehicleLinkLost = false := by simpa [State.active] using hlink
  simp [judgeTap, gearRefusal, hgear, hrun', hlink']

/-- The gear number that a tap asks for (R41). -/
def tapped (up : Bool) (n : Nat) : Nat := if up then n + 1 else n - 1

section
variable {up : Bool} {s : State}

/-- In N a tap moves the neutral number (R41). -/
theorem applyTap_of_neutral (hg : s.seq.gear = .neutral) :
    (applyTap up s).seq = { s.seq with neutralNumber := clamp 1 12 (tapped up s.seq.neutralNumber) } := by
  simp [applyTap, tapped, hg]

/-- In a gear with no shift a tap moves the target (R41). -/
theorem applyTap_of_still (hg : s.seq.gear ≠ .neutral) (hs : s.seq.shift = none) : (applyTap up s).seq =
    { s.seq with target := gearIn s.seq (s.seq.target.dir.getD (s.seq.gear.dir.getD .fwd)) (tapped up s.seq.target.num) } := by
  cases hgear : s.seq.gear with
  | neutral => exact absurd hgear hg
  | fwd n | rev n => simp [applyTap, tapped, hgear, hs]

/-- During a shift a tap moves the pending target, or the target where none is pending (R41). -/
theorem applyTap_of_shifting {r : ShiftRec} {g : Gear} (hg : s.seq.gear ≠ .neutral) (hs : s.seq.shift = some r)
    (ht : gearIn s.seq ((s.seq.pendingTarget.getD s.seq.target).dir.getD (s.seq.gear.dir.getD .fwd))
      (tapped up (s.seq.pendingTarget.getD s.seq.target).num) = g) :
    (applyTap up s).seq = { s.seq with pendingTarget := if g = s.seq.target then none else some g } := by
  subst ht
  cases hgear : s.seq.gear with
  | neutral => exact absurd hgear hg
  | fwd n | rev n =>
    simp [applyTap, tapped, hgear, hs]
    rfl

end

theorem exec_tap_of_head {s : State} {dt : Nat} {up : Bool} (hrun : s.running = true)
    (h : s.head .vehicle = some (if up then .gearUp else .gearDown)) :
    exec (if up then .cabCommandGearUp dt else .cabCommandGearDown dt) s = .next (judgeTap up (s.taken dt .vehicle)) := by
  cases up with
  | true => exact (exec_of_running rfl hrun).trans (by rw [takeGearUp, State.head_advance, h]; rfl)
  | false => exact (exec_of_running rfl hrun).trans (by rw [takeGearDown, State.head_advance, h]; rfl)

/-! ### IMPL_SPEED and IMPL_AXLE (R66, R109) -/

/-- A REFUSAL changes the links alone. -/
theorem State.refuse_eq (s : State) (l : Link) (message part func : Nat) (r : Reason) :
    s.refuse l message part func r = { s with link := (s.refuse l message part func r).link } := by cases l <;> rfl

@[simp] theorem State.refuse_inbox (s : State) (l k : Link) (message part func : Nat) (r : Reason) :
    ((s.refuse l message part func r).link.get k).inbox = (s.link.get k).inbox := s.pushOut_inbox l k _

section
variable {s : State}

/-- An IMPL_SPEED that is taken sets v_target, clamped, and renews the lease (R24, R66). -/
theorem judgeImplSpeed_of_taken (v : Nat) (hh : s.holder .speed = .impl) (hd : s.seq.gear.direction = .fwd)
    (ha : s.seq.autoMode = true) : judgeImplSpeed v s =
      (s.onSeq (fun q => { q with vTarget := some (clamp 0 4000 v) })).renew .speed := by
  simp [judgeImplSpeed, hh, hd, ha]

/-- Any other IMPL_SPEED is refused (R20, R66). -/
theorem judgeImplSpeed_of_not_taken (v : Nat)
    (h : s.holder .speed ≠ .impl ∨ s.seq.gear.direction ≠ .fwd ∨ s.seq.autoMode = false) :
    ∃ r, judgeImplSpeed v s = s.refuse .implement 4 0 (funcCode .speed) r := by
  by_cases hh : s.holder .speed = .impl
  · exact ⟨.inhibited, by simp [judgeImplSpeed, hh, h.resolve_left (not_not.mpr hh)]⟩
  · exact ⟨_, by rw [judgeImplSpeed]; exact if_pos hh⟩

/-- An IMPL_AXLE that is taken sets the implement modes and renews the lease (R24, R109). -/
theorem judgeImplAxle_of_taken {a b : Nat} {m d : Mode} (hh : s.holder .axle = .impl) (ha : modeOf a = some m)
    (hb : modeOf b = some d) :
    judgeImplAxle a b s = (s.onAxle (fun x => { x with implModes := some (m, d) })).renew .axle := by
  simp [judgeImplAxle, hh, ha, hb]

/-- Any other IMPL_AXLE is refused (R20, R109). -/
theorem judgeImplAxle_of_not_taken {a b : Nat} (h : s.holder .axle ≠ .impl ∨ modeOf a = none ∨ modeOf b = none) :
    ∃ r, judgeImplAxle a b s = s.refuse .implement 5 0 (funcCode .axle) r := by
  by_cases hh : s.holder .axle = .impl
  · refine ⟨.unknown, ?_⟩
    rcases h.resolve_left (not_not.mpr hh) with ha | hb
    · simp [judgeImplAxle, hh, ha]
    · cases ha : modeOf a <;> simp [judgeImplAxle, hh, ha, hb]
  · exact ⟨_, by rw [judgeImplAxle]; exact if_pos hh⟩

end

section
variable {s : State} {dt : Nat} (hrun : s.running = true)
include hrun

theorem exec_implSpeed_of_head {v : Nat} (h : s.head .implement = some (.implSpeed v)) :
    exec (.implSpeed dt) s = .next (judgeImplSpeed v (s.taken dt .implement)) := by
  rw [exec_of_running rfl hrun, takeImplSpeed, State.head_advance, h]; rfl

theorem exec_implAxle_of_head {a b : Nat} (h : s.head .implement = some (.implAxle a b)) :
    exec (.implAxle dt) s = .next (judgeImplAxle a b (s.taken dt .implement)) := by
  rw [exec_of_running rfl hrun, takeImplAxle, State.head_advance, h]; rfl

end

end Sys2Proof.Machine

/-! ### The obligations -/

namespace Sys2Proof.Proofs

/-- Settles O21: the tap is `applyTap` on the state in which SPEED has been reclaimed. -/
theorem tapMovesOneGear : Obligations.TapMovesOneGear := by
  intro s dt up hrun hhead hh hrunning hlink q moved span target
  set u := s.taken dt .vehicle with hu
  have hjudge : judgeTap up u = applyTap up u.reclaimByCommand := judgeTap_of_taken up (s := u) hh hrunning hlink
  have hseq : u.reclaimByCommand.seq = q := by simp; rfl
  have htarget (g : Gear) (d : Dir) (hg : g ≠ .neutral) :
      gearIn q (g.dir.getD d) (tapped up g.num) = target g := by
    cases g with
    | neutral => exact absurd rfl hg
    | fwd n | rev n => rfl
  refine ⟨_, exec_tap_of_head hrun hhead, fun hg => ?_, fun hg hs ht => ?_, fun r hg hs ht => ?_, ?_, ?_, ?_,
    State.eq_but_authority_seq (judgeTap_frame up u)⟩
  · rw [← hu, hjudge, applyTap_of_neutral (by rw [hseq]; exact hg), hseq]; rfl
  · rw [← hu, hjudge, applyTap_of_still (by rw [hseq]; exact hg) (by rw [hseq]; exact hs), hseq, htarget _ _ ht]
  · intro g
    have hshift := applyTap_of_shifting (up := up) (s := u.reclaimByCommand) (g := g) (by rw [hseq]; exact hg)
      (by rw [hseq]; exact hs) (by rw [hseq]; exact htarget _ _ ht)
    rw [hseq] at hshift
    rw [← hu, hjudge, hshift]
    exact ⟨fun h => by rw [if_pos h], fun h => by rw [if_neg h]⟩
  · rw [← hu, hjudge]
    simpa [State.holder] using u.reclaimByCommand_holder.1
  · rw [← hu, hjudge]
    simpa [State.holder] using u.reclaimByCommand_holder.2
  · rw [← hu, hjudge]
    simp [State.reclaimByCommand_vehicle]
    rfl

/-- Settles O23: a message is taken from the holder in its conditions, and refused otherwise. -/
theorem implementSpeedAndAxle : Obligations.ImplementSpeedAndAxle := by
  intro s dt hrun
  set u := s.taken dt .implement with hu
  refine ⟨fun v hhead => ⟨_, exec_implSpeed_of_head hrun hhead, ?_, fun hh hd ha => ?_, fun h => ?_⟩,
    fun a b hhead => ⟨_, exec_implAxle_of_head hrun hhead, ?_, fun m d hh ha hb => ?_, fun h => ?_⟩⟩
  · rw [← hu]
    by_cases h : s.holder .speed ≠ .impl ∨ s.seq.gear.direction ≠ .fwd ∨ s.seq.autoMode = false
    · obtain ⟨r, hr⟩ := judgeImplSpeed_of_not_taken (s := u) v h
      rw [hr]
      exact u.refuse_inbox .implement .implement 4 0 _ r
    · simp only [not_or, not_not, Bool.not_eq_false] at h
      obtain ⟨hh, hd, ha⟩ := h
      rw [judgeImplSpeed_of_taken (s := u) v hh hd ha]
      rfl
  · rw [← hu, judgeImplSpeed_of_taken (s := u) v hh hd ha]
    exact ⟨rfl, rfl, rfl⟩
  · obtain ⟨r, hr⟩ := judgeImplSpeed_of_not_taken (s := u) v h
    rw [← hu, hr, State.refuse_eq]
    rfl
  · rw [← hu]
    by_cases h : s.holder .axle ≠ .impl ∨ modeOf a = none ∨ modeOf b = none
    · obtain ⟨r, hr⟩ := judgeImplAxle_of_not_taken (s := u) h
      rw [hr]
      exact u.refuse_inbox .implement .implement 5 0 _ r
    · simp only [not_or, not_not] at h
      obtain ⟨hh, ha, hb⟩ := h
      obtain ⟨m, ha⟩ := Option.ne_none_iff_exists'.mp ha
      obtain ⟨d, hb⟩ := Option.ne_none_iff_exists'.mp hb
      rw [judgeImplAxle_of_taken (s := u) hh ha hb]
      rfl
  · rw [← hu, judgeImplAxle_of_taken (s := u) hh ha hb]
    exact ⟨rfl, rfl, rfl⟩
  · obtain ⟨r, hr⟩ := judgeImplAxle_of_not_taken (s := u) h
    rw [← hu, hr, State.refuse_eq]
    rfl

end Sys2Proof.Proofs
end

section
/-! PROOFS. IMPL_HITCH (R125, R130, R175): what each of its two parts does on its own, and the frame as the one after the
other. -/

open Sys2Proof Sys2Proof.Machine

namespace Sys2Proof.Machine

/-! ### The two parts -/

/-- The setpoint part of an IMPL_HITCH, where it has one (R125). -/
def setpointPart (set : Option Setpoint) (s : State) : State :=
  match set with
  | some p => judgeSetpoint p s
  | none => s

/-- The quick command of an IMPL_HITCH, where it has one (R130). -/
def quickPart (quick : Option LiftCmd) (s : State) : State :=
  match quick with
  | some c => judgeQuick c s
  | none => s

theorem judgeParts_eq (set : Option Setpoint) (quick : Option LiftCmd) (s : State) :
    judgeParts set quick s = quickPart quick (setpointPart set s) := rfl

/-- A setpoint within its ranges (R125). -/
def Setpoint.clamped (p : Setpoint) : Setpoint := { p := clamp 0 1000 p.p, d := clamp 0 1000 p.d, m := clamp 0 100 p.m }

/-- A quick command is inhibited: in STOPPED, and WORK in UNMATCHED or under the transport lock (R130). -/
def State.inhibits (s : State) (c : LiftCmd) : Prop :=
  s.hitch.lift = .stopped ∨ (c = .work ∧ (s.hitch.lift = .unmatched ∨ s.hitch.cab.lock = true))

/-- A setpoint from the holder becomes the shadow and renews the lease (R24, R125). -/
theorem judgeSetpoint_of_held {s : State} (p : Setpoint) (h : s.holder .hitchSet = .impl) :
    judgeSetpoint p s = (s.onHitch (fun x => { x with shadow := some p.clamped })).renew .hitchSet := by
  simp [judgeSetpoint, h, Setpoint.clamped]

/-- A setpoint from another is refused (R20). -/
theorem judgeSetpoint_of_not_held {s : State} (p : Setpoint) (h : s.holder .hitchSet ≠ .impl) :
    judgeSetpoint p s = s.refuse .implement 3 1 (funcCode .hitchSet) (s.implRefusal .hitchSet) := by
  simp [judgeSetpoint, h]

/-- A quick command that is taken waits and renews the lease (R24, R130). -/
theorem judgeQuick_of_taken {s : State} {c : LiftCmd} (h : s.holder .hitchLift = .impl) (hi : ¬ s.inhibits c) :
    judgeQuick c s = (s.onHitch (fun x => { x with pendingLift := some c })).renew .hitchLift := by
  obtain ⟨hstop, hwork⟩ := not_or.mp hi
  rw [judgeQuick]
  simp only [h, ne_eq, not_true_eq_false, if_false, if_neg hstop, if_neg hwork]

/-- An inhibited quick command of the holder is refused INHIBITED (R130). -/
theorem judgeQuick_of_inhibited {s : State} {c : LiftCmd} (h : s.holder .hitchLift = .impl) (hi : s.inhibits c) :
    judgeQuick c s = s.refuse .implement 3 2 (funcCode .hitchLift) .inhibited := by
  rw [judgeQuick]
  simp only [h, ne_eq, not_true_eq_false, if_false]
  by_cases hstop : s.hitch.lift = .stopped
  · rw [if_pos hstop]
  · rw [if_neg hstop, if_pos (hi.resolve_left hstop)]

/-- A quick command from another is refused (R20). -/
theorem judgeQuick_of_not_held {s : State} (c : LiftCmd) (h : s.holder .hitchLift ≠ .impl) :
    judgeQuick c s = s.refuse .implement 3 2 (funcCode .hitchLift) (s.implRefusal .hitchLift) := by
  simp [judgeQuick, h]

/-! ### What a part leaves -/

section
variable (set : Option Setpoint) (s : State)

/-- The setpoint part changes the shadow, the entry of HITCH_SET and the implement link. -/
theorem setpointPart_frame : setpointPart set s =
    { s with
      auth := { s.auth with table := { s.auth.table with hitchSet := (setpointPart set s).auth.table.hitchSet } }
      hitch := { s.hitch with shadow := (setpointPart set s).hitch.shadow }
      link := { s.link with implement := (setpointPart set s).link.implement } } := by
  cases set with
  | none => rfl
  | some p =>
    by_cases h : s.holder .hitchSet = .impl
    · rw [setpointPart, judgeSetpoint_of_held p h]; rfl
    · rw [setpointPart, judgeSetpoint_of_not_held p h]; rfl

theorem setpointPart_inbox : (setpointPart set s).link.implement.inbox = s.link.implement.inbox := by
  cases set with
  | none => rfl
  | some p =>
    by_cases h : s.holder .hitchSet = .impl
    · rw [setpointPart, judgeSetpoint_of_held p h]; rfl
    · rw [setpointPart, judgeSetpoint_of_not_held p h]
      exact s.refuse_inbox .implement .implement ..

end

section
variable {set : Option Setpoint} {s : State}

/-- A setpoint part that is not taken leaves shadow and entry. -/
theorem setpointPart_of_not_taken (h : ¬ (set ≠ none ∧ s.holder .hitchSet = .impl)) :
    (setpointPart set s).hitch.shadow = s.hitch.shadow ∧
      (setpointPart set s).auth.table.hitchSet = s.auth.table.hitchSet := by
  cases set with
  | none => exact ⟨rfl, rfl⟩
  | some p =>
    have hh : s.holder .hitchSet ≠ .impl := fun hh => h ⟨by simp, hh⟩
    rw [setpointPart, judgeSetpoint_of_not_held p hh]
    exact ⟨rfl, rfl⟩

/-- A setpoint part that is absent or taken sends nothing. -/
theorem setpointPart_link (h : set = none ∨ (set ≠ none ∧ s.holder .hitchSet = .impl)) :
    (setpointPart set s).link = s.link := by
  cases set with
  | none => rfl
  | some p =>
    obtain ⟨-, hh⟩ := h.resolve_left (by simp)
    rw [setpointPart, judgeSetpoint_of_held p hh]
    rfl

end

section
variable (quick : Option LiftCmd) (s : State)

/-- The quick command changes the pending lift command, the entry of HITCH_LIFT and the implement link. -/
theorem quickPart_frame : quickPart quick s =
    { s with
      auth := { s.auth with table := { s.auth.table with hitchLift := (quickPart quick s).auth.table.hitchLift } }
      hitch := { s.hitch with pendingLift := (quickPart quick s).hitch.pendingLift }
      link := { s.link with implement := (quickPart quick s).link.implement } } := by
  cases quick with
  | none => rfl
  | some c =>
    by_cases h : s.holder .hitchLift = .impl
    · by_cases hi : s.inhibits c
      · rw [quickPart, judgeQuick_of_inhibited h hi]; rfl
      · rw [quickPart, judgeQuick_of_taken h hi]; rfl
    · rw [quickPart, judgeQuick_of_not_held c h]; rfl

theorem quickPart_inbox : (quickPart quick s).link.implement.inbox = s.link.implement.inbox := by
  cases quick with
  | none => rfl
  | some c =>
    by_cases h : s.holder .hitchLift = .impl
    · by_cases hi : s.inhibits c
      · rw [quickPart, judgeQuick_of_inhibited h hi]
        exact s.refuse_inbox .implement .implement ..
      · rw [quickPart, judgeQuick_of_taken h hi]; rfl
    · rw [quickPart, judgeQuick_of_not_held c h]
      exact s.refuse_inbox .implement .implement ..

end

/-- A quick command that is not taken leaves the pending lift command and the entry. -/
theorem quickPart_of_not_taken {quick : Option LiftCmd} {s : State}
    (h : ∀ c, quick = some c → s.holder .hitchLift = .impl → s.inhibits c) :
    (quickPart quick s).hitch.pendingLift = s.hitch.pendingLift ∧
      (quickPart quick s).auth.table.hitchLift = s.auth.table.hitchLift := by
  cases quick with
  | none => exact ⟨rfl, rfl⟩
  | some c =>
    by_cases hh : s.holder .hitchLift = .impl
    · rw [quickPart, judgeQuick_of_inhibited hh (h c rfl hh)]
      exact ⟨rfl, rfl⟩
    · rw [quickPart, judgeQuick_of_not_held c hh]
      exact ⟨rfl, rfl⟩

/-- The setpoint part leaves what the quick command is judged on. -/
theorem setpointPart_keeps (set : Option Setpoint) (s : State) :
    (setpointPart set s).auth.table.hitchLift = s.auth.table.hitchLift ∧
      (setpointPart set s).hitch.pendingLift = s.hitch.pendingLift ∧
      (setpointPart set s).holder .hitchLift = s.holder .hitchLift ∧
      ∀ c, (setpointPart set s).inhibits c ↔ s.inhibits c := by
  rw [setpointPart_frame set s]
  exact ⟨rfl, rfl, rfl, fun c => Iff.rfl⟩

/-- The quick command leaves what the setpoint part has done. -/
theorem quickPart_keeps (quick : Option LiftCmd) (s : State) :
    (quickPart quick s).auth.table.hitchSet = s.auth.table.hitchSet ∧
      (quickPart quick s).hitch.shadow = s.hitch.shadow := by
  rw [quickPart_frame quick s]
  exact ⟨rfl, rfl⟩

/-- Both parts together change the two functions' entries, the shadow, the pending command and the implement link. -/
theorem judgeParts_eq_parts_changed (set : Option Setpoint) (quick : Option LiftCmd) (s : State) :
    judgeParts set quick s =
      { s with
        auth := { s.auth with table :=
          { s.auth.table with
            hitchSet := (judgeParts set quick s).auth.table.hitchSet
            hitchLift := (judgeParts set quick s).auth.table.hitchLift } }
        hitch := { s.hitch with
          shadow := (judgeParts set quick s).hitch.shadow
          pendingLift := (judgeParts set quick s).hitch.pendingLift }
        link := { s.link with implement := (judgeParts set quick s).link.implement } } := by
  rw [judgeParts_eq, quickPart_frame quick, setpointPart_frame set s]

/-- The refusal of an inhibited quick command joins the transmit queue where there is room (R178). -/
theorem State.refuse_inhibited_outbox (s : State) (hr : s.link.implement.rejoin = none)
    (hlen : s.link.implement.outbox.length < 8) :
    (s.refuse .implement 3 2 (funcCode .hitchLift) .inhibited).link.implement.outbox =
      s.link.implement.outbox ++ [outFrame .refusal [3, 2, funcCode .hitchLift, reasonCode .inhibited]] :=
  s.pushOut_outbox .implement _ hr hlen

/-- The row of a part that the frame carries takes it, and judges both parts (R175). -/
theorem exec_implHitch_of_head {s : State} {dt : Nat} {c : Instr} {set : Option Setpoint} {quick : Option LiftCmd}
    (hrun : s.running = true) (h : s.head .implement = some (.implHitch set quick))
    (hc : (c = .implHitchSetpoint dt ∧ set ≠ none) ∨ (c = .implHitchRaise dt ∧ quick = some .raise) ∨
      (c = .implHitchWork dt ∧ quick = some .work)) :
    exec c s = .next (judgeParts set quick (s.taken dt .implement)) := by
  rcases hc with ⟨rfl, hset⟩ | ⟨rfl, rfl⟩ | ⟨rfl, rfl⟩
  · obtain ⟨p, rfl⟩ := Option.ne_none_iff_exists'.mp hset
    rw [exec_of_running rfl hrun, takeSetpoint, State.head_advance, h]; rfl
  · rw [exec_of_running rfl hrun, takeQuick, State.head_advance, h]; rfl
  · rw [exec_of_running rfl hrun, takeQuick, State.head_advance, h]; rfl

end Sys2Proof.Machine

/-! ### The obligation -/

namespace Sys2Proof.Proofs

/-- Settles O39: the two parts one after the other, each by its own lemmas. -/
theorem implementHitchParts : Obligations.ImplementHitchParts := by
  intro s dt c set quick hrun hhead hc takenSet inhibited takenQuick
  set u := s.taken dt .implement with hu
  set a := setpointPart set u with ha
  obtain ⟨hentryA, hpendA, hholdA, hinhA⟩ := setpointPart_keeps set u
  obtain ⟨hentryT, hshadowT⟩ := quickPart_keeps quick a
  have hinh (x : LiftCmd) (hx : quick = some x) : a.inhibits x ↔ inhibited := by
    have hwork : x = .work ↔ quick = some .work := by rw [hx, Option.some_inj]
    exact (hinhA x).trans (or_congr Iff.rfl (and_congr hwork Iff.rfl))
  refine ⟨_, exec_implHitch_of_head hrun hhead hc, ?_, fun hset p hp => ?_, fun hset => ?_, fun hq => ?_, fun hq => ?_,
    fun hset hq => ?_, fun hset hsome hh hin hr hlen => ?_, judgeParts_eq_parts_changed set quick u⟩
  all_goals rw [← hu, judgeParts_eq]
  · exact (quickPart_inbox quick a).trans (setpointPart_inbox set u)
  · rw [hentryT, hshadowT, ha, hp, setpointPart, judgeSetpoint_of_held (s := u) p hset.2]
    exact ⟨rfl, rfl⟩
  · rw [hentryT, hshadowT]
    exact setpointPart_of_not_taken (s := u) hset
  · obtain ⟨hsome, hh, hin⟩ := hq
    obtain ⟨x, hx⟩ := Option.ne_none_iff_exists'.mp hsome
    rw [hx, quickPart, judgeQuick_of_taken (hholdA.trans hh) (fun h => hin ((hinh x hx).mp h)), setpointPart_frame]
    exact ⟨rfl, rfl⟩
  · obtain ⟨hpend, hentry⟩ := quickPart_of_not_taken (quick := quick) (s := a) fun x hx hh =>
      (hinh x hx).mpr (by_contra fun hin => hq ⟨by simp [hx], hholdA.symm.trans hh, hin⟩)
    exact ⟨hpend.trans hpendA, hentry.trans hentryA⟩
  · have hlinkA : a.link = u.link := setpointPart_link (s := u) hset
    cases hquick : quick with
    | none => exact congrArg LinkBlock.implement hlinkA
    | some x =>
      obtain ⟨-, hh, hin⟩ := hq.resolve_left (by simp [hquick])
      rw [quickPart, judgeQuick_of_taken (hholdA.trans hh) (fun h => hin ((hinh x hquick).mp h))]
      exact congrArg LinkBlock.implement hlinkA
  · obtain ⟨x, hx⟩ := Option.ne_none_iff_exists'.mp hsome
    have hlinkA : a.link = u.link := setpointPart_link (s := u) hset
    rw [hx, quickPart, judgeQuick_of_inhibited (hholdA.trans hh) ((hinh x hx).mpr hin),
      State.refuse_inhibited_outbox a (by rw [hlinkA]; exact hr) (by rw [hlinkA]; exact hlen), hlinkA]
    rfl

end Sys2Proof.Proofs
end

section
/-! PROOFS. The passes that return functions to their targets (R25, R35, R36), and the links whose loss begins two of them:
the link check, bus-off and rejoin (R172, R174). -/

open Sys2Proof Sys2Proof.Machine

namespace Sys2Proof.Machine

/-! ### Passes that return functions -/

/-- A step that drops a function's request and returns the function to its target where a holder of some kind has it. -/
structure ReturnsFrom (lost : Holder → Prop) (op : State → Func → State) : Prop where
  actsOn : ∀ (s : State) (f : Func), s.ActsOn f (op s f)
  returned : ∀ (s : State) (f : Func), lost (s.holder f) →
    (op s f).auth.table.get f = (s.auth.table.get f).dropped.movedTo s.now s.auth.seen f (s.target f)
  kept : ∀ (s : State) (f : Func), ¬ lost (s.holder f) → (op s f).auth.table.get f = (s.auth.table.get f).dropped

section
variable {lost : Holder → Prop} {op : State → Func → State} (hop : ReturnsFrom lost op) {l : List Func} (hl : l.Nodup)
  {f : Func}
include hop hl

/-- A function of a lost holder is at its target after the pass. -/
theorem ReturnsFrom.foldl_returned (hf : f ∈ l) (s : State) (hh : lost (s.holder f)) :
    (l.foldl op s).holder f = s.target f ∧ ((l.foldl op s).auth.table.get f).pendingSince = none := by
  obtain ⟨t, hbefore, hafter⟩ := State.AlikeFor.foldl_turn hop.actsOn hl hf s
  have hheld : t.holder f = s.holder f := congrArg AuthEntry.holder hbefore.entry
  rw [State.holder, hafter.entry, hop.returned t f (hheld ▸ hh), hbefore.toReadsAlike.target]
  simp

/-- A function of another holder stays, without its request. -/
theorem ReturnsFrom.foldl_kept (hf : f ∈ l) (s : State) (hh : ¬ lost (s.holder f)) :
    (l.foldl op s).holder f = s.holder f ∧ ((l.foldl op s).auth.table.get f).pendingSince = none := by
  obtain ⟨t, hbefore, hafter⟩ := State.AlikeFor.foldl_turn hop.actsOn hl hf s
  have hheld : t.holder f = s.holder f := congrArg AuthEntry.holder hbefore.entry
  rw [State.holder, hafter.entry, hop.kept t f (hheld ▸ hh)]
  exact ⟨hheld, rfl⟩

/-- A pass that takes the implement's functions leaves it none. -/
theorem ReturnsFrom.foldl_ne_impl (himpl : lost .impl) (hf : f ∈ l) (s : State) : (l.foldl op s).holder f ≠ .impl := by
  by_cases hh : lost (s.holder f)
  · rw [(hop.foldl_returned hl hf s hh).1]
    exact s.target_ne_impl f
  · rw [(hop.foldl_kept hl hf s hh).1]
    exact fun h => hh (h ▸ himpl)

theorem ReturnsFrom.foldl_pendingSince (hf : f ∈ l) (s : State) :
    ((l.foldl op s).auth.table.get f).pendingSince = none := by
  by_cases hh : lost (s.holder f)
  · exact (hop.foldl_returned hl hf s hh).2
  · exact (hop.foldl_kept hl hf s hh).2

end

/-- The step of such a pass: the request goes, and a function of a lost holder moves to its target. -/
def returnStep (lost : Holder → Prop) [DecidablePred lost] (drop : State → Func → State)
    (move : State → Func → Holder → State) (s : State) (f : Func) : State :=
  if lost ((drop s f).holder f) then move (drop s f) f ((drop s f).target f) else drop s f

/-- Whether the request is answered, and whether the implement is told, makes no difference to authority. -/
theorem returnStep_returnsFrom (lost : Holder → Prop) [DecidablePred lost] {drop : State → Func → State}
    {move : State → Func → Holder → State} (hdrop : ∀ (s : State) (f : Func), s.ActsOn f (drop s f))
    (hdropped : ∀ (s : State) (f : Func), (drop s f).auth = (s.dropPending f).auth)
    (hmove : ∀ (s : State) (f : Func) (h : Holder), s.ActsOn f (move s f h))
    (hmoved : ∀ (s : State) (f : Func) (h : Holder), (move s f h).auth = (s.setHolder f h).auth) :
    ReturnsFrom lost (returnStep lost drop move) := by
  have hheld (s : State) (f : Func) : (drop s f).holder f = s.holder f := by simp [State.holder, hdropped]
  refine ⟨fun s f => ?_, fun s f hh => ?_, fun s f hh => ?_⟩
  · unfold returnStep
    split
    · exact (hdrop s f).trans (hmove _ f _)
    · exact hdrop s f
  · have hread := (hdrop s f).reads
    rw [returnStep, if_pos ((hheld s f).symm ▸ hh), hmoved, State.setHolder_entry, hread.now, hread.seen, hread.target,
      hdropped, State.dropPending_entry]
  · rw [returnStep, if_neg ((hheld s f).symm ▸ hh), hdropped, State.dropPending_entry]

/-- Bus-off of the implement link: without an answer (R25). -/
theorem lapseAllSilently_eq (s : State) :
    lapseAllSilently s = delegableFuncs.foldl (returnStep (· = .impl) State.dropPending State.setHolder) s := rfl

/-- The start of SHUTDOWN (R36). -/
theorem returnAtShutdown_eq (s : State) : returnAtShutdown s =
    delegableFuncs.foldl (returnStep (· = .impl) (·.refusePending · .notPermitted) State.moveAway) s := rfl

/-- The raise of fault 3 (R35). -/
theorem returnAtLinkLoss_eq (s : State) : returnAtLinkLoss s =
    [Func.speed, .hitchSet, .hitchLift].foldl
      (returnStep (fun h => h = .cab ∨ h = .impl) (·.refusePending · .inhibited) State.moveAway) s := rfl

theorem lapseStep_returnsFrom : ReturnsFrom (· = .impl) (returnStep (· = .impl) State.dropPending State.setHolder) :=
  returnStep_returnsFrom _ State.dropPending_actsOn (fun _ _ => rfl) State.setHolder_actsOn (fun _ _ _ => rfl)

theorem refuseStep_returnsFrom (lost : Holder → Prop) [DecidablePred lost] (r : Reason) :
    ReturnsFrom lost (returnStep lost (·.refusePending · r) State.moveAway) :=
  returnStep_returnsFrom lost (fun s f => s.refusePending_actsOn f r) (fun s f => s.refusePending_auth f r)
    State.moveAway_actsOn State.moveAway_auth

/-! ### The link check (R174) and the raise of fault 3 (R35, R110) -/

/-- A raise of fault 3 returns functions, begins the fault engagement, and offers the notice (R159, R166). -/
theorem State.raise_vehicleLinkLost (s : State) : ∃ t, t.auth = s.auth ∧ t.axle = s.axle ∧
    (∀ f, t.target f = s.target f) ∧
    s.raise .vehicleLinkLost none = ((returnAtLinkLoss t).faultEngage).offerNotices :=
  let f := record s.now .vehicleLinkLost { s.fault with active := setActive .vehicleLinkLost true s.fault.active }
  ⟨{ s with fault := f }, rfl, rfl, fun f => by cases f <;> rfl, rfl⟩

/-- The fault engagement is in force once it has begun (R110). -/
theorem State.faultEngage_faultEngagement (s : State) : s.faultEngage.axle.faultEngagement = true := by
  unfold State.faultEngage
  split
  · assumption
  · simp [State.engageAxle, State.publishAxle]

section
variable {s : State} {a : Copy DemandA} {b : Copy DemandB} (ha : s.link.demandA = some a) (hb : s.link.demandB = some b)
include ha hb

/-- A check with both copies fresh on an ACTIVE link reports fault 3 inactive (R174). -/
theorem linkCheck_of_fresh (hr : s.link.vehicle.rejoin = none) (hfa : s.now ≤ a.arrived + 200)
    (hfb : s.now ≤ b.arrived + 200) : linkCheck s = s.reportInactive .vehicleLinkLost := by
  simp [linkCheck, State.receives, LinkBlock.get, demandFresh, ha, hb, hr, hfa, hfb]

/-- Any other check finds fault 3 active or raises it (R174). -/
theorem linkCheck_of_stale
    (h : s.link.vehicle.rejoin ≠ none ∨ a.arrived + 200 < s.now ∨ b.arrived + 200 < s.now) :
    linkCheck s = if s.active .vehicleLinkLost then s else s.raise .vehicleLinkLost none := by
  have hstale : (s.receives .vehicle && demandFresh s.now s.start s.link.demandA
      && demandFresh s.now s.start s.link.demandB) = false := by
    rw [ha, hb]
    rcases h with h | h | h <;> simp [State.receives, LinkBlock.get, demandFresh, h]
  simp only [linkCheck, hstale, Bool.false_eq_true, if_false]

end

/-! ### Bus-off and rejoin (R172) -/

theorem goBusOff_of_inactive {l : Link} {s : State} (h : (s.link.get l).rejoin ≠ none) : goBusOff l s = s := by
  simp [goBusOff, State.receives, h]

/-- The link's records as bus-off leaves them (R172). -/
def cutOff (s : State) (k : LinkState) : LinkState :=
  { rejoin := some (s.now + 200)
    inbox := []
    outbox := k.outbox.filter (fun e => decide (e.kind = .notice))
    mail := returnMail s k
    tx := none }

theorem goBusOff_vehicle {s : State} (h : s.link.vehicle.rejoin = none) :
    goBusOff .vehicle s = s.onLink .vehicle (cutOff s) := by
  simp [goBusOff, State.receives, LinkBlock.get, h]; rfl

theorem goBusOff_implement {s : State} (h : s.link.implement.rejoin = none) :
    goBusOff .implement s = lapseAllSilently (s.onLink .implement (cutOff s)) := by
  simp [goBusOff, State.receives, LinkBlock.get, h]; rfl

/-- A link that goes bus-off is cut off, and the other stands. -/
theorem goBusOff_get {l : Link} {s : State} (h : (s.link.get l).rejoin = none) :
    (goBusOff l s).link.get l = cutOff s (s.link.get l) ∧ ∀ m, m ≠ l → (goBusOff l s).link.get m = s.link.get m := by
  cases l with
  | vehicle =>
    rw [goBusOff_vehicle h]
    exact ⟨s.onLink_get .vehicle _, fun m hm => s.onLink_get_other .vehicle m _ hm⟩
  | implement =>
    rw [goBusOff_implement h]
    have hlink (t : State) : (lapseAllSilently t).link = t.link := by simp
    rw [hlink]
    exact ⟨s.onLink_get .implement _, fun m hm => s.onLink_get_other .implement m _ hm⟩

/-- A copy put into its empty mailbox leaves the others. -/
theorem mem_insertMail_of_mem {m x : Mail} {ms : List Mail} (hx : x ∈ ms) (h : ∀ y ∈ ms, y.ident ≠ m.ident) :
    x ∈ insertMail m ms := by
  induction ms with
  | nil => exact absurd hx List.not_mem_nil
  | cons y rest ih =>
    unfold insertMail
    split
    · exact List.mem_cons_of_mem m hx
    · rw [if_neg (fun hy => h y (List.mem_cons_self ..) hy.symm)]
      rcases List.mem_cons.mp hx with rfl | hx
      · exact List.mem_cons_self ..
      · exact List.mem_cons_of_mem y (ih hx fun z hz => h z (List.mem_cons_of_mem y hz))

theorem mem_ite_of_mem {α : Type} {x : α} {p q : List α} {c : Prop} [Decidable c] (hp : x ∈ p) (hq : x ∈ q) :
    x ∈ if c then p else q := by
  split <;> assumption

/-- Every waiting copy stands when the one in transmission returns (R172). -/
theorem mem_returnMail {s : State} {k : LinkState} {x : Mail} (hx : x ∈ k.mail) : x ∈ returnMail s k := by
  rcases htx : k.tx with _ | _ | m
  · simpa [returnMail, htx] using hx
  · simpa [returnMail, htx] using hx
  · simp only [returnMail, htx]
    by_cases hany : (k.mail.any fun y => decide (y.ident = m.ident)) = true
    · simpa [hany] using hx
    · have hfree : ∀ y ∈ k.mail, y.ident ≠ m.ident := by simpa using hany
      exact mem_ite_of_mem hx (mem_insertMail_of_mem hx hfree)

/-- The rejoin time is not reached, or there is none. -/
theorem State.eq_but_fault_link {s t : State}
    (h : t.pending = s.pending ∧ t.life = s.life ∧ t.now = s.now ∧ t.start = s.start ∧ t.free = s.free ∧
      t.build = s.build ∧ t.speed = s.speed ∧ t.auth = s.auth ∧ t.seq = s.seq ∧ t.chan = s.chan ∧ t.store = s.store ∧
      t.run = s.run ∧ t.axle = s.axle ∧ t.hitch = s.hitch ∧ t.brake = s.brake ∧ t.power = s.power ∧ t.svc = s.svc) :
    t = { s with fault := t.fault, link := t.link } := by
  cases s; cases t; simp_all

theorem linkRejoin_of_not_due {l : Link} {s : State} (h : ∀ u, (s.link.get l).rejoin = some u → s.now < u) :
    linkRejoin l s = s := by
  cases hr : (s.link.get l).rejoin with
  | none => simp [linkRejoin, hr, passed]
  | some u => simp [linkRejoin, hr, passed, h u hr]

/-- A link at work: ACTIVE or not as before, with its inbound queue, its transmit queue grown at the tail at most. -/
structure LinkState.Grows (j k : LinkState) : Prop where
  rejoin : k.rejoin = j.rejoin
  inbox : k.inbox = j.inbox
  outbox : j.outbox <+: k.outbox

theorem LinkState.Grows.refl (k : LinkState) : k.Grows k := ⟨rfl, rfl, List.prefix_rfl⟩

theorem LinkState.Grows.trans {i j k : LinkState} (h : i.Grows j) (h' : j.Grows k) : i.Grows k :=
  ⟨h'.rejoin.trans h.rejoin, h'.inbox.trans h.inbox, h.outbox.trans h'.outbox⟩

theorem transmit_grows (l : Link) (k : LinkState) : k.Grows (transmit l k) :=
  ⟨transmit_rejoin l k, transmit_inbox l k, by simp⟩

theorem State.pushOut_grows (s : State) (l : Link) (e : OutEvent) : (s.link.get l).Grows ((s.pushOut l e).link.get l) := by
  rw [State.pushOut, State.onLink_get]
  split
  · exact ⟨transmit_rejoin .., transmit_inbox .., by simp⟩
  · exact .refl _

theorem State.placeNotice_link (s : State) (e : FaultEntry) :
    (s.placeNotice e).link = (s.pushOut .vehicle { kind := .notice, data := faultNotice s e }).link := by
  unfold State.placeNotice
  dsimp only
  split <;> simp [State.removeEntry]

/-- Notices join the vehicle link's transmit queue at its tail (R162, R178). -/
theorem offerNoticesUpTo_grows (n : Nat) (s : State) : s.link.vehicle.Grows (offerNoticesUpTo n s).link.vehicle := by
  induction n generalizing s with
  | zero => exact .refl _
  | succ n ih =>
    unfold offerNoticesUpTo
    split
    · split
      · next e _ =>
        refine LinkState.Grows.trans ?_ (ih (s.placeNotice e))
        rw [State.placeNotice_link]
        exact s.pushOut_grows .vehicle _
      · exact .refl _
    · exact .refl _

/-- The Fault Manager is told of what concerns the vehicle link (R178). -/
def tellFaultManager (l : Link) (s : State) : State :=
  match l with
  | .vehicle => s.offerNotices
  | .implement => s

theorem tellFaultManager_grows (l : Link) (s : State) : (s.link.get l).Grows ((tellFaultManager l s).link.get l) := by
  cases l with
  | vehicle => exact offerNoticesUpTo_grows 16 s
  | implement => exact .refl _

/-- At its rejoin time a link is ACTIVE again, with its queues, to which notices may have been added (R172, R178). -/
theorem linkRejoin_of_due {l : Link} {s : State} {u : Nat} (h : (s.link.get l).rejoin = some u) (hd : u ≤ s.now) :
    ({ s.link.get l with rejoin := none }).Grows ((linkRejoin l s).link.get l) := by
  have heq : linkRejoin l s =
      (tellFaultManager l (s.onLink l (fun k => { k with rejoin := none }))).onLink l (transmit l) := by
    simp [linkRejoin, passed, h, hd]
    cases l <;> rfl
  rw [heq, State.onLink_get]
  refine LinkState.Grows.trans ?_ (transmit_grows l _)
  have hg := tellFaultManager_grows l (s.onLink l (fun k => { k with rejoin := none }))
  rwa [State.onLink_get] at hg

end Sys2Proof.Machine

/-! ### The obligations -/

namespace Sys2Proof.Proofs

/-- Settles O46: a stale check raises fault 3, whose return of functions is a pass, and a fresh one reports it inactive. -/
theorem linkCheckJudgesDemand : Obligations.LinkCheckJudgesDemand := by
  intro s dt a b hrun ha hb
  set u := s.advance dt with hu
  refine ⟨_, exec_of_running rfl hrun, fun h => ?_, fun hr hfa hfb => ?_, ?_⟩
  · rw [linkCheck_of_stale (s := u) ha hb h]
    refine ⟨?_, fun hin => ?_, fun hin => if_pos hin⟩
    · split
      · assumption
      · simp
    · rw [if_neg (show ¬ u.active .vehicleLinkLost = true from Bool.eq_false_iff.mp hin)]
      obtain ⟨t, hauth, haxle, htarget, heq⟩ := u.raise_vehicleLinkLost
      have hpass := refuseStep_returnsFrom (fun h => h = .cab ∨ h = .impl) .inhibited
      have hheld (f : Func) : ((returnAtLinkLoss t).faultEngage).offerNotices.holder f = (returnAtLinkLoss t).holder f := by
        simp [State.holder]
      have hreturn (f : Func) (hf : f ∈ [Func.speed, .hitchSet, .hitchLift]) (hh : s.holder f = .cab ∨ s.holder f = .impl) :
          (returnAtLinkLoss t).holder f = s.target f := by
        rw [returnAtLinkLoss_eq, (hpass.foldl_returned (by decide) hf t (by rw [State.holder, hauth]; exact hh)).1, htarget]
        rfl
      have hstay (f : Func) (hf : f ∉ [Func.speed, .hitchSet, .hitchLift]) :
          (returnAtLinkLoss t).holder f = s.holder f := by
        rw [returnAtLinkLoss_eq, State.holder, (State.AlikeFor.foldl_of_notMem hpass.actsOn hf t).entry, hauth]
        rfl
      rw [heq]
      refine ⟨?_, ?_, ?_, ?_, ?_, ?_⟩
      · exact fun hh => (hheld .speed).trans (hreturn .speed (by decide) hh)
      · exact fun hh => (hheld .hitchSet).trans (hreturn .hitchSet (by decide) hh)
      · exact fun hh => (hheld .hitchLift).trans (hreturn .hitchLift (by decide) hh)
      · exact (hheld .axle).trans (hstay .axle (by decide))
      · exact (hheld .gear).trans (hstay .gear (by decide))
      · simp [State.faultEngage_faultEngagement]
  · rw [linkCheck_of_fresh (s := u) ha hb hr hfa hfb]
    simp
    exact ⟨rfl, rfl⟩
  · simp

/-- Settles O52: a link is cut off and the implement's functions lapse in a pass; at the rejoin its queues stand. -/
theorem busOffAndRejoin : Obligations.BusOffAndRejoin := by
  intro s dt l hrun
  set u := s.advance dt with hu
  refine ⟨⟨_, exec_of_running rfl hrun, fun hr => ?_, fun hr => goBusOff_of_inactive (s := u) hr, fun m hm => ?_,
    fun hl => ?_⟩, ⟨_, exec_of_running rfl hrun, fun e he hd => ?_, fun e he hd => ?_, fun hr => ?_, ?_⟩⟩
  · obtain ⟨hget, -⟩ := goBusOff_get (s := u) hr
    rw [← hu, hget]
    refine ⟨rfl, rfl, rfl, fun e => ?_, fun m hm => mem_returnMail hm, ?_⟩
    · exact List.mem_filter.trans (and_congr_right fun _ => decide_eq_true_iff)
    · rintro rfl f hf
      have hpass := lapseStep_returnsFrom
      rw [goBusOff_implement (s := u) hr, lapseAllSilently_eq]
      set w := u.onLink .implement (cutOff u)
      have hheld : w.holder f = s.holder f := rfl
      have htarget : w.target f = s.target f := by cases f <;> rfl
      exact ⟨fun hh => (hpass.foldl_returned delegableFuncs_nodup hf w (hheld.trans hh)).1.trans htarget,
        hpass.foldl_ne_impl delegableFuncs_nodup rfl hf w, hpass.foldl_pendingSince delegableFuncs_nodup hf w⟩
  · by_cases hr : (s.link.get l).rejoin = none
    · exact (goBusOff_get (s := u) hr).2 m hm
    · rw [goBusOff_of_inactive (s := u) hr]; rfl
  · subst hl
    by_cases hr : (s.link.get .vehicle).rejoin = none
    · rw [← hu, goBusOff_vehicle (s := u) hr]; rfl
    · rw [goBusOff_of_inactive (s := u) hr]
  · obtain ⟨hrejoin, hinbox, houtbox⟩ := linkRejoin_of_due (s := u) he hd
    exact ⟨hrejoin, hinbox, houtbox⟩
  · exact linkRejoin_of_not_due (s := u) fun x hx => by
      rw [show x = e from Option.some_inj.mp (hx.symm.trans he)]; exact hd
  · exact linkRejoin_of_not_due (s := u) fun x hx => absurd (hr.symm.trans hx) (by simp)
  · exact State.eq_but_fault_link (linkRejoin_frame l u)

end Sys2Proof.Proofs
end

section
/-! PROOFS. The power step (R167 to R169): what it makes of the ignition it reads, and the ends of SETTLE and FLUSH. -/

open Sys2Proof Sys2Proof.Machine

namespace Sys2Proof.Machine

/-- A power step is taken whenever the part has taken its Power-on start, in OFF as well (R168). -/
theorem exec_powerStep_of_on {s : State} (dt : Nat) (ignition : Bool) (rbs : List ReadBack) (h : s.life = .on) :
    exec (.powerStep dt ignition rbs) s = .next (powerStep ignition rbs (s.advance dt)) :=
  congrArg Host.Outcome.next (if_pos h)

/-! ### The ignition (R167) -/

/-- The two counts of the ignition after a reading. -/
def State.withReading (s : State) (high : Bool) : State :=
  s.onPower (fun p => { p with
    lowSince := holdSince s.now (!high) s.power.lowSince, highSince := holdSince s.now high s.power.highSince })

section
variable {s : State}

/-- A reading that agrees with the ignition as judged changes the counts alone. -/
theorem judgeIgnition_of_steady (high : Bool) (h : s.power.ignitionOn = high) :
    judgeIgnition high s = s.withReading high := by
  cases high <;> simp [judgeIgnition, h, holdSince, passed, State.withReading]

/-- The ignition is judged off once it has read low for 50 ms. -/
theorem judgeIgnition_of_low {u : Nat} (h : s.power.ignitionOn = true) (hu : s.power.lowSince = some u)
    (hd : u + 50 ≤ s.now) : judgeIgnition false s = ignitionOff (s.withReading false) := by
  simp [judgeIgnition, h, hu, hd, holdSince, passed, State.withReading]

theorem judgeIgnition_of_low_early {u : Nat} (h : s.power.ignitionOn = true) (hu : s.power.lowSince = some u)
    (hd : s.now < u + 50) : judgeIgnition false s = s.withReading false := by
  simp [judgeIgnition, h, hu, Nat.not_le.mpr hd, holdSince, passed, State.withReading]

/-- The ignition is judged on once it has read high for 50 ms. -/
theorem judgeIgnition_of_high {u : Nat} (h : s.power.ignitionOn = false) (hu : s.power.highSince = some u)
    (hd : u + 50 ≤ s.now) : judgeIgnition true s = ignitionOn (s.withReading true) := by
  simp [judgeIgnition, h, hu, hd, holdSince, passed, State.withReading]

/-- A step at which the ignition moves the power state ends with that. -/
theorem powerStep_of_moved {high : Bool} {rbs : List ReadBack} {t : State} (h : judgeIgnition high s = t)
    (hp : t.power.power ≠ s.power.power) : powerStep high rbs s = t := by
  rw [powerStep, h]; exact if_neg hp

/-- A step at which it does not goes on to the ends of SETTLE and FLUSH. -/
theorem powerStep_of_kept {high : Bool} {rbs : List ReadBack} {t : State} (h : judgeIgnition high s = t)
    (hp : t.power.power = s.power.power) : powerStep high rbs s = judgePhase rbs t := by
  rw [powerStep, h]; exact if_pos hp

/-- In FLUSH an ignition that is off, or is judged off, leaves no restart wanted (R169). -/
theorem judgeIgnition_flush_off (hp : s.power.power = .flush) {u : Nat}
    (h : (s.power.ignitionOn = false ∧ s.power.restartWanted = false) ∨
      (s.power.ignitionOn = true ∧ s.power.lowSince = some u ∧ u + 50 ≤ s.now)) :
    ∃ p : PowerState, judgeIgnition false s = { s with power := p } ∧ p.power = .flush ∧ p.restartWanted = false ∧
      p.ignitionOn = false ∧ p.flushStart = s.power.flushStart := by
  rcases h with ⟨hoff, hw⟩ | ⟨hon, hu, hd⟩
  · exact ⟨_, judgeIgnition_of_steady false hoff, hp, hw, hoff, rfl⟩
  · refine ⟨{ (s.withReading false).power with ignitionOn := false, restartWanted := false }, ?_, hp, rfl, rfl, rfl⟩
    rw [judgeIgnition_of_low hon hu hd]
    simp [ignitionOff, State.withReading, State.onPower, hp]

/-- In FLUSH an ignition that is on with a restart wanted, or is judged on, leaves a restart wanted (R169). -/
theorem judgeIgnition_flush_on (hp : s.power.power = .flush) {u : Nat}
    (h : (s.power.ignitionOn = true ∧ s.power.restartWanted = true) ∨
      (s.power.ignitionOn = false ∧ s.power.highSince = some u ∧ u + 50 ≤ s.now)) :
    ∃ p : PowerState, judgeIgnition true s = { s with power := p } ∧ p.power = .flush ∧ p.restartWanted = true ∧
      p.ignitionOn = true ∧ p.flushStart = s.power.flushStart ∧ p.hold = s.power.hold := by
  rcases h with ⟨hon, hw⟩ | ⟨hoff, hu, hd⟩
  · exact ⟨_, judgeIgnition_of_steady true hon, hp, hw, hon, rfl, rfl⟩
  · refine ⟨{ (s.withReading true).power with ignitionOn := true, restartWanted := true }, ?_, hp, rfl, rfl, rfl, rfl⟩
    rw [judgeIgnition_of_high hoff hu hd]
    simp [ignitionOn, State.withReading, State.onPower, hp]

/-- In RUN an ignition judged off begins SETTLE, and the implement's functions return (R36, R167). -/
theorem ignitionOff_run (hp : s.power.power = .run) : ignitionOff s = returnAtShutdown
    { s with power := { s.power with power := .settle, settleStart := s.now, ignitionOn := false } } := by
  simp [ignitionOff, State.onPower, hp]

/-- In SETTLE an ignition judged on goes back to RUN, in which a neutral start is due (R61, R168). -/
theorem ignitionOn_settle (hp : s.power.power = .settle) : ignitionOn s =
    { s with power := { s.power with power := .run, ignitionOn := true }, seq := { s.seq with neutralStartOk := false } } := by
  simp [ignitionOn, State.onPower, State.onSeq, hp]

/-- In OFF an ignition judged on opens the strap window (R168). -/
theorem ignitionOn_off (hp : s.power.power = .off) :
    ignitionOn s = openWindow (s.onPower (fun p => { p with ignitionOn := true })) := by
  simp [ignitionOn, State.onPower, hp]

end

/-! ### The ends of SETTLE and FLUSH (R167, R168) -/

section
variable {rbs : List ReadBack} {s : State}

theorem judgePhase_run (hp : s.power.power = .run) : judgePhase rbs s = s := by simp [judgePhase, hp]

theorem judgePhase_off (hp : s.power.power = .off) : judgePhase rbs s = s := by simp [judgePhase, hp]

theorem judgePhase_settle_ends (hp : s.power.power = .settle)
    (h : s.speed.set.vGround < 50 ∨ s.power.settleStart + 2000 ≤ s.now) : judgePhase rbs s = beginFlush s := by
  simp [judgePhase, hp, h]

theorem judgePhase_settle_lasts (hp : s.power.power = .settle) (hv : 50 ≤ s.speed.set.vGround)
    (hd : s.now < s.power.settleStart + 2000) : judgePhase rbs s = s := by
  simp [judgePhase, hp, Nat.not_lt.mpr hv, Nat.not_le.mpr hd]

theorem judgePhase_flush_lasts (hp : s.power.power = .flush) (hd : s.now < s.power.flushStart + 500) :
    judgePhase rbs s = s := by simp [judgePhase, hp, Nat.not_le.mpr hd]

theorem judgePhase_flush_ends (hp : s.power.power = .flush) (hd : s.power.flushStart + 500 ≤ s.now) :
    judgePhase rbs s = endFlush rbs s := by simp [judgePhase, hp, hd]

/-- FLUSH begins at its step, whatever the store hands (R93, R167). -/
theorem beginFlush_power : (beginFlush s).power =
    { s.power with power := .flush, flushStart := s.now, restartWanted := false } := by
  simp [beginFlush, State.onPower]

/-- FLUSH without a restart wanted ends in OFF with every coil off (R85, R168). -/
theorem endFlush_off (h : s.power.restartWanted = false) : (endFlush rbs s).power.power = .off ∧
    (endFlush rbs s).power.hold = false ∧ ∀ i, (s.chan.channels.get i).state ≠ .parked →
      ((endFlush rbs s).chan.channels.get i).state = .off ∧ ((endFlush rbs s).chan.channels.get i).commanded = 0 := by
  simp +contextual [endFlush, h, State.onPower, State.channelsOff]

end

end Sys2Proof.Machine

/-! ### The obligation -/

namespace Sys2Proof.Proofs

/-- Settles O47: the ignition's reading is one of five, and the phase ends with the step or lasts. -/
theorem powerStepMoves : Obligations.PowerStepMoves := by
  intro s dt u rbs hlife
  set v := s.advance dt with hv
  refine ⟨⟨_, exec_powerStep_of_on dt false rbs hlife, fun hp hi hl hd => ?_, fun hp hi hl hd => ?_, fun hp hi => ?_,
    fun hp h => ?_⟩, ⟨_, exec_powerStep_of_on dt true rbs hlife, fun hp hi hh hd => ?_, fun hp h => ?_,
    fun hp hi hh hd => ?_⟩⟩
  · rw [powerStep_of_moved ((judgeIgnition_of_low (s := v) hi hl hd).trans (ignitionOff_run hp))
      (by simp [show v.power.power = .run from hp])]
    have hpass := refuseStep_returnsFrom (· = .impl) .notPermitted
    refine ⟨by simp, by simp; rfl, by simp, fun f hf => ?_, by simp; rfl, by simp; rfl, by simp; rfl⟩
    rw [returnAtShutdown_eq]
    exact ⟨hpass.foldl_ne_impl delegableFuncs_nodup rfl hf _, hpass.foldl_pendingSince delegableFuncs_nodup hf _⟩
  · rw [powerStep_of_kept (judgeIgnition_of_low_early (s := v) hi hl hd) rfl,
      judgePhase_run (show (v.withReading false).power.power = .run from hp)]
    exact ⟨rfl, hp⟩
  · rw [powerStep_of_kept (judgeIgnition_of_steady (s := v) false hi) rfl]
    refine ⟨fun h => ?_, fun hvg hd => ?_⟩
    · rw [judgePhase_settle_ends (s := v.withReading false) hp h, beginFlush_power]
      exact ⟨rfl, rfl⟩
    · rw [judgePhase_settle_lasts (s := v.withReading false) hp hvg hd]
      exact ⟨rfl, hp⟩
  · obtain ⟨p, hjudge, hflush, hwant, hign, hstart⟩ := judgeIgnition_flush_off (s := v) hp h
    rw [powerStep_of_kept hjudge (hflush.trans hp.symm)]
    refine ⟨fun hd => ?_, fun hd => ?_⟩
    · rw [judgePhase_flush_lasts (s := { v with power := p }) hflush (hstart ▸ hd)]
      exact ⟨hflush, hwant, hign, rfl⟩
    · rw [judgePhase_flush_ends (s := { v with power := p }) hflush (hstart ▸ hd)]
      exact endFlush_off (s := { v with power := p }) hwant
  · rw [powerStep_of_moved ((judgeIgnition_of_high (s := v) hi hh hd).trans (ignitionOn_settle hp))
      (by rw [show v.power.power = .settle from hp]; simp)]
    exact ⟨rfl, rfl, rfl, rfl, rfl⟩
  · obtain ⟨p, hjudge, hflush, hwant, hign, hstart, hhold⟩ := judgeIgnition_flush_on (s := v) hp h
    rw [powerStep_of_kept hjudge (hflush.trans hp.symm)]
    refine ⟨fun hd => ?_, fun hd => ?_⟩
    · rw [judgePhase_flush_lasts (s := { v with power := p }) hflush (hstart ▸ hd)]
      exact ⟨hflush, hwant, hign, hhold, rfl⟩
    · rw [judgePhase_flush_ends (s := { v with power := p }) hflush (hstart ▸ hd), endFlush, if_pos hwant]
      exact softRestart_restartedFrom rbs { v with power := p }
  · have hstep := powerStep_of_kept (rbs := rbs) ((judgeIgnition_of_high (s := v) hi hh hd).trans (ignitionOn_off hp)) rfl
    rw [hstep.trans (judgePhase_off hp)]
    exact ⟨rfl, rfl⟩

end Sys2Proof.Proofs
end

section
/-! PROOFS. The ends of UNLOCKED (R30, R98, R185 to R187): the functions of the service tool return, a calibration run under
it fails short of WRITE, and the four ways in which that comes about. -/

open Sys2Proof Sys2Proof.Machine

namespace Sys2Proof.Machine

/-! ### What returns from service (R30) -/

/-- A run short of WRITE (R98). -/
def Run.early (r : Run) : Prop := r.phase = .prepare ∨ r.phase = .kissSearch ∨ r.phase = .fillSearch

theorem State.abortRun_of_early {s : State} (r : RunReason) (h : s.run.early) : (s.abortRun r).run =
    { s.run with phase := .failed, reason := some r, kiss := none, named := 0, namedOthers := 0, entered := s.now } := by
  rcases h with h | h | h <;> simp [State.abortRun, State.endRun, h]

theorem State.abortRun_of_not_early {s : State} (r : RunReason) (h : ¬ s.run.early) : s.abortRun r = s := by
  unfold State.abortRun
  split
  · next hp => exact absurd (.inl hp) h
  · next hp => exact absurd (.inr (.inl hp)) h
  · next hp => exact absurd (.inr (.inr hp)) h
  · rfl

/-- An abort depends on the run and the time. -/
theorem State.abortRun_run_congr {s t : State} (r : RunReason) (hrun : t.run = s.run) (hnow : t.now = s.now) :
    (t.abortRun r).run = (s.abortRun r).run := by
  by_cases h : s.run.early
  · rw [State.abortRun_of_early r h, State.abortRun_of_early r (hrun ▸ h), hrun, hnow]
  · rw [State.abortRun_of_not_early r h, State.abortRun_of_not_early r (hrun ▸ h), hrun]

/-- What the end of UNLOCKED leaves: no word taken, the functions of SVC at their targets, and of a run under SVC one that
has failed with CALIB_LOST, or is in WRITE or past it (R30, R98). -/
def State.ServiceEnded (s t : State) : Prop :=
  t.svc.unlock = .locked ∧ t.svc.words = [] ∧ (∀ f, s.holder f = .svc → t.holder f = s.target f) ∧
    (s.holder .calib = .svc → s.run.early → t.run.phase = .failed ∧ t.run.reason = some .calibLost ∧ t.run.kiss = none ∧
      t.run.named = 0 ∧ t.run.namedOthers = 0) ∧
    (s.holder .calib ≠ .svc ∨ ¬ s.run.early → t.run = s.run)

/-- The end depends on the table, the run and the targets it finds, and on the table, the run and the line it leaves. -/
theorem State.ServiceEnded.congr {r s t u : State} (h : s.ServiceEnded t) (hauth : r.auth = s.auth) (hrun : r.run = s.run)
    (htarget : ∀ f, r.target f = s.target f) (hauth' : u.auth = t.auth) (hrun' : u.run = t.run)
    (hunlock : u.svc.unlock = t.svc.unlock) (hwords : u.svc.words = t.svc.words) : r.ServiceEnded u := by
  unfold State.ServiceEnded State.holder at h ⊢
  simp only [hauth, hrun, htarget, hauth', hrun', hunlock, hwords]
  exact h

/-- The return of one function from service. -/
def leaveService (s : State) (f : Func) : State := if s.holder f = .svc then s.setHolder f (s.target f) else s

theorem leaveService_actsOn (s : State) (f : Func) : s.ActsOn f (leaveService s f) := by
  unfold leaveService
  split
  · exact s.setHolder_actsOn f _
  · exact .refl f s

/-- Only CALIB has a run under it. -/
theorem leaveService_run (s : State) {f : Func} (hf : f ≠ .calib) : (leaveService s f).run = s.run := by
  unfold leaveService
  split
  · exact (s.setHolder_frame_run f _ hf).2
  · rfl

/-- CALIB leaves SVC with its run aborted. -/
theorem leaveService_calib_run {s : State} (h : s.holder .calib = .svc) :
    (leaveService s .calib).run = (s.abortRun .calibLost).run := by
  have hne : s.holder .calib ≠ s.target .calib := by rw [h]; exact (s.target_ne_svc .calib).symm
  rw [leaveService, if_pos h, State.setHolder]
  rw [if_neg (show ¬ (s.auth.table.get .calib).holder = s.target .calib from hne), State.holderMoved]
  dsimp only
  rw [if_pos (show (s.auth.table.get .calib).holder = .svc from h)]
  exact State.abortRun_run_congr _ rfl rfl

theorem returnFromService_eq (s : State) : returnFromService s = allFuncs.foldl leaveService s := rfl

/-- CALIB returns last (R17). -/
theorem returnFromService_calib_last (s : State) : returnFromService s =
    leaveService ([Func.gear, .speed, .axle, .hitchSet, .hitchLift].foldl leaveService s) .calib := by
  rw [returnFromService_eq, show allFuncs = [Func.gear, .speed, .axle, .hitchSet, .hitchLift] ++ [.calib] from rfl,
    List.foldl_append, List.foldl_cons, List.foldl_nil]

theorem returnFromService_holder {s : State} {f : Func} (h : s.holder f = .svc) :
    (returnFromService s).holder f = s.target f := by
  obtain ⟨t, hbefore, hafter⟩ := State.AlikeFor.foldl_turn leaveService_actsOn allFuncs_nodup (mem_allFuncs f) s
  have hheld : t.holder f = .svc := (congrArg AuthEntry.holder hbefore.entry).trans h
  rw [returnFromService_eq, State.holder, hafter.entry, leaveService, if_pos hheld, State.setHolder_entry,
    AuthEntry.movedTo_holder, hbefore.toReadsAlike.target]

theorem returnFromService_run (s : State) : (returnFromService s).run =
    if s.holder .calib = .svc then (s.abortRun .calibLost).run else s.run := by
  set w := [Func.gear, .speed, .axle, .hitchSet, .hitchLift].foldl leaveService s with hw
  have halike : s.AlikeFor .calib w := State.AlikeFor.foldl_of_notMem leaveService_actsOn (by decide) s
  have hheld : w.holder .calib = s.holder .calib := congrArg AuthEntry.holder halike.entry
  have hrun : w.run = s.run := foldl_keeps (fun t => t.run = s.run) _ _ _ rfl fun t f hf ht =>
    (leaveService_run t (by rintro rfl; simp at hf)).trans ht
  rw [returnFromService_calib_last, ← hw]
  split
  · next h => rw [leaveService_calib_run (hheld.trans h), State.abortRun_run_congr _ hrun halike.now]
  · next h => rw [leaveService, if_neg (fun hc => h (hheld.symm.trans hc)), hrun]

/-- UNLOCKED ends with the return from service. -/
theorem returnFromService_ends {s : State} (hl : s.svc.unlock = .locked) (hw : s.svc.words = []) :
    s.ServiceEnded (returnFromService s) := by
  have hrun := returnFromService_run s
  refine ⟨by simpa using hl, by simpa using hw, fun f => returnFromService_holder, fun hc he => ?_, fun h => ?_⟩
  · rw [hrun, if_pos hc, State.abortRun_of_early _ he]
    exact ⟨rfl, rfl, rfl, rfl, rfl⟩
  · rw [hrun]
    split
    · next hc => rw [State.abortRun_of_not_early _ (h.resolve_left (not_not.mpr hc))]
    · rfl

/-! ### The ends of UNLOCKED (R185 to R187) -/

theorem toLocked_svc (s : State) : (toLocked s).svc = { s.svc with unlock := .locked, words := [] } := by
  unfold toLocked
  dsimp only
  split <;> simp

theorem toLocked_ends {s : State} (h : s.svc.unlock = .unlocked) : s.ServiceEnded (toLocked s) := by
  have hend := returnFromService_ends (s := s.onSvc fun v => { v with unlock := .locked, words := [] }) rfl rfl
  rw [toLocked, if_pos h]
  exact hend

/-! ### CANCEL, LOCK, silence and the SYNC block -/

section
variable {s : State} {dt : Nat} (hrun : s.running = true)
include hrun

theorem exec_cancel_of_frame (h : s.svc.frame = some .cancel) : exec (.cancel dt) s = .next (judgeCancel (s.advance dt)) := by
  rw [exec_of_running rfl hrun, withFrame, State.advance_svc, h]; rfl

theorem exec_lock_of_frame (h : s.svc.frame = some .lock) : exec (.lock dt) s = .next (judgeLock (s.advance dt)) := by
  rw [exec_of_running rfl hrun, withFrame, State.advance_svc, h]; rfl

end

section
variable {s : State}

theorem judgeCancel_of_strap (h : s.build.serviceStrap = true) : judgeCancel s = s.answerRefused .notPermitted := if_pos h

theorem judgeCancel_of_no_strap (h : s.build.serviceStrap = false) : judgeCancel s = (toLocked s).answerResult none := by
  simp [judgeCancel, h]

theorem judgeLock_of_strap (h : s.build.serviceStrap = true) : judgeLock s = s.answerRefused .notPermitted := if_pos h

theorem judgeLock_of_no_strap (h : s.build.serviceStrap = false) :
    judgeLock s = (if s.svc.unlock = .unlocked then toLocked s else s).answerResult none := by simp [judgeLock, h]

theorem silenceExpiry_of_due {u : Nat} (h : s.svc.silence = some u) (hd : u ≤ s.now) (hs : s.build.serviceStrap = false) :
    silenceExpiry s = (toLocked s).onSvc (fun v => { v with silence := none }) := by
  simp [silenceExpiry, passed, h, hd, hs]

theorem silenceExpiry_of_early {u : Nat} (h : s.svc.silence = some u) (hd : s.now < u) : silenceExpiry s = s := by
  simp [silenceExpiry, passed, h, Nat.not_le.mpr hd]

theorem silenceExpiry_of_none (h : s.svc.silence = none ∨ s.build.serviceStrap = true) : silenceExpiry s = s := by
  rcases h with h | h <;> simp [silenceExpiry, passed, h]

theorem syncBlockExpiry_of_due {u : Nat} (h : s.svc.syncBlock = some u) (hd : u + 10000 ≤ s.now) :
    syncBlockExpiry s = { s with svc := { s.svc with syncBlock := none } } := by
  simp [syncBlockExpiry, passed, h, hd]; rfl

theorem syncBlockExpiry_of_early {u : Nat} (h : s.svc.syncBlock = some u) (hd : s.now < u + 10000) :
    syncBlockExpiry s = s := by simp [syncBlockExpiry, passed, h, Nat.not_le.mpr hd]

theorem syncBlockExpiry_of_none (h : s.svc.syncBlock = none) : syncBlockExpiry s = s := by
  simp [syncBlockExpiry, passed, h]

/-- An answer, or any other change of the line that leaves its lock, leaves an end of UNLOCKED. -/
theorem State.ServiceEnded.onSvc {t : State} (h : s.ServiceEnded t) {f : SvcState → SvcState}
    (hunlock : (f t.svc).unlock = t.svc.unlock) (hwords : (f t.svc).words = t.svc.words) : s.ServiceEnded (t.onSvc f) :=
  h.congr rfl rfl (fun _ => rfl) rfl rfl hunlock hwords

end

/-! ### Movement (R186) -/

/-- A published v_ground of 100 or more locks an UNLOCKED line outside strap service (R186). -/
theorem publishSpeed_locks {s : State} (hl : s.svc.unlock = .unlocked) (hs : s.build.serviceStrap = false)
    (hv : 100 ≤ s.speed.set.vGround) : s.ServiceEnded (publishSpeed s) ∧ (publishSpeed s).svc.answer = s.svc.answer := by
  set t := s.judgeBrakeEngagement.judgeDrop with ht
  have hlock : t.svc.unlock = .unlocked ∧ t.build.serviceStrap = false ∧ 100 ≤ t.speed.set.vGround := by
    simp [ht, hl, hs, hv]
  have heq : publishSpeed s = returnFromService (t.onSvc fun v => { v with unlock := .locked, words := [] }) :=
    if_pos hlock
  have hend := returnFromService_ends (s := t.onSvc fun v => { v with unlock := .locked, words := [] }) rfl rfl
  rw [heq]
  refine ⟨hend.congr (by simp [ht, State.onSvc]) (by simp [ht, State.onSvc])
    (State.target_congr (by simp [ht, State.onSvc]) (by simp [ht, State.onSvc])) rfl rfl rfl rfl, ?_⟩
  simp [ht, State.onSvc]

/-- Any other publication leaves the line and the run. -/
theorem publishSpeed_of_not_locking {s : State}
    (h : s.svc.unlock ≠ .unlocked ∨ s.build.serviceStrap = true ∨ s.speed.set.vGround < 100) :
    (publishSpeed s).svc = s.svc ∧ (publishSpeed s).run = s.run := by
  have hno : ¬ (s.judgeBrakeEngagement.judgeDrop.svc.unlock = .unlocked ∧
      s.judgeBrakeEngagement.judgeDrop.build.serviceStrap = false ∧
      100 ≤ s.judgeBrakeEngagement.judgeDrop.speed.set.vGround) := by
    rintro ⟨hl, hs, hv⟩
    simp only [State.judgeDrop_frame, State.judgeBrakeEngagement_frame] at hl hs hv
    rcases h with h | h | h
    · exact h hl
    · simp [h] at hs
    · omega
  have heq : publishSpeed s = s.judgeBrakeEngagement.judgeDrop := if_neg hno
  simp [heq]

/-- A verdict on a fault that closes no gate and that no block reacts to at once leaves authority (R157). -/
theorem State.report_auth (s : State) {c : FaultCode} (v : Verdict) (hg : gatesOf c none = [])
    (h3 : c ≠ .vehicleLinkLost) (h4 : c ≠ .trailerSupplyLost) : (s.report c v).auth = s.auth := by
  cases v with
  | quiet => rfl
  | raise => exact (s.raise_quiet c none hg h3 h4).1
  | clear => simp [State.report]

/-- A sample ends with a publication on a state whose authority, run, line and calibration are as they were. -/
theorem speedSample_publishes (pedal : Nat) (s : State) : ∃ t : State, t.auth = s.auth ∧ t.run = s.run ∧ t.svc = s.svc ∧
    t.build = s.build ∧ t.store = s.store ∧ speedSample pedal s = publishSpeed t := by
  have hstages : speedSample pedal s =
      publishSpeed (((({ s with free := (speedSample pedal s).free, speed := (speedSample pedal s).speed }).report
        .engineReportLost (engineVerdict s)).report .radarImplausible
          (moveRadar s.now (speedSample pedal s).radarReading (speedSample pedal s).speed.set.vWheel s.speed.radar).2).report
        .speedSensor (sensorCheck s pedal (speedSample pedal s).speed.capInput.reading
          (speedSample pedal s).speed.capOutput.reading).2) := by
    rw [State.report_engineVerdict]
    simp [State.radarReading, speedSample, apply_ite State.speed, apply_ite State.build, apply_ite State.free]
  refine ⟨_, ?_, ?_, ?_, ?_, ?_, hstages⟩
  · rw [State.report_auth _ _ rfl (by decide) (by decide), State.report_auth _ _ rfl (by decide) (by decide),
      State.report_auth _ _ rfl (by decide) (by decide)]
  all_goals simp

end Sys2Proof.Machine

/-! ### The obligation -/

namespace Sys2Proof.Proofs

/-- Settles O57: each way ends in the one return from service, or changes nothing. -/
theorem unlockedEnds : Obligations.UnlockedEnds := by
  intro s dt hrun early ended
  set u := s.advance dt with hu
  refine ⟨fun hframe => ⟨_, exec_cancel_of_frame hrun hframe, fun hs => ?_, fun hs => ?_⟩,
    fun hframe => ⟨_, exec_lock_of_frame hrun hframe, fun hs => ?_, fun hs => ?_⟩,
    ⟨_, exec_of_running rfl hrun, fun e he hd hs => ?_, fun e he hd => silenceExpiry_of_early (s := u) he hd,
      silenceExpiry_of_none (s := u)⟩,
    fun pedal => ⟨_, exec_of_running rfl hrun, fun hl hs hv => ?_, fun h => ?_⟩,
    ⟨_, exec_of_running rfl hrun, fun e he hd => syncBlockExpiry_of_due (s := u) he hd,
      fun e he hd => syncBlockExpiry_of_early (s := u) he hd, syncBlockExpiry_of_none (s := u)⟩⟩
  · rw [judgeCancel_of_strap (s := u) hs]
    exact ⟨u.answeredRefused_of_answerRefused .notPermitted, rfl, rfl⟩
  · rw [judgeCancel_of_no_strap (s := u) hs]
    refine ⟨State.answeredOk_of_answerResult _, ?_, ?_, fun hl => (toLocked_ends (s := u) hl).onSvc rfl rfl⟩
    · exact congrArg SvcState.unlock (toLocked_svc u)
    · exact congrArg SvcState.words (toLocked_svc u)
  · rw [judgeLock_of_strap (s := u) hs]
    exact ⟨u.answeredRefused_of_answerRefused .notPermitted, rfl, rfl⟩
  · rw [judgeLock_of_no_strap (s := u) hs]
    refine ⟨State.answeredOk_of_answerResult _, fun hl => ?_, fun hl => ?_⟩
    · rw [if_pos (show u.svc.unlock = .unlocked from hl)]
      exact (toLocked_ends (s := u) hl).onSvc rfl rfl
    · rw [if_neg (show ¬ u.svc.unlock = .unlocked from hl)]
      exact ⟨rfl, rfl⟩
  · rw [silenceExpiry_of_due (s := u) he hd hs]
    exact ⟨(congrArg SvcState.unlock (toLocked_svc u) :), (congrArg SvcState.answer (toLocked_svc u) :),
      fun hl => (toLocked_ends (s := u) hl).onSvc rfl rfl⟩
  · obtain ⟨t, hauth, hrun', hsvc, hbuild, hstore, heq⟩ := speedSample_publishes pedal u
    have hspeed : (publishSpeed t).speed = t.speed := by simp
    rw [heq, hspeed] at hv
    obtain ⟨hend, hanswer⟩ := publishSpeed_locks (s := t) (by rw [hsvc]; exact hl) (by rw [hbuild]; exact hs) hv
    rw [heq]
    exact ⟨hend.congr hauth.symm hrun'.symm (State.target_congr hstore.symm hbuild.symm) rfl rfl rfl rfl,
      hanswer.trans (congrArg SvcState.answer hsvc)⟩
  · obtain ⟨t, hauth, hrun', hsvc, hbuild, hstore, heq⟩ := speedSample_publishes pedal u
    have hspeed : (publishSpeed t).speed = t.speed := by simp
    rw [heq, hspeed] at h
    obtain ⟨hline, hkept⟩ := publishSpeed_of_not_locking (s := t) (by rw [hsvc, hbuild]; exact h)
    rw [heq]
    exact ⟨hline.trans hsvc, hkept.trans hrun'⟩

end Sys2Proof.Proofs
end

section
/-! PROOFS. The Shift Sequencer's operations (03): what each leaves of the sequencer's records. While a shift runs, its
phases move the clutches, the progress of the shift record and the draft hold, and nothing else (`SeqState.course`). -/

open Sys2Proof Sys2Proof.Machine

namespace Sys2Proof.Machine

/-! ### The course of the sequencer -/

/-- What a shift record keeps while the shift runs: all but its phase and what the phases count and note. -/
def ShiftRec.plan (r : ShiftRec) : ShiftRec :=
  { r with
    phase := .finish, lockCount := 0, torque := none, torqueBegun := false, degraded := false, eligible := false
    downSteps := 0, fullAt := none }

/-- The Shift Sequencer's records without what the phases of a shift and the pedal move: the clutches, the progress of the
shift in flight, the draft hold and the mark of a re-engagement. -/
def SeqState.course (q : SeqState) : SeqState :=
  { q with
    clutches := everyClutch { state := .vented }, shift := q.shift.map ShiftRec.plan, draftHold := false, draftEnd := none
    reengaged := false }

/-- Records that agree but for the clutches have one course. -/
theorem SeqState.course_of_besides {q p : SeqState} (h : p.besides = q.besides) : p.course = q.course :=
  congrArg (fun x => { SeqState.course x with clutches := everyClutch { state := .vented } }) h

/-- A change of the shift record that keeps its plan keeps the course. -/
theorem State.onShift_course (s : State) (f : ShiftRec → ShiftRec) (hf : ∀ r, (f r).plan = r.plan) :
    (s.onShift f).seq.course = s.seq.course := by
  simp only [State.onShift, State.onSeq_seq, SeqState.course, Option.map_map]
  congr 2
  exact funext hf

section
variable (s : State)

/-! ### Clutches (R38) -/

@[simp] theorem State.fill_course (c : Clutch) : (s.fill c).seq.course = s.seq.course := rfl
@[simp] theorem State.release_course (c : Clutch) : (s.release c).seq.course = s.seq.course := rfl
@[simp] theorem State.applyAt_course (c : Clutch) (p : Nat) : (s.applyAt c p).seq.course = s.seq.course := rfl
@[simp] theorem State.rampAt_course (c : Clutch) (p : Nat) : (s.rampAt c p).seq.course = s.seq.course := rfl
@[simp] theorem ventStage_course : (ventStage s).seq.course = s.seq.course := rfl

/-- A fold of operations that keep the course keeps it. -/
theorem foldl_course {op : State → Clutch → State} (hop : ∀ s c, (op s c).seq.course = s.seq.course) (l : List Clutch) :
    (l.foldl op s).seq.course = s.seq.course :=
  foldl_keeps (fun t : State => t.seq.course = s.seq.course) op l s rfl (fun t c _ ht => (hop t c).trans ht)

@[simp] theorem State.releaseEach_course (l : List Clutch) : (s.releaseEach l).seq.course = s.seq.course :=
  foldl_course s State.release_course l

@[simp] theorem State.fillEach_course (l : List Clutch) : (s.fillEach l).seq.course = s.seq.course :=
  foldl_course s State.fill_course l

@[simp] theorem State.applyEach_course (l : List Clutch) : (s.applyEach l).seq.course = s.seq.course :=
  foldl_course s (fun s c => s.applyAt_course c 2000) l

@[simp] theorem State.applyFilled_course (l : List Clutch) : (s.applyFilled l).seq.course = s.seq.course :=
  s.applyEach_course _

/-! ### The torque part and the marks of the shift record (R46, R54, R56) -/

@[simp] theorem State.setPhase_course (p : Phase) : (s.setPhase p).seq.course = s.seq.course :=
  s.onShift_course _ fun _ => rfl

@[simp] theorem beginTorque_course : (beginTorque s).seq.course = s.seq.course := s.onShift_course _ fun _ => rfl

@[simp] theorem endTorque_course : (endTorque s).seq.course = s.seq.course := by
  unfold endTorque
  repeat' split
  · rfl
  · rfl
  · simp only [State.emptyMail_frame]
    exact s.onShift_course _ fun _ => rfl

@[simp] theorem handshake_course : (handshake s).seq.course = s.seq.course := by
  refine s.onShift_course _ fun r => ?_
  split <;> rfl

@[simp] theorem enterFinish_course : (enterFinish s).seq.course = s.seq.course :=
  Eq.trans (State.onShift_course _ _ fun _ => rfl) (endTorque_course s)

@[simp] theorem rise_course (c : Clutch) (r : ShiftRec) : (rise c r s).seq.course = s.seq.course :=
  Eq.trans (State.onShift_course _ _ fun _ => rfl) (s.rampAt_course c _)

@[simp] theorem draftStage_course : (draftStage s).seq.course = s.seq.course := by
  unfold draftStage
  split <;> rfl

@[simp] theorem torqueStage_course : (torqueStage s).seq.course = s.seq.course := by
  unfold torqueStage
  repeat' split
  · simp only [State.placeMail_frame]
    exact s.onShift_course _ fun _ => rfl
  · rfl
  · rfl

/-! ### The phases (R45 to R52) -/

/-- A step of a ramp keeps the course where what follows the ramp does. -/
theorem rampStep_course (c : Clutch) (r : ShiftRec) {ends : Bool → State → State}
    (hends : ∀ lock t, (ends lock t).seq.course = t.seq.course) : (rampStep c r ends s).seq.course = s.seq.course := by
  have hcount (n : Nat) : ((rise c r s).onShift (fun r => { r with lockCount := n })).seq.course = s.seq.course :=
    Eq.trans (State.onShift_course _ _ fun _ => rfl) (rise_course s c r)
  unfold rampStep
  dsimp only
  generalize lockCountNow r s = n
  exact iteInduction (motive := fun t : State => t.seq.course = s.seq.course) (fun _ => (hends ..).trans (hcount n))
    fun _ => iteInduction (motive := fun t : State => t.seq.course = s.seq.course)
      (fun _ => (hends ..).trans (hcount n)) fun _ => hcount n

@[simp] theorem prefillStep_course : (prefillStep s).seq.course = s.seq.course := by
  unfold prefillStep
  dsimp only
  split <;> simp

@[simp] theorem overlapStep_course (r : ShiftRec) : (overlapStep r s).seq.course = s.seq.course := by
  refine (rampStep_course _ _ r fun lock t => ?_).trans (by simp)
  simp

@[simp] theorem dirDownStep_course (r : ShiftRec) : (dirDownStep r s).seq.course = s.seq.course := by
  have hdown (c : Clutch) (p k : Nat) :
      ((s.applyAt c p).onShift (fun r => { r with downSteps := k })).seq.course = s.seq.course :=
    State.onShift_course _ _ fun _ => rfl
  unfold dirDownStep
  dsimp only
  split
  · simp only [State.setPhase_course, State.fillEach_course, State.releaseEach_course, hdown]
  · exact hdown ..

@[simp] theorem enterDirRamp_course : (enterDirRamp s).seq.course = s.seq.course := by simp [enterDirRamp]

@[simp] theorem swapFillStep_course (r : ShiftRec) : (swapFillStep r s).seq.course = s.seq.course := by
  unfold swapFillStep
  dsimp only
  split <;> simp

@[simp] theorem dirRampStep_course (r : ShiftRec) : (dirRampStep r s).seq.course = s.seq.course :=
  rampStep_course _ _ r fun _ _ => by simp

@[simp] theorem leaveDirRelease_course : (leaveDirRelease s).seq.course = s.seq.course := by
  unfold leaveDirRelease
  split <;> simp

@[simp] theorem dirReleaseStep_course (r : ShiftRec) : (dirReleaseStep r s).seq.course = s.seq.course := by
  simp [dirReleaseStep]

@[simp] theorem leaveReversal_course : (leaveReversal s).seq.course = s.seq.course := by
  unfold leaveReversal
  split <;> simp

@[simp] theorem dirFillStep_course (r : ShiftRec) : (dirFillStep r s).seq.course = s.seq.course := by
  unfold dirFillStep
  dsimp only
  repeat' split
  all_goals simp

@[simp] theorem reversalStep_course (r : ShiftRec) : (reversalStep r s).seq.course = s.seq.course := by
  simp [reversalStep]

/-- A phase other than FINISH keeps the course. -/
theorem phaseStep_course {r : ShiftRec} (h : r.phase ≠ .finish) : (phaseStep r s).seq.course = s.seq.course := by
  unfold phaseStep
  split
  case h_9 hp => exact absurd hp h
  all_goals simp

@[simp] theorem firstPhase_course (r : ShiftRec) : (firstPhase r s).seq.course = s.seq.course := by
  unfold firstPhase
  split
  · simp
  · rw [beginTorque_course]; rfl
  · simp only [leaveDirRelease_course, State.fillEach_course, State.releaseEach_course]
    exact s.releaseEach_course _

/-! ### The pedal (R58, R59) -/

@[simp] theorem swapNow_course (c : Clutch) : (swapNow s c).seq.course = s.seq.course := by
  unfold swapNow
  split <;> rfl

@[simp] theorem reengagedStep_course (c : Clutch) (limit : Nat) : (reengagedStep c limit s).seq.course = s.seq.course := by
  unfold reengagedStep
  repeat' split
  all_goals rfl

@[simp] theorem pedalUp_course (pedal : Nat) : (pedalUp pedal s).seq.course = s.seq.course := by
  unfold pedalUp
  dsimp only
  split
  · rfl
  · split
    · exact reengagedStep_course _ _ _
    · rfl

/-- A shift that is declutched is marked so, and nothing else of the course changes (R58). -/
theorem declutch_course (r : ShiftRec) : (declutch r s).seq.course =
    { s.seq.course with shift := s.seq.course.shift.map (fun r => { r with declutched := true }) } := by
  have hswap : ((gearClutches r.onComing).foldl swapNow
      ((endTorque s).releaseEach (gearClutches r.offGoing))).seq.course = s.seq.course := by
    rw [foldl_course _ swapNow_course]; simp
  rw [← hswap]
  simp only [declutch, State.onShift, State.onSeq_seq, SeqState.course, Option.map_map]
  rfl

/-- With the pedal above 900 a shift in flight is marked declutched, and nothing else of the course changes (R58). -/
theorem pedalDown_course : (pedalDown s).seq.course = s.seq.course ∨ (pedalDown s).seq.course =
    { s.seq.course with shift := s.seq.course.shift.map (fun r => { r with declutched := true }) } := by
  have hrelease : ((s.releaseEach [.cf, .cv]).onSeq (fun q => { q with reengaged := false })).seq.course
      = s.seq.course := s.releaseEach_course _
  unfold pedalDown
  dsimp only
  split
  · split
    · exact .inl hrelease
    · exact .inr (by rw [declutch_course, hrelease])
  · exact .inl hrelease

/-! ### Ends of a shift (R54, R55, R60) -/

/-- A shift that is cleared leaves the course but for its record. -/
theorem clearShift_course : (clearShift s).seq.course = { s.seq.course with shift := none } := by
  unfold clearShift
  split
  next hs => simp [SeqState.course, hs]
  · rw [← endTorque_course s]; rfl

/-- The number that stays in N: of the target of the shift in flight, else of the gear, else the neutral number (R60). -/
def SeqState.restNumber (q : SeqState) : Nat :=
  if q.shift.isSome then q.target.num else if q.gear ≠ .neutral then q.gear.num else q.neutralNumber

/-- The neutral reaction leaves N, no shift, no preselect, and a neutral start to be made (R60). -/
theorem neutralReaction_course : (neutralReaction s).seq.course =
    { s.seq.course with
      shift := none, gear := .neutral, target := .neutral, pendingTarget := none, preselect := none
      neutralNumber := s.seq.restNumber, neutralStartOk := false } := by
  exact congrArg (fun q : SeqState => { q with
    gear := .neutral, target := .neutral, pendingTarget := none, preselect := none, neutralNumber := s.seq.restNumber
    neutralStartOk := false }) (clearShift_course s)

/-- A result of adaptation, kept or discarded, keeps the course (R92). -/
@[simp] theorem adaptationOutcome_course (eligible : Bool) :
    (adaptationOutcome eligible s).seq.course = s.seq.course := SeqState.course_of_besides (by simp)

/-- The end of a shift makes the target the gear and promotes the pending target (R54). -/
theorem endShift_course (r : ShiftRec) : (endShift r s).seq.course =
    { s.seq.course with
      shift := none, gear := s.seq.target, lastDir := s.seq.target.dir, preselect := none
      target := s.seq.pendingTarget.getD s.seq.target, pendingTarget := none } := by
  have hend : ((clearShift s).onSeq (fun q => { q with
      gear := q.target, lastDir := q.target.dir, preselect := none, target := q.pendingTarget.getD q.target
      pendingTarget := none })).seq.course = { s.seq.course with
      shift := none, gear := s.seq.target, lastDir := s.seq.target.dir, preselect := none
      target := s.seq.pendingTarget.getD s.seq.target, pendingTarget := none } :=
    congrArg (fun q : SeqState => { q with
      gear := q.target, lastDir := q.target.dir, preselect := none, target := q.pendingTarget.getD q.target
      pendingTarget := none }) (clearShift_course s)
  refine Eq.trans ?_ hend
  unfold endShift
  dsimp only
  repeat' split
  all_goals simp

/-- The timeout marks the shift in flight, and nothing else of the course changes (R55). -/
theorem timeoutShift_course (pedal : Nat) (r : ShiftRec) : (timeoutShift pedal r s).seq.course =
    { s.seq.course with shift := s.seq.course.shift.map (fun r => { r with timedOut := true }) } := by
  have hfinish (on : List Clutch) :
      (enterFinish ((s.applyEach on).releaseEach r.offGoing)).seq.course = s.seq.course := by simp
  unfold timeoutShift
  simp only [State.raise_frame]
  split <;>
  · rw [← hfinish]
    simp only [State.onShift, State.onSeq_seq, SeqState.course, Option.map_map]
    rfl

/-! ### The start of a shift (R44) -/

/-- A shift starts with the record of its kind, declutched with the pedal above 900, and clears the auto timers (R44, R65,
R67). -/
theorem startShift_course (pedal : Nat) : (startShift pedal s).seq.course =
    { s.seq.course with
      shift := some { (newShift pedal s).plan with declutched := decide (900 < pedal) }
      upSince := none, downSince := none, choiceSince := none } := by
  unfold startShift
  dsimp only
  split
  next h => rw [declutch_course]; simp only [h, decide_true]; rfl
  next h => rw [firstPhase_course]; simp only [h, decide_false]; rfl

/-! ### The end of the step (R38, R62) -/

@[simp] theorem runOverride_course (pedal : Nat) : (runOverride pedal s).seq.course = s.seq.course := by
  unfold runOverride
  split
  · rfl
  · split
    · exact foldl_course _ (op := fun s k => s.onSeq (fun q => q.onClutch k (runPressure s.now _))) (fun _ _ => rfl) _
    · rfl

@[simp] theorem commandStage_course (pedal : Nat) : (commandStage pedal s).seq.course = s.seq.course := rfl

end

end Sys2Proof.Machine
end

section
/-! PROOFS. The two laws of the gears (R37, R39, R41, R44, R60, R64): what each asks, and that each operation of the Shift
Sequencer and each command keeps both. -/

open Sys2Proof Sys2Proof.Machine

namespace Sys2Proof.Machine

/-! ### What the two laws ask -/

/-- The gears of a published Gear State are legal, and its direction goes with its gear (R39). -/
structure GearState.Legal (g : GearState) : Prop where
  gear : g.gear.legal = true
  target : g.target.legal = true
  pending : ∀ p, g.pendingTarget = some p → p.legal = true
  direction : g.direction = g.gear.direction

/-- What `SeqState.gearsLegal` asks of the sequencer's records, field by field. -/
structure SeqState.GearsOk (q : SeqState) : Prop where
  headed : q.shift ≠ none → q.target ≠ .neutral
  gear : q.gear.legal = true
  target : q.target.legal = true
  pending : ∀ g, q.pendingTarget = some g → g.legal = true
  preselect : ∀ n, q.preselect = some n → 1 ≤ n ∧ n ≤ 12
  number : 1 ≤ q.neutralNumber ∧ q.neutralNumber ≤ 12
  span : 1 ≤ q.gMin ∧ q.gMin ≤ q.gMax ∧ q.gMax ≤ 12
  published : q.published.Legal

/-- What `SeqState.shiftLegal` asks of the shift in flight. -/
def SeqState.ShiftOk (q : SeqState) : Prop :=
  ∀ r, q.shift = some r → (∀ c ∈ r.offGoing, c ∉ elements q.target) ∧ (r.kind = .simple → q.gear.dir = q.target.dir)

theorem within_iff {lo hi n : Nat} : within lo hi n = true ↔ lo ≤ n ∧ n ≤ hi := by simp [within]

theorem SeqState.gearsLegal_iff (q : SeqState) : q.gearsLegal = true ↔ q.GearsOk := by
  simp only [SeqState.gearsLegal, Bool.and_eq_true, Bool.or_eq_true, Option.isNone_iff_eq_none, decide_eq_true_eq,
    Option.all_eq_true, within_iff]
  constructor
  · rintro ⟨⟨⟨⟨⟨⟨⟨⟨⟨⟨⟨hhead, hgear⟩, htarget⟩, hpend⟩, hpre⟩, hnum⟩, hmin⟩, hmax⟩, hpg⟩, hpt⟩, hpp⟩, hpd⟩
    exact ⟨fun hs => hhead.resolve_left hs, hgear, htarget, hpend, hpre, hnum, ⟨hmin.1, hmax⟩, ⟨hpg, hpt, hpp, hpd⟩⟩
  · rintro ⟨hhead, hgear, htarget, hpend, hpre, hnum, ⟨hmin, hmax, htop⟩, ⟨hpg, hpt, hpp, hpd⟩⟩
    exact ⟨⟨⟨⟨⟨⟨⟨⟨⟨⟨⟨or_iff_not_imp_left.mpr hhead, hgear⟩, htarget⟩, hpend⟩, hpre⟩, hnum⟩, ⟨hmin, hmax.trans htop⟩⟩,
      ⟨hmax, htop⟩⟩, hpg⟩, hpt⟩, hpp⟩, hpd⟩

theorem SeqState.shiftLegal_iff (q : SeqState) : q.shiftLegal = true ↔ q.ShiftOk := by
  simp [SeqState.shiftLegal, SeqState.ShiftOk, Option.all_eq_true, ← imp_iff_not_or]

/-- The gear law reads the course alone. -/
theorem SeqState.gearsOk_course (q : SeqState) : q.course.GearsOk ↔ q.GearsOk := by
  constructor <;> intro h <;> exact { h with headed := fun hs => h.headed (by simpa [SeqState.course] using hs) }

/-- The shift law reads the course alone. -/
theorem SeqState.shiftOk_course (q : SeqState) : q.course.ShiftOk ↔ q.ShiftOk := by
  simp only [SeqState.ShiftOk, SeqState.course, Option.map_eq_some_iff]
  constructor
  · exact fun h r hr => h r.plan ⟨r, hr, rfl⟩
  · rintro h _ ⟨r, hr, rfl⟩
    exact h r hr

/-- Records that keep both laws of other records. -/
structure SeqState.Keeps (q p : SeqState) : Prop where
  gears : q.GearsOk → p.GearsOk
  shift : q.ShiftOk → p.ShiftOk

section
variable {q p : SeqState}

theorem SeqState.Keeps.refl (q : SeqState) : q.Keeps q := ⟨id, id⟩

theorem SeqState.Keeps.trans {o : SeqState} (h : q.Keeps p) (k : p.Keeps o) : q.Keeps o :=
  ⟨k.gears ∘ h.gears, k.shift ∘ h.shift⟩

theorem SeqState.Keeps.of_course (h : p.course = q.course) : q.Keeps p :=
  ⟨by rw [← p.gearsOk_course, h, q.gearsOk_course]; exact id, by rw [← p.shiftOk_course, h, q.shiftOk_course]; exact id⟩

theorem SeqState.Keeps.of_besides (h : p.besides = q.besides) : q.Keeps p := .of_course (SeqState.course_of_besides h)

/-- To keep the laws it is enough that the course does. -/
theorem SeqState.Keeps.to_course {o : SeqState} (h : p.course = o) (k : q.course.Keeps o) : q.Keeps p := by
  subst h
  exact ⟨fun hq => p.gearsOk_course.mp (k.gears (q.gearsOk_course.mpr hq)),
    fun hq => p.shiftOk_course.mp (k.shift (q.shiftOk_course.mpr hq))⟩

/-- With no shift in flight the shift law asks nothing. -/
theorem SeqState.Keeps.of_still (h : p.shift = none) (hg : q.GearsOk → p.GearsOk) : q.Keeps p :=
  ⟨hg, fun _ r hr => absurd (h.symm.trans hr) (by simp)⟩

/-- A mark of the shift in flight beside its kind and its off-going clutches keeps both laws. -/
theorem SeqState.Keeps.mark {f : ShiftRec → ShiftRec} (hk : ∀ r, (f r).kind = r.kind)
    (ho : ∀ r, (f r).offGoing = r.offGoing) : q.Keeps { q with shift := q.shift.map f } := by
  refine ⟨fun h => { h with headed := fun hs => h.headed (by simpa using hs) }, fun h r hr => ?_⟩
  obtain ⟨r, hr', rfl⟩ := Option.map_eq_some_iff.mp hr
  rw [hk, ho]
  exact h r hr'

/-- A choice between two states keeps the laws where both do. -/
theorem SeqState.Keeps.ite {c : Prop} [Decidable c] {t u : State} (ht : q.Keeps t.seq) (hu : q.Keeps u.seq) :
    q.Keeps (if c then t else u).seq := by split <;> assumption

end

/-! ### Legal numbers -/

theorem clamp_between {lo hi : Nat} (h : lo ≤ hi) (n : Nat) : lo ≤ clamp lo hi n ∧ clamp lo hi n ≤ hi := by
  unfold clamp
  repeat' split
  all_goals omega

theorem Gear.num_of_legal {g : Gear} (h : g.legal = true) (hn : g ≠ .neutral) : 1 ≤ g.num ∧ g.num ≤ 12 := by
  cases g with
  | neutral => exact absurd rfl hn
  | fwd n => exact within_iff.mp h
  | rev n => exact ⟨(within_iff.mp h).1, (within_iff.mp h).2.trans (by decide)⟩

/-- A number within the auto span of a direction is that of a legal gear (R64). -/
theorem SeqState.GearsOk.span_legal {q : SeqState} (h : q.GearsOk) (n : Nat) :
    (Gear.fwd (clamp (autoSpan q .fwd).1 (autoSpan q .fwd).2 n)).legal = true ∧
      (Gear.rev (clamp (autoSpan q .rev).1 (autoSpan q .rev).2 n)).legal = true := by
  obtain ⟨hmin, hmax, htop⟩ := h.span
  have hf := clamp_between hmax n
  have hr := clamp_between (show min 8 q.gMin ≤ min 8 q.gMax by omega) n
  simp only [Gear.legal, within_iff, autoSpan]
  omega

/-- A gear number in a direction is clamped to a legal gear (R41, R42). -/
theorem SeqState.GearsOk.gearIn_legal {q : SeqState} (h : q.GearsOk) (d : Dir) (n : Nat) : (gearIn q d n).legal = true := by
  cases d <;> simp only [gearIn] <;> split
  · exact (h.span_legal _).1
  · exact within_iff.mpr (clamp_between (by decide) n)
  · exact (h.span_legal _).2
  · exact within_iff.mpr (clamp_between (by decide) n)

/-- The gear engaged with a number within its span is legal (R64). -/
theorem SeqState.GearsOk.spanNow_legal {q : SeqState} (h : q.GearsOk) (n : Nat) :
    (q.gear.withNum (clamp (spanNow q).1 (spanNow q).2 n)).legal = true := by
  unfold spanNow
  cases hg : q.gear with
  | neutral => rfl
  | fwd k => exact (h.span_legal n).1
  | rev k => exact (h.span_legal n).2

/-! ### Stages 2 to 5 (R40, R43, R58 to R61) -/

section
variable (s : State)

theorem neutralReaction_keeps : s.seq.Keeps (neutralReaction s).seq := by
  refine .to_course (neutralReaction_course s) (.of_still rfl fun h => ?_)
  refine { h with
    headed := fun hs => absurd rfl hs, gear := rfl, target := rfl, pending := by simp, preselect := by simp, number := ?_ }
  have hok := s.seq.gearsOk_course.mp h
  unfold SeqState.restNumber
  split
  next hs => exact Gear.num_of_legal hok.target (hok.headed (Option.isSome_iff_ne_none.mp hs))
  next =>
    split
    next hg => exact Gear.num_of_legal hok.gear hg
    next => exact hok.number

theorem neutralStage_keeps : s.seq.Keeps (neutralStage s).seq := by
  have hreact : s.seq.Keeps (if (causesNow s).newSince s.seq.causes then neutralReaction s else s).seq :=
    .ite (neutralReaction_keeps s) (.refl _)
  refine hreact.trans ?_
  unfold neutralStage
  dsimp only
  generalize (if (causesNow s).newSince s.seq.causes then neutralReaction s else s) = t
  rw [State.onSeq_seq]
  split
  · constructor
    · intro h
      refine { h with headed := ?_, target := ?_, pending := by simp }
      · intro hs
        rw [if_pos (Option.isSome_iff_ne_none.mpr hs)]
        exact h.headed hs
      · dsimp only
        split
        · exact h.target
        · exact h.gear
    · intro h r hr
      have hs : t.seq.shift = some r := hr
      rw [show (if t.seq.shift.isSome then t.seq.target else t.seq.gear) = t.seq.target by simp [hs]]
      exact h r hs
  · exact ⟨fun h => { h with }, fun h => h⟩

theorem neutralStartStage_keeps : s.seq.Keeps (neutralStartStage s).seq := by
  exact .ite ⟨fun h => { h with }, fun h => h⟩ (.refl _)

theorem pedalStage_keeps (pedal : Nat) : s.seq.Keeps (pedalStage pedal s).seq := by
  refine .ite ?_ (.of_course (pedalUp_course s pedal))
  rcases pedalDown_course s with h | h
  · exact .of_course h
  · exact .to_course h (.mark (fun _ => rfl) (fun _ => rfl))

/-- An aborted upshift leaves no shift, and a target that is the gear or a pending gear above it (R43). -/
theorem abortUpshift_keeps (r : ShiftRec) : s.seq.Keeps (abortUpshift r s).seq := by
  have hclutches : (match r.kind with
      | .compound => ((clearShift s).releaseEach (gearClutches r.onComing)).applyAt (dirOf s.seq.gear) 2000
      | _ => ((clearShift s).releaseEach (gearClutches r.onComing)).applyEach (gearClutches r.offGoing)).seq.course
        = { s.seq.course with shift := none } := by
    rw [← clearShift_course]
    split <;> simp
  refine .to_course (congrArg (fun q : SeqState => { q with
    target := match q.pendingTarget with
      | some p => if q.gear.above p then p else q.gear
      | none => q.gear
    pendingTarget := none }) hclutches) (.of_still rfl fun h => ?_)
  have htarget : (match s.seq.pendingTarget with
      | some p => if s.seq.gear.above p then p else s.seq.gear
      | none => s.seq.gear).legal = true := by
    split
    next p hp =>
      split
      · exact h.pending p hp
      · exact h.gear
    · exact h.gear
  exact { h with headed := fun hs => absurd rfl hs, target := htarget, pending := by simp }

theorem inhibitStage_keeps : s.seq.Keeps (inhibitStage s).seq := by
  refine .ite ?_ (.refl _)
  split
  next hs =>
    refine .of_still ?_ fun h => ?_ <;> rw [State.onSeq_seq] <;> split
    · exact hs
    · exact hs
    · exact { h with headed := fun h => absurd hs h, target := h.gear }
    · exact h
  next r hs =>
    have hpending : s.seq.Keeps (s.onSeq (fun q =>
        match q.pendingTarget with
        | some p => if p.above q.target then { q with pendingTarget := none } else q
        | none => q)).seq := by
      rw [State.onSeq_seq]
      split
      · split
        · exact ⟨fun h => { h with pending := by simp }, fun h => h⟩
        · exact .refl _
      · exact .refl _
    exact .ite (hpending.trans (abortUpshift_keeps _ r)) hpending

/-! ### Stages 6 and 7 (R44 to R55) -/

theorem endShift_keeps (r : ShiftRec) : s.seq.Keeps (endShift r s).seq := by
  refine .to_course (endShift_course s r) (.of_still rfl fun h => ?_)
  have htarget : (s.seq.pendingTarget.getD s.seq.target).legal = true := by
    cases hp : s.seq.pendingTarget with
    | none => exact h.target
    | some p => exact h.pending p hp
  exact { h with
    headed := fun hs => absurd rfl hs, gear := h.target, target := htarget, pending := by simp, preselect := by simp }

theorem phaseStep_keeps (r : ShiftRec) : s.seq.Keeps (phaseStep r s).seq := by
  by_cases hp : r.phase = .finish
  · rw [show phaseStep r s = finishStep r s by simp [phaseStep, hp]]
    have hfilled : s.seq.Keeps (if r.declutched then s.applyFilled (gearClutches r.onComing) else s).seq :=
      .ite (.of_course (State.applyFilled_course _ _)) (.refl _)
    exact .ite (hfilled.trans (endShift_keeps _ r)) hfilled
  · exact .of_course (phaseStep_course s hp)

theorem timeoutStage_keeps (pedal : Nat) : s.seq.Keeps (timeoutStage pedal s).seq := by
  unfold timeoutStage
  split
  next r _ =>
    exact .ite (.to_course (timeoutShift_course s pedal r) (.mark (fun _ => rfl) (fun _ => rfl))) (.refl _)
  · exact .refl _

theorem progressStage_keeps (pedal : Nat) : s.seq.Keeps (progressStage pedal s).seq := by
  have hshake : s.seq.Keeps (handshake s).seq := .of_course (handshake_course s)
  unfold progressStage
  dsimp only
  split
  · exact hshake.trans ((phaseStep_keeps _ _).trans (timeoutStage_keeps _ pedal))
  · exact hshake

/-- A shift starts towards a gear, holds off-going no clutch of its target, and is SIMPLE in one direction alone (R44). -/
theorem startStage_keeps (pedal : Nat) (had : Bool) : s.seq.Keeps (startStage pedal had s).seq := by
  unfold startStage
  split
  next hstart =>
    have htarget : s.seq.target ≠ .neutral := by simp_all [mayStart]
    refine .to_course (startShift_course s pedal) ⟨fun h => { h with headed := fun _ => htarget }, fun _ r hr => ?_⟩
    obtain rfl := Option.some.inj hr
    refine ⟨fun c hc => ?_, fun hk => ?_⟩
    · exact of_decide_eq_true (Bool.and_eq_true_iff.mp (List.mem_filter.mp hc).2).2
    · have hkind : kindOf s.seq.gear s.seq.target = .simple := hk
      unfold kindOf at hkind
      split at hkind
      next hd => exact hd
      · simp at hkind
  · exact .refl _

/-! ### Stage 8 (R64 to R67) -/

/-- Records in which auto-shift has set at most a legal target and its own counts. -/
structure SeqState.Retargets (q p : SeqState) : Prop where
  gear : p.gear = q.gear
  shift : p.shift = q.shift
  vTarget : p.vTarget = q.vTarget
  gears : q.GearsOk → p.GearsOk

theorem SeqState.Retargets.refl (q : SeqState) : q.Retargets q := ⟨rfl, rfl, rfl, id⟩

theorem SeqState.Retargets.trans {q p o : SeqState} (h : q.Retargets p) (k : p.Retargets o) : q.Retargets o :=
  ⟨k.gear.trans h.gear, k.shift.trans h.shift, k.vTarget.trans h.vTarget, k.gears ∘ h.gears⟩

theorem SeqState.Retargets.ite {q : SeqState} {c : Prop} [Decidable c] {t u : State} (ht : q.Retargets t.seq)
    (hu : q.Retargets u.seq) : q.Retargets (if c then t else u).seq := by split <;> assumption

variable {s}

theorem autoTarget_retargets {n : Nat} (hs : s.seq.shift = none)
    (hl : s.seq.GearsOk → (s.seq.gear.withNum n).legal = true) : s.seq.Retargets (autoTarget n s).seq := by
  refine ⟨rfl, rfl, rfl, fun h => { h with headed := fun h => absurd hs h, target := ?_ }⟩
  simp only [autoTarget, State.onSeq_seq]
  split
  · exact h.gear
  · exact hl h

theorem spanStep_retargets (hs : s.seq.shift = none) : s.seq.Retargets (spanStep s).seq :=
  .ite (.refl _) (autoTarget_retargets hs fun h => h.spanNow_legal _)

theorem upStep_retargets (hs : s.seq.shift = none) : s.seq.Retargets (upStep s).seq := by
  have hcount : s.seq.Retargets
      (s.onSeq (fun q => { q with upSince := holdSince s.now (decide (q.nUp < s.speed.set.eng)) q.upSince })).seq :=
    ⟨rfl, rfl, rfl, fun h => { h with }⟩
  exact .ite (hcount.trans (autoTarget_retargets hs fun h => h.spanNow_legal _)) hcount

theorem downStep_retargets (hs : s.seq.shift = none) : s.seq.Retargets (downStep s).seq := by
  have hcount : s.seq.Retargets
      (s.onSeq (fun q => { q with downSince := holdSince s.now (decide (s.speed.set.eng < q.nDn)) q.downSince })).seq :=
    ⟨rfl, rfl, rfl, fun h => { h with }⟩
  exact .ite (hcount.trans (autoTarget_retargets hs fun h => h.spanNow_legal _)) hcount

/-- The gear number chosen for a travel speed lies within the span (R67). -/
theorem chosenGear_between {lo hi : Nat} (h : lo ≤ hi) (nUp w v : Nat) :
    lo ≤ chosenGear nUp w lo hi v ∧ chosenGear nUp w lo hi v ≤ hi := by
  unfold chosenGear
  refine foldl_keeps (fun m => lo ≤ m ∧ m ≤ hi) max _ lo ⟨Nat.le_refl _, h⟩ fun m n hn hm => ?_
  have hn' : lo ≤ n ∧ n ≤ hi := within_iff.mp (Bool.and_eq_true_iff.mp (List.mem_filter.mp hn).2).1
  omega

/-- The implement's speed target chooses a forward gear within the span (R67). -/
theorem choiceStep_retargets (hs : s.seq.shift = none) (hv : s.seq.vTarget ≠ none → s.seq.gear.direction = .fwd) :
    s.seq.Retargets (choiceStep s).seq := by
  unfold choiceStep
  split
  · exact ⟨rfl, rfl, rfl, fun h => { h with }⟩
  next v hvt =>
    have hcount : s.seq.Retargets (s.onSeq (fun q => { q with
        choiceSince := holdSince s.now
          (decide (chosenGear s.seq.nUp s.speedCal.w s.seq.gMin s.seq.gMax v ≠ q.gear.num)) q.choiceSince })).seq :=
      ⟨rfl, rfl, rfl, fun h => { h with }⟩
    refine .ite (hcount.trans (autoTarget_retargets hs fun h => ?_)) hcount
    obtain ⟨hmin, hmax, htop⟩ := h.span
    have hn := chosenGear_between hmax s.seq.nUp s.speedCal.w v
    have hdir : s.seq.gear.direction = .fwd := hv (by simp [hvt])
    show (s.seq.gear.withNum _).legal = true
    cases hg : s.seq.gear with
    | neutral => rfl
    | fwd k => exact within_iff.mpr ⟨hmin.trans hn.1, hn.2.trans htop⟩
    | rev k => simp [hg, Gear.direction] at hdir

/-- The values taken from a demand frame are clamped to a legal span (R64). -/
theorem takeAuto_keeps (a : DemandA) (q : SeqState) : q.Keeps (takeAuto a q) := by
  refine ⟨fun h => { h with span := ?_ }, fun h => h⟩
  have hmin := clamp_between (show 1 ≤ 12 by decide) a.gMin
  have hmax := clamp_between (show 1 ≤ 12 by decide) a.gMax
  simp only [takeAuto]
  omega

variable (s)

/-- The state in which auto_mode, span and speeds have been taken from the demand frame (R64). -/
def autoTaken : State :=
  if s.holder .speed = .cab ∧ s.active .vehicleLinkLost = false then
    match s.link.demandA with
    | some c => s.onSeq (takeAuto c.val)
    | none => s
  else s

theorem autoInputs_eq : autoInputs s =
    if (autoTaken s).holder .speed = .impl ∧ (autoTaken s).seq.gear.direction = .fwd then autoTaken s
    else (autoTaken s).onSeq (fun q => { q with vTarget := none, choiceSince := none }) := rfl

theorem autoTaken_keeps : s.seq.Keeps (autoTaken s).seq := by
  refine .ite ?_ (.refl _)
  split
  · exact takeAuto_keeps _ _
  · exact .refl _

theorem autoInputs_keeps : s.seq.Keeps (autoInputs s).seq := by
  have htaken := autoTaken_keeps s
  exact autoInputs_eq s ▸ .ite htaken (htaken.trans ⟨fun h => { h with }, fun h => h⟩)

/-- After the inputs of auto-shift a speed target stands only in a forward gear (R66). -/
theorem autoInputs_vTarget (h : (autoInputs s).seq.vTarget ≠ none) : (autoInputs s).seq.gear.direction = .fwd := by
  rw [autoInputs_eq] at h ⊢
  split at h
  next hd => exact (if_pos hd) ▸ hd.2
  · exact absurd rfl h

/-- Auto-shift becomes armed, or is so (R64). -/
def becomeArmed : State := (if s.seq.armed then s else spanStep s).onSeq (fun q => { q with armed := true })

/-- What auto-shift judges while it is armed, by the holder of SPEED (R65, R67). -/
def autoJudged : State :=
  match s.holder .speed with
  | .cab => downStep (upStep s)
  | .impl => downStep (choiceStep (s.onSeq (fun q => { q with upSince := none })))
  | _ => s.onSeq (fun q => { q with upSince := none, downSince := none, choiceSince := none })

theorem autoStage_of_armed {pedal : Nat} (h : autoArmed pedal (autoInputs s) = true) :
    autoStage pedal s = autoJudged (becomeArmed (autoInputs s)) := if_pos h

theorem autoStage_of_unarmed {pedal : Nat} (h : autoArmed pedal (autoInputs s) = false) : autoStage pedal s =
    (autoInputs s).onSeq (fun q => { q with armed := false, upSince := none, downSince := none, choiceSince := none }) :=
  if_neg (by simp [h])

variable {s}

theorem becomeArmed_retargets (hs : s.seq.shift = none) : s.seq.Retargets (becomeArmed s).seq :=
  (SeqState.Retargets.ite (.refl _) (spanStep_retargets hs)).trans ⟨rfl, rfl, rfl, fun h => { h with }⟩

theorem autoJudged_retargets (hs : s.seq.shift = none) (hv : s.seq.vTarget ≠ none → s.seq.gear.direction = .fwd) :
    s.seq.Retargets (autoJudged s).seq := by
  unfold autoJudged
  split
  · have hup := upStep_retargets hs
    exact hup.trans (downStep_retargets (hup.shift.trans hs))
  · have hchoice : s.seq.Retargets (choiceStep (s.onSeq (fun q => { q with upSince := none }))).seq :=
      SeqState.Retargets.trans (p := { s.seq with upSince := none }) ⟨rfl, rfl, rfl, fun h => { h with }⟩
        (choiceStep_retargets (s := s.onSeq (fun q => { q with upSince := none })) hs hv)
    exact hchoice.trans (downStep_retargets (hchoice.shift.trans hs))
  · exact ⟨rfl, rfl, rfl, fun h => { h with }⟩

variable (s)

theorem autoStage_keeps (pedal : Nat) : s.seq.Keeps (autoStage pedal s).seq := by
  refine (autoInputs_keeps s).trans ?_
  by_cases harmed : autoArmed pedal (autoInputs s) = true
  · rw [autoStage_of_armed s harmed]
    have hs : (autoInputs s).seq.shift = none := by simp_all [autoArmed]
    have harm := becomeArmed_retargets hs
    have hjudged := harm.trans (autoJudged_retargets (harm.shift.trans hs) (by
      rw [harm.vTarget, harm.gear]; exact autoInputs_vTarget s))
    exact .of_still (hjudged.shift.trans hs) hjudged.gears
  · rw [autoStage_of_unarmed s (Bool.not_eq_true _ ▸ harmed)]
    generalize autoInputs s = t
    exact ⟨fun h => { h with }, fun h => h⟩

/-! ### Stages 9 and 10, and the shift step (R38, R39, R62, R63) -/

theorem State.raise_seq (c : FaultCode) (named : Option Group) : (s.raise c named).seq = s.seq := by simp

theorem State.reportInactive_seq (c : FaultCode) : (s.reportInactive c).seq = s.seq := by simp

theorem slipStage_keeps (pedal : Nat) : s.seq.Keeps (slipStage pedal s).seq := by
  have hraise : s.seq.Keeps (neutralReaction (s.raise .clutchSlip none)).seq := by
    simpa only [State.raise_seq] using neutralReaction_keeps (s.raise .clutchSlip none)
  refine .ite ?_ ⟨fun h => { h with }, fun h => h⟩
  rw [State.reportInactive_seq]
  exact hraise.trans ⟨fun h => { h with }, fun h => h⟩

theorem preselectStage_keeps : s.seq.Keeps (preselectStage s).seq :=
  .ite (.refl _) ⟨fun h => { h with preselect := by simp }, fun h => h⟩

theorem demandClutches_keeps : s.seq.Keeps (demandClutches s).seq := .of_besides (by simp)

theorem publishGear_keeps : s.seq.Keeps (publishGear s).seq :=
  ⟨fun h => { h with published := ⟨h.gear, h.target, h.pending, rfl⟩ }, fun h => h⟩

theorem shiftStep_keeps (pedal : Nat) : s.seq.Keeps (shiftStep pedal s).seq := by
  have hvent : s.seq.Keeps (ventStage s).seq := .of_course (ventStage_course s)
  have hearly := ((hvent.trans (neutralStage_keeps _)).trans (neutralStartStage_keeps _)).trans
    (pedalStage_keeps _ pedal)
  have hmoved := ((hearly.trans (inhibitStage_keeps _)).trans (progressStage_keeps _ pedal)).trans
    (startStage_keeps _ pedal s.seq.shift.isSome)
  have hjudged := (((hmoved.trans (autoStage_keeps _ pedal)).trans (slipStage_keeps _ pedal)).trans
    (.of_course (draftStage_course _))).trans (.of_course (torqueStage_course _))
  have hcommand := ((hjudged.trans (.of_course (runOverride_course _ pedal))).trans (preselectStage_keeps _)).trans
    (.of_course (commandStage_course _ pedal))
  exact (hcommand.trans (demandClutches_keeps _)).trans (publishGear_keeps _)

/-! ### Taps, direction requests, the implement's speed target (R41, R42, R66) -/

theorem refuseGear_keeps (command : Nat) (r : Reason) : s.seq.Keeps (refuseGear command r s).seq := .of_besides (by simp)

theorem applyTap_keeps (up : Bool) : s.seq.Keeps (applyTap up s).seq := by
  unfold applyTap
  dsimp only [State.onSeq_seq]
  split
  · exact ⟨fun h => { h with number := clamp_between (by decide) _ }, fun h => h⟩
  · refine ⟨fun h => { h with pending := fun g hg => ?_ }, fun h => h⟩
    simp only [Option.ite_none_left_eq_some, Option.some.injEq] at hg
    exact hg.2 ▸ h.gearIn_legal _ _
  next hs _ => exact .of_still hs fun h => { h with headed := fun hn => absurd hs hn, target := h.gearIn_legal _ _ }

theorem takeNeutral_keeps (hs : s.seq.shift = none) : s.seq.Keeps (takeNeutral s).seq := by
  unfold takeNeutral
  split
  · exact .refl _
  next hg =>
    have hnum (h : s.seq.GearsOk) := Gear.num_of_legal h.gear hg
    exact .of_still hs fun h => { h with
      headed := fun hn => absurd hs hn, gear := rfl, target := rfl, number := hnum h
      preselect := fun n hn => Option.some.inj hn ▸ hnum h }

theorem judgeTravel_keeps (d : Dir) (hs : s.seq.shift = none) : s.seq.Keeps (judgeTravel d s).seq := by
  have hrefuse := refuseGear_keeps s 3 .inhibited
  refine .ite hrefuse (.ite hrefuse (.ite (.refl _) (.ite hrefuse ?_)))
  exact .of_still hs fun h => { h with headed := fun hn => absurd hs hn, target := h.gearIn_legal _ _ }

theorem judgeTap_keeps (up : Bool) : s.seq.Keeps (judgeTap up s).seq := by
  refine .trans (.of_besides (by simp : s.reclaimByCommand.seq.besides = _)) ?_
  unfold judgeTap
  dsimp only
  split
  · exact refuseGear_keeps _ _ _
  · exact .ite (refuseGear_keeps _ _ _) (applyTap_keeps _ _)

theorem judgeDirection_keeps (d : DirRequest) : s.seq.Keeps (judgeDirection d s).seq := by
  refine .trans (.of_besides (by simp : s.reclaimByCommand.seq.besides = _)) ?_
  unfold judgeDirection
  dsimp only
  split
  · exact refuseGear_keeps _ _ _
  · split
    · exact refuseGear_keeps _ _ _
    next hs =>
      have hs : s.reclaimByCommand.seq.shift = none := by simpa using hs
      split
      · exact takeNeutral_keeps _ hs
      · exact judgeTravel_keeps _ .fwd hs
      · exact judgeTravel_keeps _ .rev hs

theorem judgeImplSpeed_keeps (v : Nat) : s.seq.Keeps (judgeImplSpeed v s).seq := by
  refine .ite (.of_besides (by simp)) (.ite (.of_besides (by simp)) ?_)
  exact SeqState.Keeps.trans (p := { s.seq with vTarget := some (clamp 0 4000 v) }) ⟨fun h => { h with }, fun h => h⟩
    (.of_besides (by simp))

theorem takeGearUp_keeps : s.seq.Keeps (takeGearUp s).seq := by
  unfold takeGearUp
  split
  · exact .trans (.of_besides (by simp : (s.popEvent .vehicle).seq.besides = _)) (judgeTap_keeps _ true)
  · exact .refl _

theorem takeGearDown_keeps : s.seq.Keeps (takeGearDown s).seq := by
  unfold takeGearDown
  split
  · exact .trans (.of_besides (by simp : (s.popEvent .vehicle).seq.besides = _)) (judgeTap_keeps _ false)
  · exact .refl _

theorem takeDirection_keeps : s.seq.Keeps (takeDirection s).seq := by
  unfold takeDirection
  split
  · exact .trans (.of_besides (by simp : (s.popEvent .vehicle).seq.besides = _)) (judgeDirection_keeps _ _)
  · exact .refl _

theorem takeImplSpeed_keeps : s.seq.Keeps (takeImplSpeed s).seq := by
  unfold takeImplSpeed
  split
  · exact .trans (.of_besides (by simp : (s.popEvent .implement).seq.besides = _)) (judgeImplSpeed_keeps _ _)
  · exact .refl _

/-! ### Starts, the power states and the calibration run (R61, R62, R68) -/

/-- The records of a start meet both laws (R68). -/
theorem initial_keeps (q : SeqState) : q.Keeps { clutches := everyClutch { state := .vented } } :=
  .of_still rfl fun _ => (SeqState.gearsLegal_iff _).mp rfl

theorem startFrom_keeps (pending : List Instr) (free now : Nat) (b : BuildRecord) (mem : List Host.Cell) (risen : Bool) :
    s.seq.Keeps (startFrom pending free now b mem risen).seq := initial_keeps s.seq

theorem softRestart_keeps (rbs : List ReadBack) : s.seq.Keeps (softRestart rbs s).seq := startFrom_keeps s _ _ _ _ _ _

theorem applySupply_keeps (ignition : Bool) : s.seq.Keeps (applySupply ignition s).seq := by
  unfold applySupply
  split
  · exact .ite (.refl _) (.refl _)
  · exact .ite (.refl _) (.refl _)
  all_goals exact .refl _

theorem ignitionOn_keeps : s.seq.Keeps (ignitionOn s).seq := by
  unfold ignitionOn
  dsimp only
  split
  · exact ⟨fun h => { h with }, fun h => h⟩
  all_goals exact .refl _

theorem judgeIgnition_keeps (high : Bool) : s.seq.Keeps (judgeIgnition high s).seq :=
  .ite (.of_besides (by simp)) (.ite (ignitionOn_keeps (s.onPower _)) (.refl _))

theorem endFlush_keeps (rbs : List ReadBack) : s.seq.Keeps (endFlush rbs s).seq :=
  .ite (softRestart_keeps s rbs) (.of_besides (by simp))

theorem powerStep_keeps (ignition : Bool) (rbs : List ReadBack) : s.seq.Keeps (powerStep ignition rbs s).seq := by
  have hign := judgeIgnition_keeps s ignition
  refine .ite (hign.trans ?_) hign
  unfold judgePhase
  split
  · exact .ite (.of_besides (by simp)) (.refl _)
  · exact .ite (endFlush_keeps _ _) (.refl _)
  all_goals exact .refl _

theorem beginRun_keeps (c : Clutch) : s.seq.Keeps (beginRun c s).seq :=
  ⟨fun h => { h with preselect := by simp [beginRun] }, fun h => h⟩

theorem judgeCalRun_keeps (code pedal : Nat) : s.seq.Keeps (judgeCalRun code pedal s).1.seq := by
  unfold judgeCalRun
  split
  · exact .refl _
  · split
    · exact .refl _
    · split
      · exact .refl _
      · exact beginRun_keeps _ _

/-- A run that goes on to WRITE hands its write to the store (R97). -/
theorem enterWrite_besides (c : Clutch) : (enterWrite c s).seq.besides = s.seq.besides := by simp [enterWrite]

theorem fillStep_besides (c : Clutch) : (fillStep c s).seq.besides = s.seq.besides := by
  unfold fillStep
  dsimp only
  repeat' split
  all_goals simp [enterWrite_besides]

/-- A run step moves at most the clutches of the Shift Sequencer (R62, R98). -/
theorem runStep_besides (pedal : Nat) : (runStep pedal s).seq.besides = s.seq.besides := by
  unfold runStep
  repeat' split
  all_goals simp [fillStep_besides]

/-! ### Every command -/

/-- An event keeps the laws where its effect does. -/
theorem State.event_keeps (dt : Nat) {f : State → State} (hf : ∀ u : State, u.seq.Keeps (f u).seq) :
    s.seq.Keeps (s.event dt f).seq := .ite (hf (s.advance dt)) (.refl _)

/-- A service command keeps the laws where its judgement does. -/
theorem withFrame_keeps {f : SvcFrame → Option State} (hf : ∀ x t, f x = some t → s.seq.Keeps t.seq) :
    s.seq.Keeps (withFrame s f).seq := by
  unfold withFrame
  split
  next x _ =>
    cases hx : f x with
    | none => exact .refl _
    | some t => exact hf x t hx
  · exact .refl _

theorem unlockedOnly_keeps {f : State → State} (hf : s.seq.Keeps (f s).seq) : s.seq.Keeps (unlockedOnly s f).seq :=
  .ite hf (.of_besides (by simp))

theorem withCalib_keeps {f : State → State × Option Reason} (hf : s.seq.Keeps (f s).1.seq) :
    s.seq.Keeps (withCalib s f).seq :=
  .ite (hf.trans (.of_besides (by simp [answered]))) (.of_besides (by simp))

variable {s}

/-- Every command keeps both laws of the gears: those of the Shift Sequencer, the power states, the starts and the
calibration run by the lemmas above, and any other since it leaves the sequencer's records but for the clutches. -/
theorem exec_keeps {c : Instr} {t : State} (h : exec c s = .next t) : s.seq.Keeps t.seq := by
  cases c with
  | shiftStep dt pedal => exact Host.Outcome.next.inj h ▸ s.event_keeps dt fun u => shiftStep_keeps u pedal
  | cabCommandGearUp dt => exact Host.Outcome.next.inj h ▸ s.event_keeps dt takeGearUp_keeps
  | cabCommandGearDown dt => exact Host.Outcome.next.inj h ▸ s.event_keeps dt takeGearDown_keeps
  | cabCommandDirection dt => exact Host.Outcome.next.inj h ▸ s.event_keeps dt takeDirection_keeps
  | implSpeed dt => exact Host.Outcome.next.inj h ▸ s.event_keeps dt takeImplSpeed_keeps
  | powerStep dt ignition rbs =>
    exact Host.Outcome.next.inj h ▸ .ite (powerStep_keeps (s.advance dt) ignition rbs) (.refl _)
  | storeDrained dt => exact Host.Outcome.next.inj h ▸ s.event_keeps dt fun u => .ite (endFlush_keeps u []) (.refl _)
  | supplyApplied dt ignition => exact Host.Outcome.next.inj h ▸ applySupply_keeps (s.advance dt) ignition
  | strapWindowEnd dt readings =>
    exact Host.Outcome.next.inj h ▸ .ite (startFrom_keeps (s.advance dt) _ _ _ _ _ _) (.refl _)
  | lossOfSupply dt untouched => exact Host.Outcome.next.inj h ▸ initial_keeps s.seq
  | answerSent dt rbs =>
    exact Host.Outcome.next.inj h ▸ s.event_keeps dt fun u => .ite (.ite (softRestart_keeps u rbs) (.refl _)) (.refl _)
  | slotProgramComplete dt rb | voidProgramComplete dt | pageEraseComplete dt rb | headerProgramComplete dt rb =>
    exact Host.Outcome.next.inj h ▸ s.event_keeps dt fun u => .ite (.of_besides (by simp)) (.refl _)
  | calRun dt pedal =>
    refine Host.Outcome.next.inj h ▸ s.event_keeps dt fun u => withFrame_keeps u fun x t hx => ?_
    split at hx
    · exact Option.some.inj hx ▸ unlockedOnly_keeps u (withCalib_keeps u (judgeCalRun_keeps u _ pedal))
    · cases hx
  | calAbort dt =>
    refine Host.Outcome.next.inj h ▸ s.event_keeps dt fun u => withFrame_keeps u fun x t hx => ?_
    split at hx
    · exact Option.some.inj hx ▸ unlockedOnly_keeps u (withCalib_keeps u (.of_besides (by simp)))
    · cases hx
  | take dt | release dt | storeNow dt | restart dt =>
    refine Host.Outcome.next.inj h ▸ s.event_keeps dt fun u => withFrame_keeps u fun x t hx => ?_
    split at hx
    · exact Option.some.inj hx ▸ unlockedOnly_keeps u (.of_besides (by simp))
    · cases hx
  | sync dt | key dt | cancel dt | lock dt | readItem dt | writeItem dt =>
    refine Host.Outcome.next.inj h ▸ s.event_keeps dt fun u => withFrame_keeps u fun x t hx => ?_
    split at hx
    · exact Option.some.inj hx ▸ .of_besides (by simp [answered])
    · cases hx
  | runStep dt pedal => exact Host.Outcome.next.inj h ▸ s.event_keeps dt fun u => .of_besides (runStep_besides u pedal)
  | _ =>
    obtain rfl := Host.Outcome.next.inj h
    exact s.event_keeps _ fun u => .of_besides (by simp)

end

end Sys2Proof.Machine

/-! ### The obligation -/

namespace Sys2Proof.Proofs

/-- Settles O5: a step runs the command at the front of the queue, which keeps both laws. -/
theorem gearsStayLegal : Obligations.GearsStayLegal := by
  have hstep {s t : State} (h : step s = .next t) : s.seq.Keeps t.seq := by
    unfold step at h
    split at h
    · exact Host.Outcome.next.inj h ▸ .refl _
    · have hkeeps := exec_keeps h
      exact hkeeps
  exact ⟨fun s t hs h => t.seq.gearsLegal_iff.mpr ((hstep h).gears (s.seq.gearsLegal_iff.mp hs)),
    fun s t hs h => t.seq.shiftLegal_iff.mpr ((hstep h).shift (s.seq.shiftLegal_iff.mp hs))⟩

end Sys2Proof.Proofs
end

section
/-! PROOFS. Direction requests (R42), and the answers of the service line with the Soft restart that one of them ends in (R182,
R188). -/

open Sys2Proof Sys2Proof.Machine

namespace Sys2Proof.Machine

/-! ### Direction requests (R42) -/

theorem exec_direction_of_head {s : State} {dt : Nat} {d : DirRequest} (hrun : s.running = true)
    (h : s.head .vehicle = some (.direction d)) :
    exec (.cabCommandDirection dt) s = .next (judgeDirection d (s.taken dt .vehicle)) := by
  rw [exec_of_running rfl hrun, takeDirection, State.head_advance, h]; rfl

/-- A direction request with no shift in flight is judged by what it asks for (R42). -/
def judgeStill (d : DirRequest) (s : State) : State :=
  match d with
  | .neutral => takeNeutral s
  | .forward => judgeTravel .fwd s
  | .reverse => judgeTravel .rev s

section
variable {s : State}

/-- A direction request while CAB holds GEAR, with no run and no shift in flight, reclaims SPEED and is judged (R27, R42). -/
theorem judgeDirection_of_still (d : DirRequest) (hh : s.holder .gear = .cab) (hrun : s.runInProgress = false)
    (hs : s.seq.shift = none) : judgeDirection d s = judgeStill d s.reclaimByCommand := by
  have hgear : s.reclaimByCommand.holder .gear = .cab :=
    (congrArg AuthEntry.holder (s.reclaimByCommand_actsOn.entry (by decide))).trans hh
  have hrun' : s.reclaimByCommand.runInProgress = false := by simpa [State.runInProgress] using hrun
  have hs' : s.reclaimByCommand.seq.shift = none := by simpa using hs
  simp only [judgeDirection, gearRefusal, hgear, hrun', hs']
  rfl

/-- NEUTRAL with a gear engaged opens its direction clutch and keeps its number (R42). -/
theorem takeNeutral_of_gear (hg : s.seq.gear ≠ .neutral) : (takeNeutral s).seq =
    { s.seq.onClutch (dirOf s.seq.gear) (releaseClutch s.now) with
      gear := .neutral, target := .neutral, neutralNumber := s.seq.gear.num, preselect := some s.seq.gear.num
      reengaged := false } := by
  rw [takeNeutral, if_neg hg]; rfl

theorem takeNeutral_of_neutral (hg : s.seq.gear = .neutral) : takeNeutral s = s := if_pos hg

/-- FORWARD and REVERSE are refused before a neutral start (R61). -/
theorem judgeTravel_before_start (d : Dir) (h : s.seq.neutralStartOk = false) : (judgeTravel d s).seq = s.seq := by
  simp [judgeTravel, h]

section
variable {d : Dir} (hp : s.power.power = .run) (hg : s.gateOpen .trans = true) (hl : s.active .vehicleLinkLost = false)
  (hn : s.seq.neutralStartOk = true)
include hp hg hl hn

/-- Past the general conditions a request asks whether its direction is engaged, and whether it reverses too fast (R42). -/
theorem judgeTravel_of_started : judgeTravel d s =
    if s.seq.gear.dir = some d then s
    else if decide ((lastTravel s.seq).isSome) && decide (lastTravel s.seq ≠ some d)
        && decide (1200 < s.speed.set.vGround) then refuseGear 3 .inhibited s
    else s.onSeq (fun q => { q with
      target := gearIn q d (if s.seq.gear = .neutral then s.seq.neutralNumber else s.seq.gear.num) }) := by
  simp [judgeTravel, hp, hg, hl, hn]

/-- The direction engaged already is not asked for again. -/
theorem judgeTravel_of_engaged (hd : s.seq.gear.dir = some d) : (judgeTravel d s).seq = s.seq := by
  rw [judgeTravel_of_started hp hg hl hn, if_pos hd]

/-- A reversal above 1200 is refused. -/
theorem judgeTravel_of_fast {e : Dir} (hd : s.seq.gear.dir = some e) (hne : e ≠ d) (hv : 1200 < s.speed.set.vGround) :
    (judgeTravel d s).seq = s.seq := by
  rw [judgeTravel_of_started hp hg hl hn]
  simp [lastTravel, hd, hne, hv]

/-- Up to 1200 a direction that is not engaged is taken. -/
theorem judgeTravel_of_slow (hd : s.seq.gear.dir ≠ some d) (hv : s.speed.set.vGround ≤ 1200) : (judgeTravel d s).seq =
    { s.seq with
      target := gearIn s.seq d (if s.seq.gear = .neutral then s.seq.neutralNumber else s.seq.gear.num) } := by
  rw [judgeTravel_of_started hp hg hl hn, if_neg hd, if_neg (by simp [Nat.not_lt.mpr hv])]
  rfl

end

/-- In MANUAL a gear number is clamped to the table alone (R42). -/
theorem gearIn_of_manual {q : SeqState} (h : q.autoMode = false) (n : Nat) :
    gearIn q .fwd n = .fwd (clamp 1 12 n) ∧ gearIn q .rev n = .rev (clamp 1 8 n) := by simp [gearIn, h]

/-! ### Answers of the service line (R182, R188) -/

theorem answerStart_of_answer (hrx : s.svc.rx = .answering) (ha : s.svc.answer ≠ none) :
    answerStart s = { s with svc := { s.svc with sending := true } } :=
  if_pos ⟨hrx, Option.isSome_iff_ne_none.mpr ha⟩

theorem answerStart_of_none (h : s.svc.rx ≠ .answering ∨ s.svc.answer = none) : answerStart s = s :=
  if_neg fun ⟨hrx, ha⟩ => h.elim (absurd hrx) (fun hn => by simp [hn] at ha)

theorem answerSent_of_silent {rbs : List ReadBack} (hs : s.svc.sending = false) : answerSent rbs s = s := by
  simp [answerSent, hs]

theorem answerSent_of_sending {rbs : List ReadBack} (hs : s.svc.sending = true) (hr : s.svc.restartAfter = false) :
    answerSent rbs s =
      { s with svc := { s.svc with rx := .idle, answer := none, sending := false, lastAnswer := some s.now } } := by
  simp [answerSent, hs, hr, State.onSvc]

theorem answerSent_of_restart {rbs : List ReadBack} (hs : s.svc.sending = true) (hr : s.svc.restartAfter = true) :
    answerSent rbs s = softRestart rbs s := by simp [answerSent, hs, hr]

end

end Sys2Proof.Machine

/-! ### The obligations -/

namespace Sys2Proof.Proofs

/-- Settles O22: a request with no shift in flight is `judgeStill` of the state in which SPEED has been reclaimed. -/
theorem directionRequest : Obligations.DirectionRequest := by
  intro s dt d hrun hhead hh hrunning hs hauto
  set u := s.taken dt .vehicle with hu
  set v := u.reclaimByCommand with hv
  have hjudge : judgeDirection d u = judgeStill d v := judgeDirection_of_still d hh hrunning hs
  have hseq : v.seq = s.seq := by simp [hv]; rfl
  have hnow : v.now = s.now + dt := by simp [hv]; rfl
  refine ⟨_, exec_direction_of_head hrun hhead, fun hd hg => ?_, fun hd hg => ?_, fun hd hp hgate hl hstart => ?_,
    fun hd hstart => ?_, State.eq_but_authority_seq (judgeDirection_frame d u)⟩
  · subst hd
    rw [← hu, hjudge, judgeStill, takeNeutral_of_gear (by rw [hseq]; exact hg), hseq, hnow]
  · subst hd
    rw [← hu, hjudge, judgeStill, takeNeutral_of_neutral (by rw [hseq]; exact hg), hseq]
  · have hpower : v.power = s.power := by simp [hv]; rfl
    have hfault : v.fault = s.fault := by simp [hv]; rfl
    have hp' : v.power.power = .run := by rw [hpower]; exact hp
    have hgate' : v.gateOpen .trans = true := by rw [State.gateOpen, hfault]; exact hgate
    have hl' : v.active .vehicleLinkLost = false := by rw [State.active, hfault]; exact hl
    have hstart' : v.seq.neutralStartOk = true := by rw [hseq]; exact hstart
    have hspeed : v.speed = s.speed := by simp [hv]; rfl
    have hslow {e : Dir} (hg : s.seq.gear.dir ≠ some e) (hvg : s.speed.set.vGround ≤ 1200) :
        (judgeTravel e v).seq = { s.seq with
          target := gearIn s.seq e (if s.seq.gear = .neutral then s.seq.neutralNumber else s.seq.gear.num) } := by
      rw [judgeTravel_of_slow hp' hgate' hl' hstart' (by rw [hseq]; exact hg) (by rw [hspeed]; exact hvg), hseq]
    have hfast {e g : Dir} (hg : s.seq.gear.dir = some g) (hne : g ≠ e) (hvg : 1200 < s.speed.set.vGround) :
        (judgeTravel e v).seq = s.seq :=
      (judgeTravel_of_fast hp' hgate' hl' hstart' (by rw [hseq]; exact hg) hne (by rw [hspeed]; exact hvg)).trans hseq
    have hengaged {e : Dir} (hg : s.seq.gear.dir = some e) : (judgeTravel e v).seq = s.seq :=
      (judgeTravel_of_engaged hp' hgate' hl' hstart' (by rw [hseq]; exact hg)).trans hseq
    obtain ⟨hfwd, hrev⟩ : (∀ n, gearIn s.seq .fwd n = .fwd (clamp 1 12 n)) ∧ ∀ n, gearIn s.seq .rev n = .rev (clamp 1 8 n) :=
      ⟨fun n => (gearIn_of_manual hauto n).1, fun n => (gearIn_of_manual hauto n).2⟩
    rw [← hu, hjudge]
    refine ⟨fun hvg => ⟨?_, ?_, ?_, ?_⟩, fun hvg => ⟨?_, ?_⟩, ?_, ?_⟩
    · rintro rfl hg
      rw [judgeStill, hslow (by simp [hg, Gear.dir]) hvg, if_pos hg, hfwd]
    · rintro rfl hg
      rw [judgeStill, hslow (by simp [hg, Gear.dir]) hvg, if_pos hg, hrev]
    · rintro n rfl hg
      rw [judgeStill, hslow (by simp [hg, Gear.dir]) hvg, hg, if_neg (by simp), hrev]
      rfl
    · rintro n rfl hg
      rw [judgeStill, hslow (by simp [hg, Gear.dir]) hvg, hg, if_neg (by simp), hfwd]
      rfl
    · rintro n rfl hg
      exact hfast (congrArg Gear.dir hg) (by decide) hvg
    · rintro n rfl hg
      exact hfast (congrArg Gear.dir hg) (by decide) hvg
    · rintro n rfl hg
      exact hengaged (congrArg Gear.dir hg)
    · rintro n rfl hg
      exact hengaged (congrArg Gear.dir hg)
  · rw [← hu, hjudge]
    have hstart' : v.seq.neutralStartOk = false := by rw [hseq]; exact hstart
    cases d with
    | neutral => exact absurd rfl hd
    | forward | reverse => exact (judgeTravel_before_start _ hstart').trans hseq

/-- Settles O55: an answer begins or does not, and its end is one of three. -/
theorem answersEnd : Obligations.AnswersEnd := by
  intro s dt rbs hrun
  refine ⟨⟨_, exec_of_running rfl hrun, answerStart_of_answer (s := s.advance dt), answerStart_of_none (s := s.advance dt)⟩,
    ⟨_, exec_of_running rfl hrun, answerSent_of_silent (s := s.advance dt), answerSent_of_sending (s := s.advance dt),
      fun hs hr => ?_⟩⟩
  rw [answerSent_of_restart (s := s.advance dt) hs hr]
  exact ⟨rfl, softRestart_restartedFrom rbs (s.advance dt)⟩

end Sys2Proof.Proofs
end

section
/-! PROOFS. The shift step (R40): its last stage, which publishes Gear State and hands the pressures to the channels, and the
stages of a step at which the part stands in N after the neutral reaction (R60). -/

open Sys2Proof Sys2Proof.Machine

namespace Sys2Proof.Machine

/-! ### The shift step in three parts -/

/-- Stages 1 to 4: the clutches' ends of release, the neutral reaction, neutral-start, the pedal. -/
def earlyStages (pedal : Nat) (s : State) : State := pedalStage pedal (neutralStartStage (neutralStage (ventStage s)))

/-- Stages 8 and 9: auto-shift, the slip check, the draft hold, the torque limit. -/
def lateStages (pedal : Nat) (s : State) : State := torqueStage (draftStage (slipStage pedal (autoStage pedal s)))

/-- Stage 10: the pressures and the publication. -/
def closingStage (pedal : Nat) (s : State) : State :=
  publishGear (demandClutches (commandStage pedal (preselectStage (runOverride pedal s))))

theorem shiftStep_eq (pedal : Nat) (s : State) : shiftStep pedal s = closingStage pedal (lateStages pedal
    (startStage pedal s.seq.shift.isSome (progressStage pedal (inhibitStage (earlyStages pedal s))))) := rfl

/-! ### The demands of the clutches (R38, R73) -/

/-- A demand in the unit of its channel is the channel's demand (R73). -/
theorem State.demand_get (s : State) {i : Chan} (d : Nat) (hi : i ≠ .hitchRaise ∧ i ≠ .hitchLower) :
    ((s.demand i d).chan.channels.get i).demand = d := by
  simp only [State.demand, hi.1, hi.2, or_self, if_false]
  split
  next h => exact h
  · simp [State.onChan, applyRule]

/-- A demand leaves every other channel. -/
theorem State.demand_get_other (s : State) {i j : Chan} (d : Nat) (h : j ≠ i) :
    (s.demand i d).chan.channels.get j = s.chan.channels.get j := by
  unfold State.demand
  dsimp only
  generalize (if i = .hitchRaise ∨ i = .hitchLower then clamp 0 1600 d else d) = e
  split
  · rfl
  · exact chan_get_set_other _ _ _ _ h

/-- Handing over the pressures of some clutches leaves the demand of any other. -/
theorem foldl_demand_other (l : List Clutch) (s : State) {c : Clutch} (hc : c ∉ l) :
    ((l.foldl (fun (s : State) c => s.demand (.clutch c) (s.clutch c).commanded) s).chan.channels.get (.clutch c)) =
      s.chan.channels.get (.clutch c) := by
  refine foldl_keeps (fun t : State => t.chan.channels.get (.clutch c) = s.chan.channels.get (.clutch c)) _ l s rfl ?_
  intro t d hd ht
  rw [State.demand_get_other _ _ (by rintro ⟨⟩; exact hc hd), ht]

/-- Handing over the pressures of some clutches makes each the demand of its channel. -/
theorem foldl_demand (l : List Clutch) (s : State) {c : Clutch} (hc : c ∈ l) :
    ((l.foldl (fun (s : State) c => s.demand (.clutch c) (s.clutch c).commanded) s).chan.channels.get (.clutch c)).demand
      = (s.clutch c).commanded := by
  induction l generalizing s with
  | nil => cases hc
  | cons d rest ih =>
    rw [List.foldl_cons]
    by_cases hr : c ∈ rest
    · rw [ih _ hr]; simp [State.clutch]
    · obtain rfl := (List.mem_cons.mp hc).resolve_right hr
      rw [foldl_demand_other rest _ hr, State.demand_get _ _ (by simp)]

theorem demandClutches_demand (s : State) (c : Clutch) :
    ((demandClutches s).chan.channels.get (.clutch c)).demand = (s.clutch c).commanded := by
  unfold demandClutches
  exact foldl_demand allClutches s (by cases c <;> decide)

/-! ### The closing stage (R37 to R39, R62) -/

section
variable (pedal : Nat) (s : State)

theorem publishGear_published : (publishGear s).seq.published = gearState (publishGear s).seq := rfl

theorem gearState_gear (q : SeqState) : (gearState q).gear = q.gear := rfl

theorem gearState_direction (q : SeqState) : (gearState q).direction = q.gear.direction := rfl

theorem gearState_shuttleDecel (q : SeqState) : (gearState q).shuttleDecel = q.shuttleDecel := rfl

theorem publishGear_decel : (publishGear s).seq.shuttleDecel = decelNow (publishGear s).seq := rfl

theorem publishGear_clutches : (publishGear s).seq.clutches = s.seq.clutches := rfl

theorem publishGear_preselect : (publishGear s).seq.preselect = s.seq.preselect := rfl

theorem commandStage_preselect : (commandStage pedal s).seq.preselect = s.seq.preselect := rfl

theorem demandClutches_seq : (demandClutches s).seq = s.seq := by simp

theorem closingStage_published : (closingStage pedal s).seq.published = gearState (closingStage pedal s).seq := by
  unfold closingStage
  exact publishGear_published _

theorem closingStage_decel : (closingStage pedal s).seq.shuttleDecel = decelNow (closingStage pedal s).seq := by
  unfold closingStage
  exact publishGear_decel _

theorem closingStage_demand (c : Clutch) : ((closingStage pedal s).chan.channels.get (.clutch c)).demand =
    ((closingStage pedal s).seq.clutches.get c).commanded := by
  simp only [closingStage, publishGear_frame, publishGear_clutches, demandClutches_demand, demandClutches_frame,
    State.clutch]

/-- A run's override of the pressures changes clutches alone (R62). -/
theorem runOverride_besides : (runOverride pedal s).seq.besides = s.seq.besides := by
  unfold runOverride
  split
  · rfl
  · split
    · exact foldl_keeps (fun t : State => t.seq.besides = s.seq.besides) _ _ s rfl fun t _ _ ht => ht
    · rfl

/-- A step without a run in progress, or with the gate closed, or in SHUTDOWN, leaves the pressures to the stages before. -/
theorem runOverride_of_none (h : s.runInProgress = false ∨ s.gateOpen .trans = false ∨ s.power.power ≠ .run) :
    runOverride pedal s = s := by
  unfold runOverride
  split
  · rfl
  · exact if_neg fun ⟨hr, hg, hp⟩ => by simp_all

end

/-- What the closing stage leaves of the sequencer's records: all but pressures, publication and preselect. -/
structure State.Closed (s t : State) : Prop where
  gear : t.seq.gear = s.seq.gear
  target : t.seq.target = s.seq.target
  pending : t.seq.pendingTarget = s.seq.pendingTarget
  shift : t.seq.shift = s.seq.shift
  number : t.seq.neutralNumber = s.seq.neutralNumber
  startOk : t.seq.neutralStartOk = s.seq.neutralStartOk
  lastDir : t.seq.lastDir = s.seq.lastDir
  draftEnd : t.seq.draftEnd = s.seq.draftEnd
  preselect : s.seq.preselect = none → t.seq.preselect = none
  fault : t.fault = s.fault

section
variable (pedal : Nat) (s : State)

theorem SeqState.eq_but_clutches {q p : SeqState} (h : p.besides = q.besides) : p = { q with clutches := p.clutches } :=
  congrArg (fun o : SeqState => { o with clutches := p.clutches }) h

theorem preselectStage_seq : ∃ n, (preselectStage s).seq = { s.seq with preselect := n } ∧
    (s.seq.preselect = none → n = none) := by
  unfold preselectStage
  split
  · exact ⟨_, rfl, id⟩
  · exact ⟨none, rfl, fun _ => rfl⟩

theorem closingStage_seq : ∃ k n d g, (closingStage pedal s).seq =
    { s.seq with clutches := k, preselect := n, shuttleDecel := d, published := g } ∧
      (s.seq.preselect = none → n = none) := by
  obtain ⟨n, hn, hnone⟩ := preselectStage_seq (runOverride pedal s)
  have hrun := SeqState.eq_but_clutches (runOverride_besides pedal s)
  have hcommand (u : State) : ∃ k, (commandStage pedal u).seq = { u.seq with clutches := k } := ⟨_, rfl⟩
  have hpublish (u : State) : ∃ d g, (publishGear u).seq = { u.seq with shuttleDecel := d, published := g } := ⟨_, _, rfl⟩
  obtain ⟨k, hk⟩ := hcommand (preselectStage (runOverride pedal s))
  obtain ⟨d, g, hdg⟩ := hpublish (demandClutches (commandStage pedal (preselectStage (runOverride pedal s))))
  refine ⟨k, n, d, g, ?_, fun h => hnone (by rw [hrun]; exact h)⟩
  rw [closingStage, hdg, demandClutches_seq, hk, hn, hrun]

theorem closingStage_closed : s.Closed (closingStage pedal s) := by
  obtain ⟨k, n, d, g, hseq, hnone⟩ := closingStage_seq pedal s
  constructor
  case preselect => exact fun h => by rw [hseq]; exact hnone h
  case fault => simp [closingStage]
  all_goals rw [hseq]

/-- Where no run overrides the pressures, the closing stage leaves the clutches' states and pressures (R62). -/
theorem closingStage_clutch (h : s.runInProgress = false ∨ s.gateOpen .trans = false ∨ s.power.power ≠ .run) (c : Clutch) :
    ((closingStage pedal s).clutch c).state = (s.clutch c).state ∧
      ((closingStage pedal s).clutch c).pressure = (s.clutch c).pressure := by
  have hselect : (preselectStage s).seq.clutches = s.seq.clutches := by
    obtain ⟨n, hn, _⟩ := preselectStage_seq s
    rw [hn]
  simp only [closingStage, State.clutch, publishGear_clutches, demandClutches_frame, runOverride_of_none pedal s h]
  simp [commandStage, hselect]

/-- A preselect that the closing stage leaves stands beside a speed or range clutch that is APPLIED (R37). -/
theorem closingStage_preselect (h : (closingStage pedal s).seq.preselect ≠ none) :
    ∃ c, isDirClutch c = false ∧ ((closingStage pedal s).seq.clutches.get c).state = .applied := by
  have hsame : (closingStage pedal s).seq.preselect = (preselectStage (runOverride pedal s)).seq.preselect := by
    simp only [closingStage, publishGear_preselect, demandClutches_seq, commandStage_preselect]
  obtain ⟨c, hc, ha⟩ := preselectStage_applied _ (hsame ▸ h)
  exact ⟨c, hc, by simpa [closingStage, publishGear_clutches, commandStage] using ha⟩

theorem shiftStep_published : (shiftStep pedal s).seq.published = gearState (shiftStep pedal s).seq := by
  rw [shiftStep_eq]
  exact closingStage_published ..

theorem shiftStep_demand (c : Clutch) : ((shiftStep pedal s).chan.channels.get (.clutch c)).demand =
    ((shiftStep pedal s).seq.clutches.get c).commanded := by
  rw [shiftStep_eq]
  exact closingStage_demand ..

theorem shiftStep_preselect (h : (shiftStep pedal s).seq.preselect ≠ none) :
    ∃ c, isDirClutch c = false ∧ ((shiftStep pedal s).seq.clutches.get c).state = .applied := by
  rw [shiftStep_eq] at h ⊢
  exact closingStage_preselect _ _ h

theorem shiftStep_decel : (shiftStep pedal s).seq.shuttleDecel = decelNow (shiftStep pedal s).seq := by
  rw [shiftStep_eq]
  exact closingStage_decel ..

end

/-! ### In N after the neutral reaction (R60) -/

/-- The part stands in N after a neutral reaction: nothing engaged or on its way, every clutch out or going out. -/
structure SeqState.Neutral (n : Nat) (q : SeqState) : Prop where
  gear : q.gear = .neutral
  target : q.target = .neutral
  shift : q.shift = none
  pending : q.pendingTarget = none
  preselect : q.preselect = none
  startOk : q.neutralStartOk = false
  number : q.neutralNumber = n
  clutches : ∀ c, (q.clutches.get c).state = .vented ∨ (q.clutches.get c).state = .releasing

theorem releaseClutch_state (now : Nat) (r : ClutchRec) :
    (releaseClutch now r).state = .vented ∨ (releaseClutch now r).state = .releasing := by
  unfold releaseClutch
  split
  next h => exact .inl h
  next h => exact .inr h
  · exact .inr rfl

section
variable {n pedal : Nat} {s : State}

/-- The neutral reaction leaves the part in N, with the number of the shift's target or of the gear (R60). -/
theorem neutralReaction_neutral : (neutralReaction s).seq.Neutral s.seq.restNumber := by
  have hcourse := neutralReaction_course s
  refine ⟨rfl, rfl, ?_, rfl, rfl, rfl, rfl, fun c => ?_⟩
  · exact Option.map_eq_none_iff.mp (congrArg SeqState.shift hcourse)
  · rw [show (neutralReaction s).seq.clutches = ((clearShift s).seq.releaseAll s.now).clutches from rfl]
    simpa [SeqState.releaseAll] using releaseClutch_state s.now _

/-- A cause that is new brings the reaction about, also while fault 3 is active (R60). -/
theorem neutralStage_neutral (h : (causesNow s).newSince s.seq.causes = true) :
    (neutralStage s).seq.Neutral s.seq.restNumber := by
  obtain ⟨hg, ht, hs, hp, hpre, hok, hn, hc⟩ := neutralReaction_neutral (s := s)
  unfold neutralStage
  simp only [h, if_true, State.onSeq_seq]
  split
  · exact ⟨hg, by simp [hs, hg], hs, rfl, hpre, hok, hn, hc⟩
  · exact ⟨hg, ht, hs, hp, hpre, hok, hn, hc⟩

theorem neutralStartStage_of_closed (hgate : s.gateOpen .trans = false) : neutralStartStage s = s := by
  simp [neutralStartStage, hgate]

theorem State.release_neutral (c : Clutch) (h : s.seq.Neutral n) : (s.release c).seq.Neutral n := by
  refine { h with clutches := fun d => ?_ }
  show ((s.seq.clutches.set c _).get d).state = .vented ∨ ((s.seq.clutches.set c _).get d).state = .releasing
  by_cases hd : d = c
  · subst hd
    rw [clutch_get_set]
    exact releaseClutch_state _ _
  · rw [clutch_get_set_other _ _ _ _ hd]
    exact h.clutches d

theorem pedalStage_neutral (h : s.seq.Neutral n) : (pedalStage pedal s).seq.Neutral n := by
  unfold pedalStage
  split
  · have hrelease : ((s.releaseEach [.cf, .cv]).onSeq (fun q => { q with reengaged := false })).seq.Neutral n :=
      { (State.release_neutral .cv (State.release_neutral .cf h)) with }
    simp only [pedalDown, hrelease.shift]
    exact hrelease
  · rw [pedalUp, if_pos h.gear]
    exact h

theorem inhibitStage_neutral (h : s.seq.Neutral n) : (inhibitStage s).seq.Neutral n := by
  unfold inhibitStage
  simp only [h.shift]
  split
  · rw [State.onSeq_seq]
    split
    · exact { h with target := h.gear }
    · exact h
  · exact h

/-- With no shift in flight a change of its record changes nothing. -/
theorem State.onShift_of_none (f : ShiftRec → ShiftRec) (h : s.seq.shift = none) : s.onShift f = s := by
  rw [State.onShift, State.onSeq, h, Option.map_none, ← h]

/-- With no shift in flight stage 6 does nothing. -/
theorem progressStage_of_none (h : s.seq.shift = none) : progressStage pedal s = s := by
  have hshake : handshake s = s := State.onShift_of_none _ h
  simp only [progressStage, hshake, h]

theorem startStage_of_neutral (had : Bool) (h : s.seq.target = .neutral) : startStage pedal had s = s := by
  simp [startStage, mayStart, h]

theorem autoInputs_neutral (h : s.seq.Neutral n) : (autoInputs s).seq.Neutral n := by
  have htaken : (autoTaken s).seq.Neutral n := by
    unfold autoTaken
    split
    · split
      · exact { h with }
      · exact h
    · exact h
  rw [autoInputs_eq]
  split
  · exact htaken
  · exact { htaken with }

theorem autoStage_neutral (h : s.seq.Neutral n) : (autoStage pedal s).seq.Neutral n := by
  have hinputs := autoInputs_neutral h
  rw [autoStage_of_unarmed s (by simp [autoArmed, hinputs.gear])]
  generalize autoInputs s = t at hinputs
  exact { hinputs with }

/-- A slip check whose condition is absent, or begins at this step, raises nothing (R63). -/
theorem slipStage_of_quiet (h : slipping pedal s = false ∨ s.seq.slipSince = none) : slipStage pedal s =
    s.onSeq (fun q => { q with slipSince := holdSince s.now (slipping pedal s) s.seq.slipSince }) := by
  refine if_neg ?_
  rcases h with h | h <;> simp only [h, holdSince]
  · simp [passed]
  · split <;> simp [passed]

theorem slipStage_neutral (h : s.seq.Neutral n) : (slipStage pedal s).seq.Neutral n := by
  rw [slipStage_of_quiet (.inl (by simp [slipping, h.gear]))]
  exact { h with }

theorem torqueStage_of_none (h : s.seq.shift.bind ShiftRec.torque = none) : torqueStage s = s := by
  simp only [torqueStage, h]

theorem lateStages_neutral (h : s.seq.Neutral n) : (lateStages pedal s).seq.Neutral n := by
  have hslip := slipStage_neutral (pedal := pedal) (autoStage_neutral (pedal := pedal) h)
  have hdraft : (draftStage (slipStage pedal (autoStage pedal s))).seq.Neutral n := by
    unfold draftStage
    split
    · exact { hslip with }
    · exact hslip
  rw [lateStages, torqueStage_of_none (by simp [hdraft.shift])]
  exact hdraft

/-- A quiet slip check leaves the Fault Manager's records to the step (R63). -/
theorem lateStages_fault (h : slipping pedal (autoStage pedal s) = false ∨ (autoStage pedal s).seq.slipSince = none) :
    (lateStages pedal s).fault = s.fault := by
  simp [lateStages, slipStage_of_quiet h]

theorem closingStage_neutral (hgate : s.gateOpen .trans = false) (h : s.seq.Neutral n) :
    (closingStage pedal s).seq.Neutral n := by
  have hclosed := closingStage_closed pedal s
  refine ⟨hclosed.gear.trans h.gear, hclosed.target.trans h.target, hclosed.shift.trans h.shift,
    hclosed.pending.trans h.pending, hclosed.preselect h.preselect, hclosed.startOk.trans h.startOk,
    hclosed.number.trans h.number, fun c => ?_⟩
  have hstate := (closingStage_clutch pedal s (.inr (.inl hgate)) c).1
  rw [State.clutch, State.clutch] at hstate
  rw [hstate]
  exact h.clutches c

/-- The stages after the reaction keep the part in N while the TRANS gate is closed. -/
theorem shiftStep_neutral (hgate : s.gateOpen .trans = false) (hcause : s.seq.causes.gateClosed = false) :
    (shiftStep pedal s).seq.Neutral s.seq.restNumber := by
  have hreact : (neutralStage (ventStage s)).seq.Neutral s.seq.restNumber :=
    neutralStage_neutral (s := ventStage s) (by
      have hgate' : (ventStage s).gateOpen .trans = false := hgate
      have hcause' : (ventStage s).seq.causes.gateClosed = false := hcause
      simp [Causes.newSince, causesNow, hgate', hcause'])
  have hclosed : (neutralStage (ventStage s)).gateOpen .trans = false := by simpa [State.gateOpen] using hgate
  have hearly : (earlyStages pedal s).seq.Neutral s.seq.restNumber := by
    rw [earlyStages, neutralStartStage_of_closed hclosed]
    exact pedalStage_neutral hreact
  have hinhibit := inhibitStage_neutral hearly
  rw [shiftStep_eq, progressStage_of_none hinhibit.shift, startStage_of_neutral _ hinhibit.target]
  have hgate' : (lateStages pedal (inhibitStage (earlyStages pedal s))).gateOpen .trans = false := by
    have hauto := autoStage_neutral (pedal := pedal) hinhibit
    rw [State.gateOpen, lateStages_fault (.inl (by simp [slipping, hauto.gear]))]
    simpa [State.gateOpen, earlyStages] using hgate
  exact closingStage_neutral hgate' (lateStages_neutral hinhibit)

end

end Sys2Proof.Machine

/-! ### The obligation -/

namespace Sys2Proof.Proofs

/-- Settles O20: the reaction leaves the part in N (`shiftStep_neutral`), with the number that `SeqState.restNumber` reads. -/
theorem neutralReactionToGateClosure : Obligations.NeutralReactionToGateClosure := by
  intro s dt pedal hrun hgate hcause
  have h : (shiftStep pedal (s.advance dt)).seq.Neutral s.seq.restNumber :=
    shiftStep_neutral (s := s.advance dt) hgate hcause
  have hpublished := shiftStep_published pedal (s.advance dt)
  have hgear : (shiftStep pedal (s.advance dt)).seq.published.gear = .neutral := by
    rw [hpublished, gearState_gear, h.gear]
  have hdirection : (shiftStep pedal (s.advance dt)).seq.published.direction = .neutral := by
    rw [hpublished, gearState_direction, h.gear, Gear.direction]
  refine ⟨_, exec_of_running rfl hrun, h.gear, h.target, h.shift, h.pending, h.preselect, h.startOk, h.clutches,
    fun hs => ?_, fun hs hg => ?_, fun hs hg => ?_, hgear, hdirection, by simp, by simp, by simp⟩
  · rw [h.number, SeqState.restNumber, if_pos (Option.isSome_iff_ne_none.mpr hs)]
  · simp [h.number, SeqState.restNumber, hs, hg]
  · simp [h.number, SeqState.restNumber, hs, hg]

end Sys2Proof.Proofs
end

section
/-! PROOFS. shuttle_decel of the shift step (R53), and the brake step: the trailer's line, assist and P_tc (R146, R148,
R149). -/

open Sys2Proof Sys2Proof.Machine

namespace Sys2Proof.Machine

/-- shuttle_decel, written out (R53). -/
theorem decelNow_iff (q : SeqState) : decelNow q = true ↔
    ∃ r, q.shift = some r ∧ r.reversing = true ∧ (r.phase = .dirRelease ∨ r.phase = .reversal) := by
  unfold decelNow
  split
  next r h => simp [h]
  next h => simp [h]

/-! ### What the stages of a brake step leave of the Trailer State -/

/-- Raising a code that closes no gate leaves the Trailer Brake Controller's records. -/
theorem State.raise_brake (s : State) {c : FaultCode} {named : Option Group} (hg : gatesOf c named = []) :
    (s.raise c named).brake = s.brake := by
  simp [State.raise, hg]

theorem State.report_brake (s : State) {c : FaultCode} (v : Verdict) (hg : gatesOf c none = []) :
    (s.report c v).brake = s.brake := by
  cases v with
  | quiet => rfl
  | raise => exact s.raise_brake hg
  | clear => simp [State.report]

theorem transducerStage_trailer (raw : Nat) (s : State) : (transducerStage raw s).brake.trailer = s.brake.trailer := by
  have hraise (t : State) : (t.raise .brakePressureSensor none).brake = t.brake := t.raise_brake rfl
  unfold transducerStage
  dsimp only
  split
  · split <;> simp [State.onBrake, State.onDemand]
  · split
    · split <;> simp [State.onBrake, State.onDemand, hraise]
    · rfl

theorem lineStage_line (raw : Nat) (closed : Bool) (s : State) :
    (lineStage raw closed s).brake.trailer.line = s.brake.trailer.line := by
  unfold lineStage
  split <;> rfl

theorem demandStage_trailer (left right park : Bool) (s : State) :
    (demandStage left right park s).brake.trailer = s.brake.trailer := by
  simp [demandStage, State.onDemand, State.onBrake]

theorem inputChecks_trailer (s : State) : (inputChecks s).brake.trailer = s.brake.trailer := by
  have hraise (t : State) : (t.raise .parkAtSpeed none).brake = t.brake := t.raise_brake rfl
  have hreport (t : State) (v : Verdict) : (t.report .brakeSwitchDisagree v).brake = t.brake := t.report_brake v rfl
  unfold inputChecks
  dsimp only
  split
  · split <;> simp [State.onBrake, hraise, hreport]
  · simp [State.onBrake, hreport]

/-- A line that stage 5 can leave of a fitted trailer: not SUPPLY_OFF where park is released (R149). -/
def SupplyLine.Follows (park : Bool) (l : SupplyLine) : Prop := l ≠ .notFitted ∧ (park = false → l ≠ .supplyOff)

section
variable {park closed : Bool} {s : State}

theorem chargingStep_line (h : s.brake.trailer.line = .charging) :
    (chargingStep park closed s).brake.trailer.line.Follows park := by
  have hraise (t : State) : (t.raise .trailerSupplyNotCharged none).brake = t.brake := t.raise_brake rfl
  unfold chargingStep
  repeat' split
  all_goals simp_all [SupplyLine.Follows, State.onTrailer, State.onBrake, enterLine]

theorem breakaway_line (s : State) : (breakaway s).brake.trailer.line = .lost := by
  rw [breakaway, State.raise_brake _ rfl]
  rfl

theorem readyStep_line (h : s.brake.trailer.line = .ready) :
    (readyStep park closed s).brake.trailer.line.Follows park := by
  unfold readyStep
  dsimp only
  split
  next hp => simp [SupplyLine.Follows, State.onTrailer, State.onBrake, enterLine, hp]
  · refine iteInduction (motive := fun t : State => t.brake.trailer.line.Follows park) (fun _ => ?_) (fun _ => ?_)
    · rw [breakaway_line]
      simp [SupplyLine.Follows]
    · simp [SupplyLine.Follows, State.onTrailer, State.onBrake, h]

theorem lostStep_line (h : s.brake.trailer.line = .lost) :
    (lostStep closed s).brake.trailer.line.Follows park := by
  unfold lostStep State.clearLatch
  dsimp only
  split <;> simp [SupplyLine.Follows, State.onTrailer, State.onBrake, enterLine, h]

theorem supplyStage_line (h : s.brake.trailer.line ≠ .notFitted) :
    (supplyStage park closed s).brake.trailer.line.Follows park := by
  unfold supplyStage
  split
  next hl => exact absurd hl h
  next hl =>
    split
    next hp => simp [SupplyLine.Follows, hl, hp]
    · simp [SupplyLine.Follows, State.onTrailer, State.onBrake, enterLine]
  next hl => exact chargingStep_line hl
  next hl => exact readyStep_line hl
  next hl => exact lostStep_line hl

end

theorem deviationStage_trailer (s : State) : (deviationStage s).brake.trailer = s.brake.trailer := by
  have hreport (t : State) (v : Verdict) : (t.report .trailerPressureDeviation v).brake = t.brake := t.report_brake v rfl
  simp [deviationStage, State.onBrake, hreport]

/-! ### The Trailer State that a brake step leaves (R148) -/

/-- What the trailer's command says of the state `t` that a brake step leaves of `s`. -/
structure State.Commanded (s t : State) (park : Bool) : Prop where
  fitted : t.brake.trailer.line ≠ .notFitted
  released : park = false → t.brake.trailer.line ≠ .supplyOff
  assist : t.brake.trailer.assist = (s.seq.published.shuttleDecel && decide (300 < s.speed.set.vGround))
  command : t.brake.trailer.pTc =
    commandOf t.brake.trailer.line t.brake.trailer.pMap s.trailerCal.pAssist t.brake.trailer.assist

/-- Channel 13 follows P_tc, and stands at 0 in NOT_FITTED (R146, R148). -/
theorem trailerOutputs_demand (s : State) : (trailerOutputs s).chan.channels.trailerControl.demand =
    if s.brake.trailer.line = .notFitted then 0 else s.brake.trailer.pTc := by
  unfold trailerOutputs
  refine Eq.trans (congrArg Channel.demand (State.demand_get_other _ _ (j := .trailerControl) ?_)) (State.demand_get _ _ ?_)
  all_goals decide

section
variable (inp : BrakeInputs) (s : State)

/-- Stages 1 to 4 of a brake step: the readings, Brake Demand and the input checks. -/
def brakeReadings : State :=
  inputChecks (demandStage inp.pedalLeft inp.pedalRight inp.parkApplied
    (transducerStage (clamp 0 4095 inp.rawBrake) (lineStage (clamp 0 4095 inp.rawLine) inp.supplyClosed
      (s.onBrake (fun b => { b with rawBrake := clamp 0 4095 inp.rawBrake })))))

theorem brakeStep_eq : brakeStep inp s = (trailerOutputs (if (brakeReadings inp s).fitted then
    deviationStage (lineCommand (supplyStage inp.parkApplied inp.supplyClosed (brakeReadings inp s)))
  else brakeReadings inp s)).onBrake (fun b => { b with report := b.trailer }) := rfl

theorem brakeReadings_line : (brakeReadings inp s).brake.trailer.line = s.brake.trailer.line := by
  simp only [brakeReadings, inputChecks_trailer, demandStage_trailer, transducerStage_trailer, lineStage_line]
  rfl

theorem brakeReadings_frame : (brakeReadings inp s).seq = s.seq ∧ (brakeReadings inp s).speed = s.speed ∧
    (brakeReadings inp s).store = s.store := by
  simp [brakeReadings]

/-- A brake step without a trailer leaves the line in NOT_FITTED and channel 13 without demand (R146). -/
theorem brakeStep_notFitted (h : s.brake.trailer.line = .notFitted) :
    (brakeStep inp s).brake.trailer.line = .notFitted ∧ (brakeStep inp s).chan.channels.trailerControl.demand = 0 := by
  have hline : (brakeReadings inp s).brake.trailer.line = .notFitted := (brakeReadings_line inp s).trans h
  have hstep : brakeStep inp s =
      (trailerOutputs (brakeReadings inp s)).onBrake (fun b => { b with report := b.trailer }) := by
    simp [brakeStep_eq, State.fitted, hline]
  rw [hstep]
  generalize brakeReadings inp s = t at hline
  refine ⟨?_, ?_⟩
  · simpa [State.onBrake] using hline
  · exact (trailerOutputs_demand _).trans (if_pos hline)

/-- A brake step with a trailer fitted gives the line's command, and channel 13 follows it (R148). -/
theorem brakeStep_fitted (h : s.brake.trailer.line ≠ .notFitted) : s.Commanded (brakeStep inp s) inp.parkApplied ∧
    (brakeStep inp s).chan.channels.trailerControl.demand = (brakeStep inp s).brake.trailer.pTc := by
  have hread : (brakeReadings inp s).brake.trailer.line ≠ .notFitted := by rwa [brakeReadings_line]
  obtain ⟨hseq, hspeed, hstore⟩ := brakeReadings_frame inp s
  obtain ⟨hfitted, hreleased⟩ := supplyStage_line (park := inp.parkApplied) (closed := inp.supplyClosed) hread
  have hstep : brakeStep inp s = (trailerOutputs (deviationStage (lineCommand (supplyStage inp.parkApplied
      inp.supplyClosed (brakeReadings inp s))))).onBrake (fun b => { b with report := b.trailer }) := by
    simp [brakeStep_eq, State.fitted, hread]
  have hseq' : (supplyStage inp.parkApplied inp.supplyClosed (brakeReadings inp s)).seq = s.seq := by simp [hseq]
  have hspeed' : (supplyStage inp.parkApplied inp.supplyClosed (brakeReadings inp s)).speed = s.speed := by simp [hspeed]
  have hcal : (supplyStage inp.parkApplied inp.supplyClosed (brakeReadings inp s)).trailerCal = s.trailerCal := by
    simp [State.trailerCal, hstore]
  generalize supplyStage inp.parkApplied inp.supplyClosed (brakeReadings inp s) = u at *
  have htrailer : (brakeStep inp s).brake.trailer = (lineCommand u).brake.trailer := by
    rw [hstep]
    simp [State.onBrake, deviationStage_trailer]
  have houtput : (brakeStep inp s).chan.channels.trailerControl.demand = (lineCommand u).brake.trailer.pTc := by
    rw [hstep]
    refine (trailerOutputs_demand _).trans ?_
    rw [deviationStage_trailer]
    exact if_neg hfitted
  refine ⟨⟨?_, fun hp => ?_, ?_, ?_⟩, by rw [houtput, htrailer]⟩
  · rw [htrailer]
    exact hfitted
  · rw [htrailer]
    exact hreleased hp
  · rw [htrailer, ← hseq', ← hspeed']
    rfl
  · rw [htrailer, ← hcal]
    rfl

end

end Sys2Proof.Machine

/-! ### The obligation -/

namespace Sys2Proof.Proofs

/-- Settles O18: a shift step publishes `decelNow` (`shiftStep_published`, `shiftStep_decel`), and a brake step leaves the
Trailer State that `State.Commanded` describes. -/
theorem shuttleDecel : Obligations.ShuttleDecel := by
  intro s dt hrun
  refine ⟨fun pedal => ⟨_, exec_of_running rfl hrun, ?_, ?_⟩, fun inp => ⟨_, exec_of_running rfl hrun, ?_, ?_, ?_⟩⟩
  · have hdecel := shiftStep_decel pedal (s.advance dt)
    have hpublished := shiftStep_published pedal (s.advance dt)
    generalize shiftStep pedal (s.advance dt) = t at *
    rw [hpublished, gearState_shuttleDecel, hdecel]
    exact decelNow_iff _
  · have hpublished := shiftStep_published pedal (s.advance dt)
    generalize shiftStep pedal (s.advance dt) = t at *
    rw [hpublished, gearState_shuttleDecel]
  · exact brakeStep_notFitted inp (s.advance dt)
  · intro hline
    obtain ⟨h, hdemand⟩ := brakeStep_fitted inp (s.advance dt) hline
    generalize brakeStep inp (s.advance dt) = t at *
    obtain ⟨_, hreleased, hassist, hcommand⟩ := h
    refine ⟨?_, fun hl => ?_, fun hl => ?_, fun hl => ?_, fun hp hl => ?_, hdemand⟩
    · rw [hassist, Bool.and_eq_true, decide_eq_true_iff]
      rfl
    · rw [hcommand, hl, commandOf]
    · rw [hcommand]
      rcases hl with hl | hl <;> rw [hl] <;> rfl
    · rw [hcommand, hl, commandOf]
    · have hoff := hreleased hp
      rw [hcommand]
      cases hline : t.brake.trailer.line <;> simp_all [commandOf]
      all_goals split <;> simp
  · intro h
    rw [State.trailerCal, h]

end Sys2Proof.Proofs
end

section
/-! PROOFS. What the store, the Fault Manager and the links leave of fault 19 and of the operator's demand while a shift ends
(R54, R92, R159 to R162), and what stages 8 to 10 of a shift step leave of the stages before them (R40). -/

open Sys2Proof Sys2Proof.Machine

namespace Sys2Proof.Machine

/-! ### Beside fault 19 and the operator's demand -/

/-- Between two states neither the activity of fault 19 nor the copy of OPERATOR_DEMAND_A has changed. -/
structure State.Spares (s t : State) : Prop where
  timeout : t.active .shiftTimeout = s.active .shiftTimeout
  demand : t.link.demandA = s.link.demandA

theorem State.Spares.refl (s : State) : s.Spares s := ⟨rfl, rfl⟩

theorem State.Spares.trans {s t u : State} (h : s.Spares t) (k : t.Spares u) : s.Spares u :=
  ⟨k.timeout.trans h.timeout, k.demand.trans h.demand⟩

theorem State.onLink_demandA (s : State) (l : Link) (f : LinkState → LinkState) :
    (s.onLink l f).link.demandA = s.link.demandA := by cases l <;> rfl

theorem offerNoticesUpTo_demandA (n : Nat) (s : State) : (offerNoticesUpTo n s).link.demandA = s.link.demandA := by
  induction n generalizing s with
  | zero => rfl
  | succ n ih =>
    unfold offerNoticesUpTo
    split
    · split
      · rw [ih, State.placeNotice_link, State.pushOut, State.onLink_demandA]
      · rfl
    · rfl

theorem State.offerNotices_demandA (s : State) : s.offerNotices.link.demandA = s.link.demandA :=
  offerNoticesUpTo_demandA 16 s

theorem State.reportInactive_demandA (s : State) (c : FaultCode) : (s.reportInactive c).link.demandA = s.link.demandA := by
  unfold State.reportInactive
  split
  · rw [State.inactive, State.offerNotices_demandA]
    exact foldl_keeps (fun t : State => t.link.demandA = s.link.demandA) _ _ _ rfl fun t g _ ht => by simp [ht]
  · rfl

theorem State.raise_storeWrite_spares (s : State) : s.Spares (s.raise .storeWrite none) := by
  refine ⟨by simp, ?_⟩
  rw [State.raise, State.offerNotices_demandA]
  rfl

section
variable (s : State)

theorem dropWrite_spares : s.Spares (dropWrite s) := by
  have hrestore (w : Write) (u : State) : u.Spares (restoreOffsets w u) := by
    unfold restoreOffsets
    split <;> exact ⟨rfl, rfl⟩
  have hrun (w : Write) (r : Option RunReason) (u : State) : u.Spares (endRunOf w r u) := by
    unfold endRunOf
    split <;> exact ⟨rfl, rfl⟩
  unfold dropWrite
  split
  · exact .refl s
  · exact State.Spares.trans (t := s.onStore _) ⟨rfl, rfl⟩
      (((hrestore _ _).trans (State.raise_storeWrite_spares _)).trans (hrun _ _ _))

theorem startWrite_spares : s.Spares (startWrite s) := by
  unfold startWrite
  split
  · exact .refl s
  · exact dropWrite_spares s
  · dsimp only
    split <;> exact ⟨rfl, rfl⟩

theorem takeNextUpTo_spares (n : Nat) : s.Spares (takeNextUpTo n s) := by
  induction n generalizing s with
  | zero => exact .refl s
  | succ n ih =>
    unfold takeNextUpTo
    split
    · exact State.Spares.trans (t := s.onStore _) ⟨rfl, rfl⟩ ((startWrite_spares _).trans (ih _))
    · exact .refl s

theorem State.handWrite_spares (w : Write) : s.Spares (s.handWrite w) :=
  State.Spares.trans (t := s.onStore _) ⟨rfl, rfl⟩ (takeNextUpTo_spares _ _)

theorem changeWorking_spares (c : Clutch) (v : Int) : s.Spares (changeWorking c v s) := by
  have hoffset (u : State) : u.Spares (handOffset c u) := by
    unfold handOffset
    split
    · exact u.handWrite_spares _
    · exact .refl u
  have hset : s.Spares (s.onStore (fun t => { t with working := t.working.set c v })) := ⟨rfl, rfl⟩
  unfold changeWorking
  dsimp only
  split
  · exact hset.trans (hoffset _)
  · exact hset

theorem adaptationOutcome_spares (eligible : Bool) : s.Spares (adaptationOutcome eligible s) := by
  have hclear : s.Spares (s.onStore (fun t => { t with watch := none })) := ⟨rfl, rfl⟩
  unfold adaptationOutcome
  split
  · exact .refl s
  · dsimp only
    split
    · split
      · exact hclear.trans (changeWorking_spares _ _ _)
      · exact hclear
    · exact hclear

theorem endTorque_spares : s.Spares (endTorque s) := by
  unfold endTorque
  split
  · exact .refl s
  · split
    · exact .refl s
    · exact ⟨by simp [State.active, State.onShift, State.onSeq], State.onLink_demandA ..⟩

theorem clearShift_spares : s.Spares (clearShift s) := by
  unfold clearShift
  split
  · exact .refl s
  · exact (endTorque_spares s).trans ⟨rfl, rfl⟩

end

/-! ### Stages 8 and 9 beside a shift, or with auto-shift and the slip check at rest (R56, R63, R64) -/

/-- What stages 8 and 9 leave of the sequencer's records where neither acts: all but the torque part of the shift in flight,
and a draft hold that has begun at this step. -/
structure State.Carries (s t : State) : Prop where
  gear : t.seq.gear = s.seq.gear
  target : t.seq.target = s.seq.target
  pending : t.seq.pendingTarget = s.seq.pendingTarget
  preselect : t.seq.preselect = s.seq.preselect
  lastDir : t.seq.lastDir = s.seq.lastDir
  clutches : t.seq.clutches = s.seq.clutches
  draftEnd : s.seq.draftEnd = some s.now → t.seq.draftEnd = some s.now
  shift : ∃ f : Option Torque → Option Torque, f none = none ∧
    t.seq.shift = s.seq.shift.map fun r => { r with torque := f r.torque }
  fault : t.fault = s.fault
  run : t.run = s.run
  now : t.now = s.now

theorem State.Carries.trans {s t u : State} (h : s.Carries t) (k : t.Carries u) : s.Carries u := by
  obtain ⟨f, hf, hshift⟩ := h.shift
  obtain ⟨g, hg, kshift⟩ := k.shift
  refine ⟨k.gear.trans h.gear, k.target.trans h.target, k.pending.trans h.pending, k.preselect.trans h.preselect,
    k.lastDir.trans h.lastDir, k.clutches.trans h.clutches, fun hd => ?_, ⟨g ∘ f, by simp [hf, hg], ?_⟩,
    k.fault.trans h.fault, k.run.trans h.run, k.now.trans h.now⟩
  · rw [← h.now]
    exact k.draftEnd (by rw [h.draftEnd hd, h.now])
  · rw [kshift, hshift, Option.map_map]
    rfl

/-- The torque part stands as it was. -/
theorem ShiftRec.map_torque (o : Option ShiftRec) : o = o.map fun r => { r with torque := id r.torque } := by
  cases o <;> rfl

section
variable {pedal : Nat} (s : State)

theorem autoTaken_carries : s.Carries (autoTaken s) := by
  unfold autoTaken
  repeat' split
  all_goals exact ⟨rfl, rfl, rfl, rfl, rfl, rfl, id, ⟨id, rfl, ShiftRec.map_torque _⟩, rfl, rfl, rfl⟩

theorem autoInputs_carries : s.Carries (autoInputs s) := by
  refine (autoTaken_carries s).trans ?_
  rw [autoInputs_eq]
  split <;> exact ⟨rfl, rfl, rfl, rfl, rfl, rfl, id, ⟨id, rfl, ShiftRec.map_torque _⟩, rfl, rfl, rfl⟩

/-- The auto_mode that stage 8 reads is the one held or the one of the demand (R64). -/
theorem autoInputs_autoMode : (autoInputs s).seq.autoMode = s.seq.autoMode ∨
    ∃ c, s.link.demandA = some c ∧ (autoInputs s).seq.autoMode = c.val.autoMode := by
  have hsame : (autoInputs s).seq.autoMode = (autoTaken s).seq.autoMode := by
    rw [autoInputs_eq]
    split <;> rfl
  rw [hsame]
  unfold autoTaken
  split
  · split
    next c hc => exact .inr ⟨c, hc, rfl⟩
    · exact .inl rfl
  · exact .inl rfl

variable {s}

/-- With a shift in flight, a pedal at 100 or above or auto_mode off, auto-shift is not armed (R64). -/
theorem autoArmed_of_rest (h : s.seq.shift ≠ none ∨ 100 ≤ pedal ∨
    s.seq.autoMode = false ∧ ∀ c, s.link.demandA = some c → c.val.autoMode = false) :
    autoArmed pedal (autoInputs s) = false := by
  rcases h with hshift | hpedal | ⟨hmode, hdemand⟩
  · obtain ⟨f, _, hf⟩ := (autoInputs_carries s).shift
    obtain ⟨r, hr⟩ := Option.ne_none_iff_exists'.mp hshift
    simp [autoArmed, hf, hr]
  · simp [autoArmed, Nat.not_lt.mpr hpedal]
  · have hoff : (autoInputs s).seq.autoMode = false := by
      rcases autoInputs_autoMode s with h | ⟨c, hc, h⟩
      · rw [h, hmode]
      · rw [h, hdemand c hc]
    simp [autoArmed, hoff]

theorem autoStage_carries (h : autoArmed pedal (autoInputs s) = false) : s.Carries (autoStage pedal s) := by
  rw [autoStage_of_unarmed s h]
  have hinputs := autoInputs_carries s
  generalize autoInputs s = t at hinputs
  exact hinputs.trans
    ⟨rfl, rfl, rfl, rfl, rfl, rfl, id, ⟨id, rfl, ShiftRec.map_torque _⟩, rfl, rfl, rfl⟩

theorem autoStage_slipSince (h : autoArmed pedal (autoInputs s) = false) :
    (autoStage pedal s).seq.slipSince = s.seq.slipSince := by
  rw [autoStage_of_unarmed s h, State.onSeq_seq, autoInputs_eq]
  unfold autoTaken
  repeat' split
  all_goals rfl

/-- The draft hold's end stands at the step at which it is set (R54). -/
theorem draftStage_seq (s : State) : ∃ d e, (draftStage s).seq = { s.seq with draftHold := d, draftEnd := e } ∧
    (s.seq.draftEnd = some s.now → e = some s.now) := by
  unfold draftStage
  split
  next hp =>
    refine ⟨false, none, rfl, fun hd => ?_⟩
    simp [passed, hd] at hp
  · exact ⟨s.seq.draftHold, s.seq.draftEnd, rfl, id⟩

/-- TORQUE_LIMIT moves the time of its next frame alone (R56). -/
theorem torqueStage_seq (s : State) : ∃ f : Option Torque → Option Torque, f none = none ∧
    (torqueStage s).seq = { s.seq with shift := s.seq.shift.map fun r => { r with torque := f r.torque } } := by
  have hsame : s.seq = { s.seq with shift := s.seq.shift.map fun r => { r with torque := id r.torque } } :=
    congrArg (fun o => { s.seq with shift := o }) (ShiftRec.map_torque s.seq.shift)
  unfold torqueStage
  split
  next q hq =>
    split
    · refine ⟨fun o => o.map fun _ => { q with nextSend := q.nextSend + 10 }, rfl, ?_⟩
      obtain ⟨r, hr, ht⟩ := Option.bind_eq_some_iff.mp hq
      simp [State.onShift, State.onSeq, hr, ht]
    · exact ⟨id, rfl, hsame⟩
  · exact ⟨id, rfl, hsame⟩

/-- What stages 8 and 9 leave where auto-shift is not armed and the slip check raises nothing: with a shift in flight, or at
the step at which the check's condition begins (R63, R64). -/
theorem lateStages_carries (hauto : autoArmed pedal (autoInputs s) = false)
    (hslip : s.seq.shift ≠ none ∨ s.seq.slipSince = none) : s.Carries (lateStages pedal s) := by
  have hcarry := autoStage_carries hauto
  have hsince := autoStage_slipSince hauto
  refine hcarry.trans ?_
  rw [lateStages]
  obtain ⟨f, _, hf⟩ := hcarry.shift
  generalize autoStage pedal s = a at *
  have hquiet : slipping pedal a = false ∨ a.seq.slipSince = none := by
    rcases hslip with hs | hs
    · obtain ⟨r, hr⟩ := Option.ne_none_iff_exists'.mp hs
      exact .inl (by simp [slipping, hf, hr])
    · exact .inr (hsince.trans hs)
  rw [slipStage_of_quiet hquiet]
  generalize holdSince a.now (slipping pedal a) a.seq.slipSince = since
  obtain ⟨d, e, hdraft, hend⟩ := draftStage_seq (a.onSeq fun q => { q with slipSince := since })
  obtain ⟨g, hg, htorque⟩ := torqueStage_seq (draftStage (a.onSeq fun q => { q with slipSince := since }))
  rw [hdraft] at htorque
  constructor
  case draftEnd => exact fun h => by rw [htorque]; exact hend h
  case shift => exact ⟨g, hg, by rw [htorque]; rfl⟩
  case fault => simp
  case run => simp
  case now => simp
  all_goals rw [htorque]; rfl

/-! ### The end of the step after stage 7 (R38 to R40) -/

/-- What stages 8 to 10 leave of a state after stage 7 where stages 8 and 9 are at rest. -/
structure State.Concludes (s t : State) : Prop where
  gear : t.seq.gear = s.seq.gear
  target : t.seq.target = s.seq.target
  pending : t.seq.pendingTarget = s.seq.pendingTarget
  preselect : s.seq.preselect = none → t.seq.preselect = none
  lastDir : t.seq.lastDir = s.seq.lastDir
  draftEnd : s.seq.draftEnd = some s.now → t.seq.draftEnd = some s.now
  shift : ∃ f : Option Torque → Option Torque, f none = none ∧
    t.seq.shift = s.seq.shift.map fun r => { r with torque := f r.torque }
  clutch : s.runInProgress = false → ∀ c, (t.seq.clutches.get c).state = (s.clutch c).state ∧
    (t.seq.clutches.get c).pressure = (s.clutch c).pressure
  active : ∀ c, t.active c = s.active c

theorem closingStage_concludes (hauto : autoArmed pedal (autoInputs s) = false)
    (hslip : s.seq.shift ≠ none ∨ s.seq.slipSince = none) :
    s.Concludes (closingStage pedal (lateStages pedal s)) := by
  have hlate := lateStages_carries hauto hslip
  generalize lateStages pedal s = u at *
  have hclose := closingStage_closed pedal u
  obtain ⟨f, hf, hshift⟩ := hlate.shift
  refine ⟨hclose.gear.trans hlate.gear, hclose.target.trans hlate.target, hclose.pending.trans hlate.pending,
    fun h => hclose.preselect (hlate.preselect.trans h), hclose.lastDir.trans hlate.lastDir,
    fun h => hclose.draftEnd.trans (hlate.draftEnd h), ⟨f, hf, hclose.shift.trans hshift⟩, fun hrun c => ?_, fun c => ?_⟩
  · have hrun' : u.runInProgress = false := by rw [State.runInProgress, hlate.run]; exact hrun
    obtain ⟨hstate, hpressure⟩ := closingStage_clutch pedal u (.inl hrun') c
    have hclutch : u.clutch c = s.clutch c := congrArg (PerClutch.get · c) hlate.clutches
    rw [hclutch] at hstate hpressure
    exact ⟨hstate, hpressure⟩
  · rw [State.active, hclose.fault, hlate.fault, State.active]

end

end Sys2Proof.Machine
end

section
/-! PROOFS. A shift step without a cause of the neutral reaction and without the upshift inhibit: what stages 1 to 5 leave
(R40, R43, R60), and the start of a shift (R44). -/

open Sys2Proof Sys2Proof.Machine

namespace Sys2Proof.Machine

/-! ### One clutch (R38) -/

section
variable (s : State) (c : Clutch)

theorem State.clutch_onClutch (f : ClutchRec → ClutchRec) :
    (s.onSeq (fun q => q.onClutch c f)).clutch c = f (s.clutch c) := clutch_get_set _ _ _

theorem State.clutch_onClutch_other (f : ClutchRec → ClutchRec) {d : Clutch} (h : d ≠ c) :
    (s.onSeq (fun q => q.onClutch c f)).clutch d = s.clutch d := clutch_get_set_other _ _ _ _ h

theorem State.clutch_release_other {d : Clutch} (h : d ≠ c) : (s.release c).clutch d = s.clutch d :=
  s.clutch_onClutch_other c _ h

theorem State.release_state : ((s.release c).clutch c).state = .releasing ∨ ((s.release c).clutch c).state = .vented := by
  rw [State.release, State.clutch_onClutch]
  exact (releaseClutch_state s.now _).symm

/-- A clutch set RELEASING stays VENTED where it is so (R38). -/
theorem State.release_vented {d : Clutch} (h : (s.clutch d).state = .vented) : ((s.release c).clutch d).state = .vented := by
  by_cases hd : d = c
  · subst hd
    rw [State.release, State.clutch_onClutch, releaseClutch, h]
    exact h
  · rw [s.clutch_release_other c hd, h]

theorem State.releaseEach_vented (l : List Clutch) {d : Clutch} (h : (s.clutch d).state = .vented) :
    ((s.releaseEach l).clutch d).state = .vented :=
  foldl_keeps (fun t : State => (t.clutch d).state = .vented) _ l s h fun t c _ ht => t.release_vented c ht

theorem State.releaseEach_other (l : List Clutch) {d : Clutch} (h : d ∉ l) : (s.releaseEach l).clutch d = s.clutch d :=
  foldl_keeps (fun t : State => t.clutch d = s.clutch d) _ l s rfl fun t c hc ht =>
    (t.clutch_release_other c (by rintro rfl; exact h hc)).trans ht

theorem State.releaseEach_state (l : List Clutch) {d : Clutch} (h : d ∈ l) :
    ((s.releaseEach l).clutch d).state = .releasing ∨ ((s.releaseEach l).clutch d).state = .vented := by
  induction l generalizing s with
  | nil => cases h
  | cons c rest ih =>
    by_cases hr : d ∈ rest
    · exact ih _ hr
    · obtain rfl := (List.mem_cons.mp h).resolve_right hr
      rw [State.releaseEach, List.foldl_cons, ← State.releaseEach, State.releaseEach_other _ rest hr]
      exact s.release_state d

theorem State.applyEach_other (l : List Clutch) {d : Clutch} (h : d ∉ l) : (s.applyEach l).clutch d = s.clutch d :=
  foldl_keeps (fun t : State => t.clutch d = s.clutch d) _ l s rfl fun t c hc ht =>
    (t.clutch_onClutch_other c _ (by rintro rfl; exact h hc)).trans ht

theorem State.applyEach_applied (l : List Clutch) {d : Clutch} (h : d ∈ l) :
    ((s.applyEach l).clutch d).state = .applied ∧ ((s.applyEach l).clutch d).pressure = 2000 := by
  induction l generalizing s with
  | nil => cases h
  | cons c rest ih =>
    by_cases hr : d ∈ rest
    · exact ih _ hr
    · obtain rfl := (List.mem_cons.mp h).resolve_right hr
      rw [State.applyEach, List.foldl_cons, ← State.applyEach, State.applyEach_other _ rest hr, State.applyAt,
        State.clutch_onClutch]
      exact ⟨rfl, rfl⟩

end

/-! ### Stages 1 to 5 with nothing to react to (R40, R43, R60) -/

/-- GEAR is the cab's, no cause of the neutral reaction holds, and neither a run nor the upshift inhibit. -/
structure State.Calm (s : State) : Prop where
  holder : s.holder .gear = .cab
  link : s.active .vehicleLinkLost = false
  gate : s.gateOpen .trans = true
  power : s.power.power = .run
  run : s.runInProgress = false
  inhibit : s.upshiftInhibit = false

/-- The state in which the RELEASING clutches have been judged, the causes noted and neutral-start judged. -/
def readied (c : Causes) (ok : Bool) (s : State) : State :=
  (ventStage s).onSeq (fun q => { q with causes := c, neutralStartOk := ok })

section
variable {pedal : Nat} {s : State}

theorem causesNow_of_calm (h : s.Calm) : causesNow s =
    { gateClosed := false, linkLostSlow := false, shutdown := false, partHolds := false } := by
  simp [causesNow, h.gate, h.link, h.power, h.holder]

theorem neutralStage_of_calm (h : s.Calm) : neutralStage s = s.onSeq (fun q => { q with causes := causesNow s }) := by
  have hnew : (causesNow s).newSince s.seq.causes = false := by rw [causesNow_of_calm h]; rfl
  unfold neutralStage
  simp only [hnew, h.link, Bool.false_eq_true, if_false]

theorem earlyStages_of_calm (h : s.Calm) : ∃ c ok, earlyStages pedal s = pedalStage pedal (readied c ok s) := by
  have hvent : (ventStage s).Calm := { h with }
  rw [earlyStages, neutralStage_of_calm hvent]
  unfold neutralStartStage
  dsimp only
  generalize causesNow (ventStage s) = c
  refine ⟨c, ?_⟩
  refine iteInduction (motive := fun t => ∃ ok, pedalStage pedal t = pedalStage pedal (readied c ok s)) ?_ ?_
  · exact fun _ => ⟨true, rfl⟩
  · exact fun _ => ⟨s.seq.neutralStartOk, rfl⟩

theorem State.Calm.earlyStages (h : s.Calm) : (Machine.earlyStages pedal s).Calm := by
  have hframe : (Machine.earlyStages pedal s).auth = s.auth ∧ (Machine.earlyStages pedal s).fault = s.fault ∧
      (Machine.earlyStages pedal s).power = s.power ∧ (Machine.earlyStages pedal s).run = s.run ∧
      (Machine.earlyStages pedal s).brake = s.brake := by simp [Machine.earlyStages]
  obtain ⟨hauth, hfault, hpower, hrun, hbrake⟩ := hframe
  constructor
  · rw [State.holder, hauth]; exact h.holder
  · rw [State.active, hfault]; exact h.link
  · rw [State.gateOpen, hfault]; exact h.gate
  · rw [hpower]; exact h.power
  · rw [State.runInProgress, hrun]; exact h.run
  · rw [State.upshiftInhibit, hbrake]; exact h.inhibit

theorem inhibitStage_of_calm (h : s.Calm) : inhibitStage s = s := by simp [inhibitStage, h.inhibit]

/-! ### The pedal and the clutches that it does not move (R58, R59) -/

theorem vent_vented {now : Nat} {r : ClutchRec} (h : r.state = .vented) : (vent now r).state = .vented := by
  simp [vent, h]

theorem vent_applied {now : Nat} {r : ClutchRec} : (vent now r).state = .applied ↔ r.state = .applied := by
  unfold vent
  split
  next h => simp [h.1]
  · rfl

section
variable (s : State)

theorem reengagedStep_besides (c : Clutch) (limit : Nat) : (reengagedStep c limit s).seq.besides = s.seq.besides := by
  unfold reengagedStep
  repeat' split
  all_goals rfl

/-- A re-engagement moves its clutch alone (R59). -/
theorem reengagedStep_other (c : Clutch) (limit : Nat) {d : Clutch} (h : d ≠ c) :
    (reengagedStep c limit s).clutch d = s.clutch d := by
  unfold reengagedStep
  split
  · exact s.clutch_onClutch_other c _ h
  · split
    · exact s.clutch_onClutch_other c _ h
    · rfl
  · exact s.clutch_onClutch_other c _ h
  · rfl

/-- A re-engagement that begins applies no clutch: one that is VENTED is filled, one RELEASING waits (R59). -/
theorem reengagedStep_begins (c : Clutch) (limit : Nat)
    (h : (s.clutch c).state = .vented ∨ (s.clutch c).state = .releasing) :
    (s.clutch c).state ≠ .applied ∧ ((reengagedStep c limit s).clutch c).state ≠ .applied := by
  unfold reengagedStep
  rcases h with h | h
  · simp only [h, State.fill, State.clutch_onClutch]
    simp
  · simp [h]

/-- With the pedal at 900 or below, stage 4 moves the engaged direction clutch alone (R59). -/
theorem pedalUp_seq (pedal : Nat) : ∃ k b, (pedalUp pedal s).seq = { s.seq with clutches := k, reengaged := b } := by
  unfold pedalUp
  dsimp only
  split
  · exact ⟨_, _, rfl⟩
  · split
    · exact ⟨_, true, SeqState.eq_but_clutches (reengagedStep_besides _ _ _)⟩
    · exact ⟨_, _, rfl⟩

theorem pedalUp_other (pedal : Nat) {d : Clutch} (h : s.seq.gear ≠ .neutral → d ≠ dirOf s.seq.gear) :
    (pedalUp pedal s).clutch d = s.clutch d := by
  unfold pedalUp
  dsimp only
  split
  · rfl
  next hg =>
    split
    · exact reengagedStep_other _ _ _ (h hg)
    · rfl

/-- A pedal at 900 or below leaves the APPLIED clutches where no re-engagement goes on (R59). -/
theorem pedalUp_applied (pedal : Nat) (h : s.seq.reengaged = false) (d : Clutch) :
    ((pedalUp pedal s).clutch d).state = .applied ↔ (s.clutch d).state = .applied := by
  by_cases hd : s.seq.gear ≠ .neutral → d ≠ dirOf s.seq.gear
  · rw [pedalUp_other s pedal hd]
  · obtain ⟨hg, hd⟩ := Classical.not_imp.mp hd
    obtain rfl := not_not.mp hd
    unfold pedalUp
    simp only [hg, if_false, h, Bool.false_or]
    split
    next hr =>
      have hstate := (Bool.and_eq_true_iff.mp hr).2
      simp only [Bool.or_eq_true, decide_eq_true_eq] at hstate
      obtain ⟨hbefore, hafter⟩ := reengagedStep_begins (s.onSeq fun q => { q with reengaged := true })
        (dirOf s.seq.gear) (pedalLimit pedal (s.kiss (dirOf s.seq.gear))) hstate
      exact iff_of_false hafter hbefore
    · rfl

end

/-- What stages 1 to 5 leave of a part with no shift in flight and no re-engagement going on. -/
structure State.Poised (pedal : Nat) (s t : State) : Prop where
  gear : t.seq.gear = s.seq.gear
  target : t.seq.target = s.seq.target
  preselect : t.seq.preselect = s.seq.preselect
  shift : t.seq.shift = none
  unheld : ∀ c, c ∉ heldClutches s.seq → (s.clutch c).state = .vented → (t.clutch c).state = .vented
  applied : pedal ≤ 900 → ∀ c, (t.clutch c).state = .applied ↔ (s.clutch c).state = .applied

theorem readied_clutch (c : Causes) (ok : Bool) (s : State) (d : Clutch) :
    (readied c ok s).clutch d = vent s.now (s.clutch d) := clutch_get_mapWith _ _ _

/-- The engaged direction clutch is held by its gear (R44). -/
theorem dirOf_mem_heldClutches {q : SeqState} (h : q.gear ≠ .neutral) : dirOf q.gear ∈ heldClutches q := by
  unfold heldClutches
  cases hg : q.gear with
  | neutral => exact absurd hg h
  | fwd n => simp [elements, dirOf, Gear.dir, dirClutch]
  | rev n => simp [elements, dirOf, Gear.dir, dirClutch]

theorem earlyStages_poised (h : s.Calm) (hshift : s.seq.shift = none) (hre : s.seq.reengaged = false) :
    s.Poised pedal (earlyStages pedal s) := by
  obtain ⟨c, ok, he⟩ := earlyStages_of_calm (pedal := pedal) h
  rw [he, pedalStage]
  split
  next hp =>
    have hdown : pedalDown (readied c ok s) =
        ((readied c ok s).releaseEach [.cf, .cv]).onSeq (fun q => { q with reengaged := false }) := by
      have hs : (((readied c ok s).releaseEach [.cf, .cv]).onSeq (fun q => { q with reengaged := false })).seq.shift
        = none := hshift
      simp only [pedalDown, hs]
    rw [hdown]
    refine ⟨rfl, rfl, rfl, hshift, fun d _ hv => ?_, fun hle => absurd hp (Nat.not_lt.mpr hle)⟩
    exact (readied c ok s).releaseEach_vented [.cf, .cv] (by rw [readied_clutch]; exact vent_vented hv)
  · obtain ⟨k, b, hseq⟩ := pedalUp_seq (readied c ok s) pedal
    refine ⟨by rw [hseq]; rfl, by rw [hseq]; rfl, by rw [hseq]; rfl, by rw [hseq]; exact hshift, fun d hd hv => ?_,
      fun _ d => ?_⟩
    · rw [pedalUp_other _ _ fun hg => by rintro rfl; exact hd (dirOf_mem_heldClutches (q := s.seq) hg), readied_clutch]
      exact vent_vented hv
    · rw [pedalUp_applied (readied c ok s) pedal hre, readied_clutch]
      exact vent_applied

/-! ### The start of a shift (R44, R58) -/

theorem kindOf_shuttle_iff (g t : Gear) : kindOf g t = .shuttle ↔ g.dir ≠ t.dir := by
  unfold kindOf
  repeat' split
  all_goals simp_all

theorem kindOf_simple_iff (g t : Gear) :
    kindOf g t = .simple ↔ g.dir = t.dir ∧ rangeClutch g.num = rangeClutch t.num := by
  unfold kindOf
  repeat' split
  all_goals simp_all

/-- The conditions of R44 hold where GEAR is the cab's, the target is another gear and every clutch beside those held is
VENTED. -/
theorem mayStart_of_calm (h : s.Calm) (hshift : s.seq.shift = none) (htarget : s.seq.target ≠ .neutral)
    (hgear : s.seq.target ≠ s.seq.gear) (hheld : ∀ c, c ∉ heldClutches s.seq → (s.clutch c).state = .vented) :
    mayStart s = true := by
  have hcauses : (causesNow s).any = false := by rw [causesNow_of_calm h]; rfl
  have hvented : s.allIn .vented (allClutches.filter (fun c => decide (c ∉ heldClutches s.seq))) = true := by
    simp only [State.allIn, List.all_eq_true, List.mem_filter, decide_eq_true_eq]
    exact fun c hc => hheld c hc.2
  unfold mayStart
  dsimp only
  rw [hvented]
  simp [hshift, htarget, hgear, h.holder, h.link, h.gate, h.run, hcauses]

/-- The parts of a shift record that its phases leave are those of its plan. -/
theorem ShiftRec.of_plan {d r : ShiftRec} (h : d.plan = r.plan) : d.kind = r.kind ∧ d.start = r.start ∧
    d.onComing = r.onComing ∧ d.offGoing = r.offGoing ∧ d.declutched = r.declutched ∧ d.timedOut = r.timedOut := by
  have hkeep {α : Type} (f : ShiftRec → α) : f d.plan = f r.plan := by rw [h]
  exact ⟨hkeep kind, hkeep start, hkeep onComing, hkeep offGoing, hkeep declutched, hkeep timedOut⟩

/-- What the start of a shift asks of its record, which its first phase and stages 8 and 9 keep (R44). -/
structure ShiftRec.Begun (pedal : Nat) (s : State) (r : ShiftRec) : Prop where
  start : r.start = s.now
  timedOut : r.timedOut = false
  kind : r.kind = kindOf s.seq.gear s.seq.target
  declutched : 900 < pedal → r.declutched = true ∧ r.phase = .finish
  direct : pedal ≤ 900 → r.declutched = false ∧ r.lockCount = 0
  torque : pedal ≤ 900 → r.kind ≠ .compound → r.torque = none ∧ r.degraded = false
  onComing : ∀ c, c ∈ r.onComing ↔ c ∈ elements s.seq.target ∧ (s.clutch c).state ≠ .applied
  offGoing : ∀ c, c ∈ r.offGoing ↔ c ∉ elements s.seq.target ∧ (s.clutch c).state = .applied
  simple : pedal ≤ 900 → r.kind = .simple → r.phase = .prefill
  compound : pedal ≤ 900 → r.kind = .compound → r.phase = .dirDown
  shuttle : pedal ≤ 900 → r.kind = .shuttle → r.phase = .dirRelease ∨ r.phase = .dirFill

theorem newShift_onComing (pedal : Nat) (s : State) (c : Clutch) : c ∈ (newShift pedal s).onComing ↔
    c ∈ elements s.seq.target ∧ (s.clutch c).state ≠ .applied := by
  simp [newShift, List.mem_filter]

theorem newShift_offGoing (pedal : Nat) (s : State) (c : Clutch) : c ∈ (newShift pedal s).offGoing ↔
    c ∉ elements s.seq.target ∧ (s.clutch c).state = .applied := by
  have hall : c ∈ allClutches := by cases c <;> decide
  simp [newShift, List.mem_filter, hall, and_comm]

theorem newShift_phase (pedal : Nat) (s : State) : (newShift pedal s).phase =
    match (newShift pedal s).kind with
    | .simple => .prefill
    | .compound => .dirDown
    | .shuttle => .dirRelease := rfl

/-- A shift without a torque part that is declutched goes to FINISH (R58). -/
theorem declutch_shift (q : ShiftRec) {r : ShiftRec} (h : s.seq.shift = some r) (ht : r.torque = none) :
    (declutch q s).seq.shift =
      some { r with declutched := true, eligible := false, lockCount := 0, phase := .finish } := by
  have htorque : endTorque s = s := by simp [endTorque, h, ht]
  have hrelease (l : List Clutch) : (s.releaseEach l).seq.shift = some r :=
    foldl_keeps (fun t : State => t.seq.shift = some r) _ l s h fun t c _ ht => ht
  have hswap (t : State) (c : Clutch) : (swapNow t c).seq.shift = t.seq.shift := by
    unfold swapNow
    split <;> rfl
  have hswaps : ((gearClutches q.onComing).foldl swapNow ((endTorque s).releaseEach (gearClutches q.offGoing))).seq.shift
      = some r := by
    rw [htorque]
    exact foldl_keeps (fun t : State => t.seq.shift = some r) _ _ _ (hrelease _) fun t c _ ht => (hswap t c).trans ht
  simp only [declutch, State.onShift, State.onSeq_seq, hswaps, Option.map_some]

/-- What the first phase of a shift changes of its record: a COMPOUND begins its torque part, and a SHUTTLE may pass to
DIR_FILL at once (R45, R48, R51). -/
theorem firstPhase_shift {r : ShiftRec} (h : s.seq.shift = some r) : ∃ d, (firstPhase r s).seq.shift = some d ∧
    d.plan = r.plan ∧ d.lockCount = r.lockCount ∧ (r.kind ≠ .compound → d.torque = r.torque ∧ d.degraded = r.degraded) ∧
    (d.phase = r.phase ∨ r.kind = .shuttle ∧ d.phase = .dirFill) := by
  unfold firstPhase
  split
  next hk => exact ⟨r, h, rfl, rfl, fun _ => ⟨rfl, rfl⟩, .inl rfl⟩
  next hk =>
    simp only [beginTorque, State.onShift, State.onSeq_seq, State.applyAt, SeqState.onClutch, h, Option.map_some]
    exact ⟨_, rfl, rfl, rfl, fun hn => absurd hk hn, .inl rfl⟩
  next hk =>
    have hfill (l : List Clutch) (t : State) : (t.fillEach l).seq.shift = t.seq.shift :=
      foldl_keeps (fun u : State => u.seq.shift = t.seq.shift) _ l t rfl fun u c _ hu => hu
    have hrelease (l : List Clutch) (t : State) : (t.releaseEach l).seq.shift = t.seq.shift :=
      foldl_keeps (fun u : State => u.seq.shift = t.seq.shift) _ l t rfl fun u c _ hu => hu
    have hmoved : ((((s.releaseEach [.cf, .cv]).onSeq (fun q => { q with reengaged := false })).releaseEach
        (gearClutches r.offGoing)).fillEach (gearClutches r.onComing)).seq.shift = some r := by
      rw [hfill, hrelease]
      exact (hrelease _ s).trans h
    dsimp only
    generalize (((s.releaseEach [.cf, .cv]).onSeq (fun q => { q with reengaged := false })).releaseEach
        (gearClutches r.offGoing)).fillEach (gearClutches r.onComing) = t at hmoved
    unfold leaveDirRelease
    split
    · simp only [State.setPhase, State.onShift, State.onSeq_seq, State.fill, SeqState.onClutch, hmoved, Option.map_some]
      exact ⟨_, rfl, rfl, rfl, fun _ => ⟨rfl, rfl⟩, .inr ⟨hk, rfl⟩⟩
    · exact ⟨r, hmoved, rfl, rfl, fun _ => ⟨rfl, rfl⟩, .inl rfl⟩

/-- A shift starts with the record of its kind (R44). -/
theorem startShift_begun (pedal : Nat) (s : State) : ∃ r, (startShift pedal s).seq.shift = some r ∧ r.Begun pedal s := by
  unfold startShift
  dsimp only
  split
  next hp =>
    refine ⟨_, declutch_shift _ rfl rfl, rfl, rfl, rfl, fun _ => ⟨rfl, rfl⟩, ?_, ?_, newShift_onComing pedal s,
      newShift_offGoing pedal s, ?_, ?_, ?_⟩
    all_goals exact fun hle => absurd hp (Nat.not_lt.mpr hle)
  next hp =>
    obtain ⟨d, hd, hplan, hlock, htorque, hphase⟩ := firstPhase_shift (r := newShift pedal s)
      (s := s.onSeq (fun q =>
        { q with shift := some (newShift pedal s), upSince := none, downSince := none, choiceSince := none }))
      rfl
    obtain ⟨hkind, hstart, hon, hoff, hdeclutched, htimed⟩ := ShiftRec.of_plan hplan
    have hfirst := newShift_phase pedal s
    refine ⟨d, hd, hstart, htimed, hkind, fun hlt => absurd hlt hp, fun _ => ⟨hdeclutched, hlock⟩, fun _ hk => ?_, ?_, ?_,
      fun _ hk => ?_, fun _ hk => ?_, fun _ hk => ?_⟩
    · exact htorque (hkind ▸ hk)
    · rw [hon]; exact newShift_onComing pedal s
    · rw [hoff]; exact newShift_offGoing pedal s
    all_goals rw [hkind] at hk; rw [hk] at hfirst hphase
    · exact (hphase.resolve_right (by simp)).trans hfirst
    · exact (hphase.resolve_right (by simp)).trans hfirst
    · exact hphase.imp (fun h => h.trans hfirst) (·.2)

/-- The torque part apart, a record that has begun is one that the rest of the step leaves so. -/
theorem ShiftRec.Begun.with_torque {r : ShiftRec} (h : r.Begun pedal s) {f : Option Torque → Option Torque}
    (hf : f none = none) : ShiftRec.Begun pedal s { r with torque := f r.torque } :=
  { h with torque := fun hle hk => ⟨(congrArg f (h.torque hle hk).1).trans hf, (h.torque hle hk).2⟩ }

/-- In a calm step the first shift step with another gear as target starts the shift (R44). -/
theorem shiftStep_starts (h : s.Calm) (hshift : s.seq.shift = none) (htarget : s.seq.target ≠ .neutral)
    (hgear : s.seq.target ≠ s.seq.gear) (hre : s.seq.reengaged = false)
    (hheld : ∀ c, c ∉ heldClutches s.seq → (s.clutch c).state = .vented) :
    (shiftStep pedal s).seq.gear = s.seq.gear ∧ (shiftStep pedal s).seq.target = s.seq.target ∧
      ∃ r e, (shiftStep pedal s).seq.shift = some r ∧ r.Begun pedal e ∧ e.now = s.now ∧ s.Poised pedal e := by
  have hpoised := earlyStages_poised (pedal := pedal) h hshift hre
  have hcalm : (earlyStages pedal s).Calm := h.earlyStages
  have hnow : (earlyStages pedal s).now = s.now := by simp [earlyStages]
  rw [shiftStep_eq, inhibitStage_of_calm hcalm, progressStage_of_none hpoised.shift, hshift]
  generalize earlyStages pedal s = e at *
  have hmay : mayStart e = true := mayStart_of_calm hcalm hpoised.shift (by rwa [hpoised.target])
    (by rwa [hpoised.target, hpoised.gear]) fun c hc => by
      have hc' : c ∉ heldClutches s.seq := by
        rwa [heldClutches, hpoised.gear, hpoised.preselect, ← heldClutches] at hc
      exact hpoised.unheld c hc' (hheld c hc')
  obtain ⟨r, hr, hbegun⟩ := startShift_begun pedal e
  have hstart : startStage pedal (none : Option ShiftRec).isSome e = startShift pedal e := by simp [startStage, hmay]
  rw [hstart]
  have hcourse := startShift_course e pedal
  have hsome : (startShift pedal e).seq.shift ≠ none := by simp [hr]
  have hend := closingStage_concludes (autoArmed_of_rest (pedal := pedal) (.inl hsome)) (.inl hsome)
  obtain ⟨f, hf, hs⟩ := hend.shift
  refine ⟨hend.gear.trans (Eq.trans ?_ hpoised.gear), hend.target.trans (Eq.trans ?_ hpoised.target),
    _, e, hs.trans (congrArg _ hr), hbegun.with_torque hf, hnow, hpoised⟩
  · have hkeep : (startShift pedal e).seq.course.gear = e.seq.gear := by rw [hcourse]; rfl
    exact hkeep
  · have hkeep : (startShift pedal e).seq.course.target = e.seq.target := by rw [hcourse]; rfl
    exact hkeep

end

end Sys2Proof.Machine
end

section
/-! PROOFS. A shift step with a shift in flight and nothing to react to: the end of FINISH (R54) and the shift timeout (R55);
and the obligation on what a shift step publishes, starts, ends and times out. -/

open Sys2Proof Sys2Proof.Machine

namespace Sys2Proof.Machine

/-! ### Stages 1 to 6 before the phase moves -/

/-- What stages 1 to 5 and the handshake of stage 6 leave of a shift in flight: the gears, what auto-shift and the slip check
read, the VENTED clutches but for the engaged direction clutch, and the plan, the phase and the torque mark of its record. -/
structure State.Rides (r : ShiftRec) (s t : State) : Prop where
  gear : t.seq.gear = s.seq.gear
  target : t.seq.target = s.seq.target
  pending : t.seq.pendingTarget = s.seq.pendingTarget
  autoMode : t.seq.autoMode = s.seq.autoMode
  slipSince : t.seq.slipSince = s.seq.slipSince
  vented : ∀ c, (s.seq.gear ≠ .neutral → c ≠ dirOf s.seq.gear) → (s.clutch c).state = .vented → (t.clutch c).state = .vented
  shift : ∃ a, t.seq.shift = some a ∧ a.plan = r.plan ∧ a.phase = r.phase ∧ a.torqueBegun = r.torqueBegun
  link : t.link = s.link
  run : t.run = s.run
  now : t.now = s.now

section
variable {pedal : Nat} {s : State} {r : ShiftRec}

theorem handshake_shift (h : s.seq.shift = some r) : ∃ a, (handshake s).seq.shift = some a ∧ a.plan = r.plan ∧
    a.phase = r.phase ∧ a.torqueBegun = r.torqueBegun := by
  simp only [handshake, State.onShift, State.onSeq_seq, h, Option.map_some, Option.some.injEq, exists_eq_left']
  split <;> exact ⟨rfl, rfl, rfl⟩

theorem handshake_rides (h : s.Calm) (hs : s.seq.shift = some r) (hp : pedal ≤ 900) :
    s.Rides r (handshake (earlyStages pedal s)) := by
  obtain ⟨c, ok, he⟩ := earlyStages_of_calm (pedal := pedal) h
  have hup : earlyStages pedal s = pedalUp pedal (readied c ok s) := by
    rw [he, pedalStage, if_neg (Nat.not_lt.mpr hp)]
  obtain ⟨k, b, hseq⟩ := pedalUp_seq (readied c ok s) pedal
  have hshift : (earlyStages pedal s).seq.shift = some r := by rw [hup, hseq]; exact hs
  obtain ⟨o, ho⟩ : ∃ o, (handshake (earlyStages pedal s)).seq = { (earlyStages pedal s).seq with shift := o } := ⟨_, rfl⟩
  refine ⟨?_, ?_, ?_, ?_, ?_, fun d hd hv => ?_, handshake_shift hshift, ?_, ?_, ?_⟩
  case refine_6 =>
    show ((earlyStages pedal s).clutch d).state = .vented
    rw [hup, pedalUp_other (readied c ok s) pedal hd, readied_clutch]
    exact vent_vented hv
  case refine_7 => rw [hup]; simp [readied]
  case refine_8 => rw [hup]; simp [readied]
  case refine_9 => rw [hup]; simp [readied]
  all_goals rw [ho, hup, hseq]; rfl

/-- With a shift in flight at the beginning of the step, the step ends as stage 6 leaves it: no shift starts (R54). -/
theorem shiftStep_of_flight (h : s.Calm) (hs : s.seq.shift = some r) (hp : pedal ≤ 900) : ∃ a,
    (handshake (earlyStages pedal s)).seq.shift = some a ∧ a.plan = r.plan ∧ a.phase = r.phase ∧
    a.torqueBegun = r.torqueBegun ∧ shiftStep pedal s = closingStage pedal (lateStages pedal
      (timeoutStage pedal (phaseStep a (handshake (earlyStages pedal s))))) := by
  obtain ⟨a, ha, hplan, hphase, hbegun⟩ := (handshake_rides h hs hp).shift
  refine ⟨a, ha, hplan, hphase, hbegun, ?_⟩
  rw [shiftStep_eq, inhibitStage_of_calm h.earlyStages, hs]
  simp only [startStage, Option.isSome_some, Bool.not_true, Bool.false_and, Bool.false_eq_true, if_false, progressStage, ha]

/-! ### The end of FINISH (R54) -/

theorem endShift_demandA (r : ShiftRec) (s : State) : (endShift r s).link.demandA = s.link.demandA := by
  have hclear := (clearShift_spares s).demand
  unfold endShift
  dsimp only
  split <;> split
  · rw [(adaptationOutcome_spares _ _).demand]; exact hclear
  · rw [(adaptationOutcome_spares _ _).demand, State.reportInactive_demandA]; exact hclear
  · exact hclear
  · rw [State.reportInactive_demandA]; exact hclear

/-- Fault 19 is inactive after the end of a shift that was not timed out (R54). -/
theorem endShift_active (h : r.timedOut = false) : (endShift r s).active .shiftTimeout = false := by
  unfold endShift
  simp only [h, Bool.false_eq_true, if_false]
  split
  · rw [(adaptationOutcome_spares _ _).timeout]; simp
  · simp

/-- draft_hold has 100 ms from the end of a shift that began its torque part (R54). -/
theorem endShift_draftEnd (hs : s.seq.shift = some r) (hb : r.torqueBegun = true) :
    (endShift r s).seq.draftEnd = some s.now := by
  have hclear : (clearShift s).seq.draftEnd = some s.now := by
    simp only [clearShift, hs, State.onSeq_seq, hb, if_true]
  have hadapt (e : Bool) (t : State) : (adaptationOutcome e t).seq.draftEnd = t.seq.draftEnd := by
    have hbesides : (adaptationOutcome e t).seq.besides = t.seq.besides := by simp
    rw [SeqState.eq_but_clutches hbesides]
  unfold endShift
  dsimp only
  split <;> split <;> simp [hadapt, hclear]

/-- The off-going clutches of a SIMPLE shift are not the engaged direction clutch, which is the target's as well (R44). -/
theorem SeqState.ShiftOk.offGoing_ne {q : SeqState} (h : q.ShiftOk) (hs : q.shift = some r) (hk : r.kind = .simple)
    {c : Clutch} (hc : c ∈ r.offGoing) (hg : q.gear ≠ .neutral) : c ≠ dirOf q.gear := by
  obtain ⟨hoff, hdir⟩ := h r hs
  have hmem : dirOf q.gear ∈ elements q.target := by
    have hdirs := hdir hk
    cases hgear : q.gear with
    | neutral => exact absurd hgear hg
    | fwd n => cases htarget : q.target <;> simp_all [Gear.dir, elements, dirOf, dirClutch]
    | rev n => cases htarget : q.target <;> simp_all [Gear.dir, elements, dirOf, dirClutch]
  rintro rfl
  exact hoff _ hc hmem

/-- FINISH, neither declutched nor timed out, is over once a SIMPLE shift's off-going clutches are VENTED (R47, R50). -/
theorem phaseStep_finish {s : State} (hphase : r.phase = .finish) (hd : r.declutched = false) (ht : r.timedOut = false)
    (hv : r.kind = .simple → ∀ c ∈ r.offGoing, (s.clutch c).state = .vented) : phaseStep r s = endShift r s := by
  have hdone : finishDone r s = true := by
    unfold finishDone
    simp only [hd, ht, Bool.false_eq_true, if_false]
    split
    next hk => simpa [State.allIn] using hv hk
    · rfl
    · rfl
  simp only [phaseStep, hphase, finishStep, hd, Bool.false_eq_true, if_false, hdone, if_true]

/-- What a step at which the FINISH of a shift ends leaves (R54). -/
structure State.Ended (r : ShiftRec) (s t : State) : Prop where
  gear : t.seq.gear = s.seq.target
  target : t.seq.target = s.seq.pendingTarget.getD s.seq.target
  pending : t.seq.pendingTarget = none
  shift : t.seq.shift = none
  lastDir : t.seq.lastDir = s.seq.target.dir
  preselect : t.seq.preselect = none
  timeout : t.active .shiftTimeout = false
  draftEnd : r.torqueBegun = true → t.seq.draftEnd = some s.now

theorem shiftStep_ends (h : s.Calm) (hs : s.seq.shift = some r) (hp : pedal ≤ 900) (hphase : r.phase = .finish)
    (hd : r.declutched = false) (ht : r.timedOut = false) (hok : s.seq.ShiftOk)
    (hv : r.kind = .simple → ∀ c ∈ r.offGoing, (s.clutch c).state = .vented) (hslip : s.seq.slipSince = none)
    (hauto : 100 ≤ pedal ∨ s.seq.autoMode = false ∧ ∀ c, s.link.demandA = some c → c.val.autoMode = false) :
    s.Ended r (shiftStep pedal s) := by
  have hrides := handshake_rides h hs hp
  obtain ⟨a, ha, hplan, haphase, hbegun, hstep⟩ := shiftStep_of_flight h hs hp
  obtain ⟨hkind, _, _, hoff, hdeclutched, htimed⟩ := ShiftRec.of_plan hplan
  rw [hstep]
  generalize handshake (earlyStages pedal s) = e at *
  have hvented : a.kind = .simple → ∀ c ∈ a.offGoing, (e.clutch c).state = .vented := by
    rw [hkind, hoff]
    exact fun hk c hc => hrides.vented c (fun hg => hok.offGoing_ne hs hk hc hg) (hv hk c hc)
  rw [phaseStep_finish (haphase.trans hphase) (hdeclutched.trans hd) (htimed.trans ht) hvented]
  have hcourse := endShift_course e a
  have hkeep {α : Type} (f : SeqState → α) : f (endShift a e).seq.course = f { e.seq.course with
      shift := none, gear := e.seq.target, lastDir := e.seq.target.dir, preselect := none
      target := e.seq.pendingTarget.getD e.seq.target, pendingTarget := none } := by rw [hcourse]
  have hnone : (endShift a e).seq.shift = none := Option.map_eq_none_iff.mp (hkeep SeqState.shift)
  have hactive := endShift_active (s := e) (htimed.trans ht)
  have hdraft := fun hb => endShift_draftEnd ha (hbegun.trans hb)
  have hnow : (endShift a e).now = s.now := by simp [hrides.now]
  have hlink : (endShift a e).link.demandA = s.link.demandA := by rw [endShift_demandA, hrides.link]
  have hstill : timeoutStage pedal (endShift a e) = endShift a e := by simp only [timeoutStage, hnone]
  rw [hstill]
  have hmode : (endShift a e).seq.autoMode = s.seq.autoMode := (hkeep SeqState.autoMode).trans hrides.autoMode
  have hsince : (endShift a e).seq.slipSince = none := (hkeep SeqState.slipSince).trans (hrides.slipSince.trans hslip)
  have hrest : autoArmed pedal (autoInputs (endShift a e)) = false :=
    autoArmed_of_rest (.inr (hauto.imp_right fun hoff => ⟨hmode.trans hoff.1, hlink ▸ hoff.2⟩))
  have hgear : (endShift a e).seq.gear = e.seq.target := hkeep SeqState.gear
  have htarget : (endShift a e).seq.target = e.seq.pendingTarget.getD e.seq.target := hkeep SeqState.target
  have hpending : (endShift a e).seq.pendingTarget = none := hkeep SeqState.pendingTarget
  have hlast : (endShift a e).seq.lastDir = e.seq.target.dir := hkeep SeqState.lastDir
  have hselect : (endShift a e).seq.preselect = none := hkeep SeqState.preselect
  generalize endShift a e = m at *
  have hend := closingStage_concludes (pedal := pedal) hrest (.inr hsince)
  obtain ⟨f, _, hshift⟩ := hend.shift
  refine ⟨hend.gear.trans (hgear.trans hrides.target), hend.target.trans ?_, hend.pending.trans hpending, ?_,
    hend.lastDir.trans ?_, hend.preselect hselect, (hend.active _).trans hactive, fun hb => ?_⟩
  · rw [htarget, hrides.pending, hrides.target]
  · rw [hshift, hnone, Option.map_none]
  · rw [hlast, hrides.target]
  · rw [hend.draftEnd (by rw [hdraft hb, hnow, hrides.now]), hnow]

/-! ### The shift timeout (R55) -/

/-- The end of the torque part leaves the shift record without one, and the clutches (R56). -/
theorem endTorque_shift (hs : s.seq.shift = some r) : (∃ e, (endTorque s).seq.shift =
    some { r with torque := none, eligible := e }) ∧ (endTorque s).seq.clutches = s.seq.clutches := by
  unfold endTorque
  simp only [hs]
  split
  next ht => exact ⟨⟨r.eligible, by rw [hs, ← ht]⟩, rfl⟩
  next q hq => simp [State.onShift, State.onSeq, hs]

/-- The timeout leaves the shift in FINISH, marked, without a torque part and no longer eligible (R55, R56, R90). -/
theorem timeoutShift_shift (q : ShiftRec) (hs : s.seq.shift = some r) : (timeoutShift pedal q s).seq.shift =
    some { r with torque := none, eligible := false, phase := .finish, timedOut := true } := by
  have hfinish (t : State) (ht : t.seq.shift = some r) :
      ((enterFinish t).onShift (fun r => { r with timedOut := true, eligible := false })).seq.shift =
        some { r with torque := none, eligible := false, phase := .finish, timedOut := true } := by
    obtain ⟨⟨e, he⟩, _⟩ := endTorque_shift ht
    simp [enterFinish, State.onShift, State.onSeq, he]
  have hclutches (on off : List Clutch) : ((s.applyEach on).releaseEach off).seq.shift = some r :=
    foldl_keeps (fun t : State => t.seq.shift = some r) _ off _
      (foldl_keeps (fun t : State => t.seq.shift = some r) _ on s hs fun t c _ ht => ht) fun t c _ ht => ht
  unfold timeoutShift
  simp only [State.raise_seq]
  exact hfinish _ (hclutches _ _)

/-- The timeout of a shift that is not declutched, with the pedal at 900 or below: the on-coming clutches are APPLIED at
P_full and the off-going ones leave (R55). -/
theorem timeoutShift_clutch (hs : s.seq.shift = some r) (hp : pedal ≤ 900) (hd : r.declutched = false) (c : Clutch) :
    (c ∈ r.onComing → c ∉ r.offGoing → ((timeoutShift pedal r s).clutch c).state = .applied ∧
      ((timeoutShift pedal r s).clutch c).pressure = 2000) ∧
    (c ∈ r.offGoing → ((timeoutShift pedal r s).clutch c).state = .releasing ∨
      ((timeoutShift pedal r s).clutch c).state = .vented) := by
  have hsame (on off : List Clutch) (f : ShiftRec → ShiftRec) :
      ((enterFinish ((s.applyEach on).releaseEach off)).onShift f).clutch c =
        ((s.applyEach on).releaseEach off).clutch c := by
    have hshift : ((s.applyEach on).releaseEach off).seq.shift = some r :=
      foldl_keeps (fun t : State => t.seq.shift = some r) _ off _
        (foldl_keeps (fun t : State => t.seq.shift = some r) _ on s hs fun t c _ ht => ht) fun t c _ ht => ht
    exact congrArg (PerClutch.get · c) (endTorque_shift hshift).2
  have hpressed : ¬(900 < pedal ∨ r.declutched = true) := by simp [hd, hp]
  have hclutch (on : List Clutch) (hon : on = r.onComing ++ if r.kind = .compound then [dirOf s.seq.target] else []) :
      (timeoutShift pedal r s).clutch c = ((s.applyEach on).releaseEach r.offGoing).clutch c := by
    rw [← hsame on r.offGoing (fun r => { r with timedOut := true, eligible := false }), hon]
    unfold timeoutShift
    simp only [State.clutch, State.raise_seq, if_neg hpressed]
  rw [hclutch _ rfl]
  refine ⟨fun hon hoff => ?_, fun hoff => State.releaseEach_state _ _ hoff⟩
  rw [State.releaseEach_other _ _ hoff]
  exact State.applyEach_applied _ _ (List.mem_append_left _ hon)

/-- A phase other than FINISH leaves the calibration run. -/
theorem phaseStep_run (h : r.phase ≠ .finish) : (phaseStep r s).run = s.run := by
  unfold phaseStep
  split
  case h_9 hp => exact absurd hp h
  all_goals simp

/-- What a step at which a shift is timed out leaves (R55). -/
structure State.TimedOut (r : ShiftRec) (s t : State) : Prop where
  gear : t.seq.gear = s.seq.gear
  target : t.seq.target = s.seq.target
  timeout : t.active .shiftTimeout = true
  shift : ∃ d, t.seq.shift = some d ∧ d.phase = .finish ∧ d.timedOut = true ∧ d.eligible = false ∧ d.torque = none ∧
    d.kind = r.kind ∧ d.start = r.start ∧ d.onComing = r.onComing ∧ d.offGoing = r.offGoing
  onComing : ∀ c ∈ r.onComing, c ∉ r.offGoing →
    (t.seq.clutches.get c).state = .applied ∧ (t.seq.clutches.get c).pressure = 2000
  offGoing : ∀ c ∈ r.offGoing, (t.seq.clutches.get c).state = .releasing ∨ (t.seq.clutches.get c).state = .vented

theorem shiftStep_times_out (h : s.Calm) (hs : s.seq.shift = some r) (hp : pedal ≤ 900) (hphase : r.phase ≠ .finish)
    (hd : r.declutched = false) (ht : r.timedOut = false) (hdue : r.start + 2000 ≤ s.now) :
    s.TimedOut r (shiftStep pedal s) := by
  have hrides := handshake_rides h hs hp
  obtain ⟨a, ha, hplan, haphase, _, hstep⟩ := shiftStep_of_flight h hs hp
  rw [hstep]
  generalize handshake (earlyStages pedal s) = e at *
  have haphase : a.phase ≠ .finish := haphase ▸ hphase
  have hcourse := phaseStep_course e haphase
  have hkeep {α : Type} (f : SeqState → α) : f (phaseStep a e).seq.course = f e.seq.course := by rw [hcourse]
  have hgear : (phaseStep a e).seq.gear = e.seq.gear := hkeep SeqState.gear
  have htarget : (phaseStep a e).seq.target = e.seq.target := hkeep SeqState.target
  have hrun : (phaseStep a e).run = s.run := by rw [phaseStep_run haphase, hrides.run]
  have hnow : (phaseStep a e).now = s.now := by simp [hrides.now]
  obtain ⟨b, hb, hbplan⟩ : ∃ b, (phaseStep a e).seq.shift = some b ∧ b.plan = r.plan := by
    have hmap : (phaseStep a e).seq.shift.map ShiftRec.plan = some r.plan := by
      rw [← hplan]
      exact (hkeep SeqState.shift).trans (congrArg (Option.map ShiftRec.plan) ha)
    exact Option.map_eq_some_iff.mp hmap
  obtain ⟨hkind, hstart, hon, hoff, hdeclutched, htimed⟩ := ShiftRec.of_plan hbplan
  generalize phaseStep a e = p at *
  have hfire : timeoutStage pedal p = timeoutShift pedal b p := by
    simp only [timeoutStage, hb]
    exact if_pos (by simp [htimed, ht, hstart, hnow, hdue])
  rw [hfire]
  have hshift := timeoutShift_shift (pedal := pedal) b hb
  have hclutch := timeoutShift_clutch hb hp (hdeclutched.trans hd)
  have hactive : (timeoutShift pedal b p).active .shiftTimeout = true := by
    simp only [timeoutShift, State.raise_active, decide_true, Bool.true_or]
  have hcourse' := timeoutShift_course p pedal b
  have hgear' : (timeoutShift pedal b p).seq.course.gear = p.seq.gear := by rw [hcourse']; rfl
  have htarget' : (timeoutShift pedal b p).seq.course.target = p.seq.target := by rw [hcourse']; rfl
  have hidle : (timeoutShift pedal b p).runInProgress = false := by
    have hsame : (timeoutShift pedal b p).run = s.run := by simp [hrun]
    rw [State.runInProgress, hsame]
    exact h.run
  generalize timeoutShift pedal b p = m at *
  have hsome : m.seq.shift ≠ none := by simp [hshift]
  have hend := closingStage_concludes (autoArmed_of_rest (pedal := pedal) (.inl hsome)) (.inl hsome)
  obtain ⟨f, hf, hend_shift⟩ := hend.shift
  rw [hon, hoff] at hclutch
  refine ⟨hend.gear.trans (Eq.trans hgear' (hgear.trans hrides.gear)),
    hend.target.trans (Eq.trans htarget' (htarget.trans hrides.target)), (hend.active _).trans hactive,
    ⟨_, hend_shift.trans (congrArg _ hshift), rfl, rfl, rfl, hf, hkind, hstart, hon, hoff⟩, fun c hc hn => ?_, fun c hc => ?_⟩
  · obtain ⟨hstate, hpressure⟩ := hend.clutch hidle c
    rw [hstate, hpressure]
    exact (hclutch c).1 hc hn
  · rw [(hend.clutch hidle c).1]
    exact (hclutch c).2 hc

end

end Sys2Proof.Machine

/-! ### The obligation -/

namespace Sys2Proof.Proofs

/-- Settles O19: what every shift step publishes is the closing stage's, and the three steps of a shift are
`shiftStep_starts`, `shiftStep_ends` and `shiftStep_times_out`. -/
theorem shiftStepPublishesGearState : Obligations.ShiftStepPublishesGearState := by
  intro s dt pedal hrun
  have hdemand := shiftStep_demand pedal (s.advance dt)
  have hpublished := shiftStep_published pedal (s.advance dt)
  have hselect := shiftStep_preselect pedal (s.advance dt)
  refine ⟨_, exec_of_running rfl hrun, hpublished, hdemand, hselect, by simp, by simp, by simp, by simp, by simp, ?_⟩
  intro hholder hlink hgate hpower hidle hinhibit
  have hcalm : (s.advance dt).Calm := ⟨hholder, hlink, hgate, hpower, hidle, hinhibit⟩
  refine ⟨fun hshift htarget hgear hre hheld => ?_, fun r hs hd ht hp => ⟨fun hphase hlegal hv hslip hauto => ?_,
    fun hphase hdue => ?_⟩⟩
  · obtain ⟨hgear', htarget', r, e, hr, hbegun, hnow, hpoised⟩ := shiftStep_starts (pedal := pedal) hcalm hshift htarget
      hgear hre hheld
    have hkind : r.kind = kindOf s.seq.gear s.seq.target := by rw [hbegun.kind, hpoised.gear, hpoised.target]; rfl
    refine ⟨hgear', htarget', r, hr, hbegun.start.trans hnow, hbegun.timedOut, ?_, ?_, hbegun.declutched, fun hp => ?_⟩
    · rw [hkind]; exact kindOf_shuttle_iff ..
    · rw [hkind]; exact kindOf_simple_iff ..
    · obtain ⟨hdeclutched, hlock⟩ := hbegun.direct hp
      refine ⟨hdeclutched, hlock, hbegun.torque hp, fun c => ?_, fun c => ?_, hbegun.simple hp, hbegun.compound hp,
        hbegun.shuttle hp⟩
      · rw [hbegun.onComing, ne_eq, hpoised.applied hp, hpoised.target]; rfl
      · rw [hbegun.offGoing, hpoised.applied hp, hpoised.target]; rfl
  · obtain ⟨hgear, htarget, hpending, hshift, hlast, hpre, htimeout, hdraft⟩ := shiftStep_ends hcalm hs hp hphase hd ht
      (s.seq.shiftLegal_iff.mp hlegal) hv hslip hauto
    exact ⟨hgear, htarget, hpending, hshift, hlast, hpre, htimeout, hdraft⟩
  · obtain ⟨hgear, htarget, htimeout, ⟨d, hd, hfinish, hmark, hfit, htorque, hkind, hstart, hlists⟩, hon, hoff⟩ :=
      shiftStep_times_out hcalm hs hp hphase hd ht hdue
    exact ⟨hgear, htarget, htimeout, d, hd, hfinish, hmark, hfit, htorque, hkind, hstart, hlists.1, hlists.2, hon, hoff⟩

end Sys2Proof.Proofs
end

section
/-! PROOFS. The outputs (04, R70, R73, R74; 09, R164, R165): what the output rule makes of a channel record, and that demands,
gates, raises and reports of inactivity move the channels by that rule alone. -/

open Sys2Proof Sys2Proof.Machine

namespace Sys2Proof.Machine

/-! ### A record under its gate (R74) -/

section
variable {i : Chan} {c d e : Channel} {isOpen : Bool} {s t u : State}

theorem Channel.gated_iff : c.gated isOpen = true ↔
    (c.state.drives = true → c.fitted = true ∧ isOpen = true) ∧ (c.state.drives = false → c.commanded = 0) := by
  cases h : c.state.drives <;> simp [Channel.gated, h]

/-- A record that does not drive and is commanded no current is under any gate. -/
theorem Channel.gated_of_still (hs : c.state.drives = false) (hc : c.commanded = 0) : c.gated isOpen = true := by
  simp [Channel.gated_iff, hs, hc]

theorem mem_allChans (i : Chan) : i ∈ allChans := by
  rcases i with c | _
  · cases c <;> decide
  all_goals decide

theorem State.outputsGated_iff : s.outputsGated = true ↔ ∀ i, (s.chan.channels.get i).gated (s.chanGate i) = true := by
  simp [State.outputsGated, List.all_eq_true, mem_allChans]

/-- The rule lets a channel drive only while it is fitted and its gate is open. -/
theorem ruleState_drives (h : (ruleState i isOpen c).drives = true) : c.fitted = true ∧ isOpen = true := by
  by_cases hf : c.fitted = true
  · cases isOpen with
    | true => exact ⟨hf, rfl⟩
    | false => by_cases hs : c.state = .faulted <;> simp [ruleState, hf, hs, ChanState.drives] at h
  · simp [ruleState, hf, ChanState.drives] at h

theorem stateCurrent_of_still {x : ChanState} {n : Nat} (h : x.drives = false) : stateCurrent s i x n = 0 := by
  cases x <;> first | rfl | cases h

/-- What the rule makes of a record is under the gate it was formed on. -/
theorem applyRule_gated : (applyRule s i c).gated (s.chanGate i) = true :=
  Channel.gated_iff.mpr ⟨ruleState_drives, stateCurrent_of_still⟩

/-! ### Records that the rule alone has moved -/

/-- A record that the output rule and new demands alone have moved: what they do not write is as it was (R70), and a fitted
FAULTED channel is still FAULTED, without a current where it had none (R74). -/
structure Channel.Ruled (c d : Channel) : Prop where
  fitted : d.fitted = c.fitted
  faultTimer : d.faultTimer = c.faultTimer
  ackSeen : d.ackSeen = c.ackSeen
  condition : d.conditionPresent = c.conditionPresent
  raised : d.raised = c.raised
  faulted : c.fitted = true → c.state = .faulted → d.state = .faulted ∧ (c.commanded = 0 → d.commanded = 0)

theorem Channel.Ruled.refl (c : Channel) : c.Ruled c := ⟨rfl, rfl, rfl, rfl, rfl, fun _ h => ⟨h, id⟩⟩

theorem Channel.Ruled.trans (h : c.Ruled d) (k : d.Ruled e) : c.Ruled e where
  fitted := k.fitted.trans h.fitted
  faultTimer := k.faultTimer.trans h.faultTimer
  ackSeen := k.ackSeen.trans h.ackSeen
  condition := k.condition.trans h.condition
  raised := k.raised.trans h.raised
  faulted hf hs :=
    have hd := h.faulted hf hs
    have he := k.faulted (h.fitted.trans hf) hd.1
    ⟨he.1, he.2 ∘ hd.2⟩

/-- The rule after a new demand. -/
theorem applyRule_ruled (s : State) (i : Chan) (c : Channel) (n : Nat) : c.Ruled (applyRule s i { c with demand := n }) := by
  refine ⟨rfl, rfl, rfl, rfl, rfl, fun hf hs => ?_⟩
  simp [applyRule, ruleState, hf, hs, stateCurrent]

/-! ### States whose outputs the rule alone has moved -/

/-- Between two states the output rule alone has moved the channels: they stay under their gates, the supply monitor is as it
was, and each record is `Ruled`. -/
structure State.Redrives (s t : State) : Prop where
  gated : s.outputsGated = true → t.outputsGated = true
  monitor : t.chan.monitor = s.chan.monitor
  ruled : ∀ i, (s.chan.channels.get i).Ruled (t.chan.channels.get i)

theorem State.Redrives.refl (s : State) : s.Redrives s := ⟨id, rfl, fun _ => .refl _⟩

theorem State.Redrives.trans (h : s.Redrives t) (k : t.Redrives u) : s.Redrives u :=
  ⟨k.gated ∘ h.gated, k.monitor.trans h.monitor, fun i => (h.ruled i).trans (k.ruled i)⟩

theorem State.Redrives.ite {p : Prop} [Decidable p] (ht : s.Redrives t) (hu : s.Redrives u) :
    s.Redrives (if p then t else u) := by split <;> assumption

theorem State.Redrives.foldl {α : Type} {f : State → α → State} (hf : ∀ (t : State) (a : α), t.Redrives (f t a))
    (l : List α) (s : State) : s.Redrives (l.foldl f s) :=
  foldl_keeps s.Redrives f l s (.refl s) fun t a _ h => h.trans (hf t a)

theorem State.chanGate_congr (h : ∀ g, t.gateOpen g = s.gateOpen g) (i : Chan) : t.chanGate i = s.chanGate i := by
  unfold State.chanGate
  cases chanGroup i with
  | none => rfl
  | some g => exact h g

/-- Where channels and gates are as they were, the outputs are. -/
theorem State.Redrives.of_gates (hc : t.chan = s.chan) (hg : ∀ g, t.gateOpen g = s.gateOpen g) : s.Redrives t := by
  refine ⟨fun h => ?_, by rw [hc], fun i => by rw [hc]; exact .refl _⟩
  rw [State.outputsGated_iff] at h ⊢
  intro i
  rw [hc, State.chanGate_congr hg]
  exact h i

theorem State.Redrives.of_same (hc : t.chan = s.chan) (hg : t.fault.gates = s.fault.gates) : s.Redrives t :=
  .of_gates hc fun g => by rw [State.gateOpen, hg, State.gateOpen]

end

/-! ### Demands (R73) -/

section
variable (s : State)

/-- One record moved by the rule. -/
theorem State.onChan_redrives (i : Chan) {f : Channel → Channel} (hr : ∀ c : Channel, c.Ruled (f c))
    (hg : ∀ c : Channel, c.gated (s.chanGate i) = true → (f c).gated (s.chanGate i) = true) : s.Redrives (s.onChan i f) := by
  refine ⟨fun h => ?_, rfl, fun j => ?_⟩
  · rw [State.outputsGated_iff] at h ⊢
    intro j
    by_cases hj : j = i
    · subst hj
      rw [State.onChan_chan, chan_get_set]
      exact hg _ (h j)
    · rw [State.onChan_chan, chan_get_set_other _ _ _ _ hj]
      exact h j
  · by_cases hj : j = i
    · subst hj
      rw [State.onChan_chan, chan_get_set]
      exact hr _
    · rw [State.onChan_chan, chan_get_set_other _ _ _ _ hj]
      exact .refl _

theorem State.demand_redrives (i : Chan) (d : Nat) : s.Redrives (s.demand i d) :=
  .ite (.refl s) (s.onChan_redrives i (fun c => applyRule_ruled s i c _) fun _ _ => applyRule_gated)

theorem State.reconvert_redrives (i : Chan) : s.Redrives (s.reconvert i) := by
  refine s.onChan_redrives i (fun c => ?_) fun c h => ?_ <;> split
  · exact applyRule_ruled s i c c.demand
  · exact .refl c
  · exact applyRule_gated
  · exact h

/-! ### Gates (R164, R165) -/

/-- The rule on the group of a gate that has changed, every other gate being as it was. -/
theorem State.ruleOnGroup_redrives {s t : State} {g : Group} (hc : t.chan = s.chan)
    (hg : ∀ k, k ≠ g → t.gateOpen k = s.gateOpen k) : s.Redrives (t.ruleOnGroup g) := by
  refine ⟨fun h => ?_, (congrArg ChanBlock.monitor hc :), fun i => ?_⟩
  · rw [State.outputsGated_iff] at h ⊢
    intro i
    simp only [State.ruleOnGroup, chan_get_mapWith]
    by_cases hi : chanGroup i = some g
    · rw [if_pos hi]
      exact applyRule_gated
    · have hgate : t.chanGate i = s.chanGate i := by
        unfold State.chanGate
        cases hgroup : chanGroup i with
        | none => rfl
        | some k => exact hg k fun hk => hi (hk ▸ hgroup)
      rw [if_neg hi, hc]
      exact hgate ▸ h i
  · simp only [State.ruleOnGroup, chan_get_mapWith, hc]
    split
    · exact applyRule_ruled t i _ _
    · exact .refl _

theorem State.publishAxle_redrives : s.Redrives s.publishAxle := .of_same rfl rfl

theorem State.engageAxle_redrives : s.Redrives s.engageAxle := (s.demand_redrives .fwdRelease 0).trans (.of_same rfl rfl)

theorem State.faultEngage_redrives : s.Redrives s.faultEngage :=
  have hbegun : s.Redrives { s with axle := { s.axle with faultEngagement := true } } := .of_same rfl rfl
  .ite (.refl s) (hbegun.trans (State.engageAxle_redrives _))

theorem State.axleGateClosed_redrives : s.Redrives s.axleGateClosed :=
  ((s.demand_redrives .fwdRelease 0).trans (State.demand_redrives _ .diffLock 0)).trans (.of_same rfl rfl)

theorem State.hitchStop_redrives : s.Redrives s.hitchStop :=
  have hstop : s.Redrives s.stopLift := .of_same (by simp) (by simp)
  (hstop.trans (State.demand_redrives _ .hitchRaise 0)).trans (State.demand_redrives _ .hitchLower 0)

theorem State.tellClosed_redrives (g : Group) : s.Redrives (s.tellClosed g) := by
  cases g with
  | trans => exact .refl s
  | axle => exact s.axleGateClosed_redrives
  | hitch => exact s.hitchStop_redrives
  | trailer => exact .of_same (by simp [State.tellClosed]) (by simp [State.tellClosed])

theorem State.closeGate_redrives (c : FaultCode) (g : Group) : s.Redrives (s.closeGate c g) := by
  have hother (k : Group) (hk : k ≠ g) :
      (s.fault.gates.set g (closeRecord c (s.fault.gates.get g))).get k = s.fault.gates.get k :=
    group_get_set_other _ _ _ _ hk
  unfold State.closeGate
  dsimp only
  split
  next =>
    have hruled := State.ruleOnGroup_redrives (s := s) (g := g)
      (t := { s with fault := { s.fault with gates := s.fault.gates.set g (closeRecord c (s.fault.gates.get g)) } }) rfl
      fun k hk => congrArg List.isEmpty (hother k hk)
    exact hruled.trans (State.tellClosed_redrives _ g)
  next hclosed =>
    refine .of_gates rfl fun k => ?_
    by_cases hk : k = g
    · subst hk
      rw [Bool.not_eq_true] at hclosed
      rw [hclosed]
      simp [State.gateOpen, closeRecord_ne_nil]
    · exact congrArg List.isEmpty (hother k hk)

theorem State.updateGate_redrives (f : Closing → Closing) (g : Group) : s.Redrives (s.updateGate f g) := by
  have hother (after : List Closing) (k : Group) (hk : k ≠ g) :
      (s.fault.gates.set g after).get k = s.fault.gates.get k := group_get_set_other _ _ _ _ hk
  unfold State.updateGate
  dsimp only
  split
  next => exact State.ruleOnGroup_redrives rfl fun k hk => congrArg List.isEmpty (hother _ k hk)
  next hsame =>
    refine .of_gates rfl fun k => ?_
    by_cases hk : k = g
    · subst hk
      cases hb : s.fault.gates.get k with
      | nil => simp [State.gateOpen, hb]
      | cons x rest => simpa [State.gateOpen, hb] using hsame
    · exact congrArg List.isEmpty (hother _ k hk)

/-! ### Raises and reports (R159, R160) -/

theorem State.offerNotices_redrives : s.Redrives s.offerNotices := .of_same (by simp) (by simp)

theorem State.tellRaised_redrives (c : FaultCode) : s.Redrives (s.tellRaised c) := by
  have hreturn : s.Redrives (returnAtLinkLoss s) := .of_same (by simp) (by simp)
  unfold State.tellRaised
  split
  · exact hreturn.trans (State.faultEngage_redrives _)
  · exact s.faultEngage_redrives
  · exact .refl s

theorem record_gates (now : Nat) (c : FaultCode) (f : FaultState) : (record now c f).gates = f.gates := by
  unfold record
  repeat' split
  all_goals rfl

theorem State.raise_redrives (c : FaultCode) (named : Option Group) : s.Redrives (s.raise c named) := by
  have hrecord : s.Redrives { s with fault := record s.now c { s.fault with active := setActive c true s.fault.active } } :=
    .of_same rfl (record_gates _ _ _)
  have hclosed := hrecord.trans (.foldl (fun t g => t.closeGate_redrives c g) (gatesOf c named) _)
  exact (hclosed.trans (State.tellRaised_redrives _ c)).trans (State.offerNotices_redrives _)

theorem State.inactive_redrives (c : FaultCode) : s.Redrives (s.inactive c) := by
  have hmarked : s.Redrives { s with fault := { s.fault with
      active := setActive c false s.fault.active
      list := mapCode c (fun e => startRemoval s.now { e with active := false, noticePending := true }) s.fault.list } } :=
    .of_same rfl rfl
  exact (hmarked.trans (.foldl (fun t g => t.updateGate_redrives _ g) allGroups _)).trans (State.offerNotices_redrives _)

theorem State.reportInactive_redrives (c : FaultCode) : s.Redrives (s.reportInactive c) :=
  .ite (s.inactive_redrives c) (.refl s)

theorem State.report_redrives (c : FaultCode) (v : Verdict) : s.Redrives (s.report c v) := by
  cases v with
  | quiet => exact .refl s
  | raise => exact s.raise_redrives c none
  | clear => exact s.reportInactive_redrives c

end

end Sys2Proof.Machine
end

section
/-! PROOFS. Every command's effect on the outputs but the channel step's: the blocks reach the channels through demands, raises,
reports and new conversion values alone, and a start, the power state OFF and a loss of the supply leave no coil a current
(R73 to R76, R85, R86, R164, R165). -/

open Sys2Proof Sys2Proof.Machine

namespace Sys2Proof.Machine

section
variable (s : State)

/-! ### Speed Capture and the links -/

theorem State.judgeBrakeEngagement_redrives : s.Redrives s.judgeBrakeEngagement :=
  have hbegun : s.Redrives { s with axle := { s.axle with brakeEngagement := true, brakeOffAt := none } } := .of_same rfl rfl
  .ite (hbegun.trans (State.engageAxle_redrives _)) (.refl s)

theorem State.judgeDrop_redrives : s.Redrives s.judgeDrop := by
  have hcancel : s.Redrives (if s.axle.own.dlMode = some .on then
      { s with axle := { s.axle with own := { s.axle.own with dlCancel := true } } } else s) :=
    .ite (.of_same rfl rfl) (.refl s)
  refine .ite (.ite ?_ hcancel) (.refl s)
  generalize (if s.axle.own.dlMode = some .on then
    { s with axle := { s.axle with own := { s.axle.own with dlCancel := true } } } else s) = t at hcancel ⊢
  have hdropped : t.Redrives { t with axle := { t.axle with own := { t.axle.own with dlEngaged := false } } } :=
    .of_same rfl rfl
  exact ((hcancel.trans hdropped).trans (State.demand_redrives _ .diffLock 0)).trans (State.publishAxle_redrives _)

theorem publishSpeed_redrives : s.Redrives (publishSpeed s) := by
  have hjudged : s.Redrives s.judgeBrakeEngagement.judgeDrop :=
    s.judgeBrakeEngagement_redrives.trans (State.judgeDrop_redrives _)
  exact .ite (hjudged.trans (.of_same (by simp) (by simp))) hjudged

theorem speedSample_redrives (pedal : Nat) : s.Redrives (speedSample pedal s) := by
  have hreported (t : State) (v w : Verdict) (hs : s.Redrives t) :
      s.Redrives (publishSpeed ((t.report .radarImplausible v).report .speedSensor w)) :=
    ((hs.trans (t.report_redrives _ v)).trans (State.report_redrives _ _ w)).trans (publishSpeed_redrives _)
  have hengine (t : State) (hs : s.Redrives t) : s.Redrives (t.report .engineReportLost (engineVerdict s)) :=
    hs.trans (t.report_redrives _ _)
  unfold speedSample
  dsimp only
  rw [← State.report_engineVerdict]
  exact hreported _ _ _ (hengine _ (.of_same rfl rfl))

theorem linkCheck_redrives : s.Redrives (linkCheck s) :=
  .ite (s.reportInactive_redrives _) (.ite (.refl s) (s.raise_redrives _ none))

/-! ### The store and adaptation -/

theorem dropWrite_redrives : s.Redrives (dropWrite s) := by
  unfold dropWrite
  split
  · exact .refl s
  next w _ _ =>
    have hoffsets : s.Redrives (restoreOffsets w (s.onStore (fun t => { t with inFlight := none }))) :=
      .of_same (by simp) (by simp)
    exact (hoffsets.trans (State.raise_redrives _ .storeWrite none)).trans (.of_same (by simp) (by simp))

theorem applyConversion_redrives (k : Key) : s.Redrives (applyConversion k s) := by
  unfold applyConversion
  split
  · exact s.reconvert_redrives _
  · exact s.reconvert_redrives _
  · exact .refl s

theorem completeWrite_redrives (seq : Nat) : s.Redrives (completeWrite seq s) := by
  unfold completeWrite
  split
  · exact .refl s
  next w _ _ =>
    have hput : s.Redrives (s.onStore (fun t => { t with inFlight := none, cal := t.cal.put w.record seq })) :=
      .of_same rfl rfl
    have hended : s.Redrives (endRunOf w none ((applyConversion w.record.key
        (s.onStore (fun t => { t with inFlight := none, cal := t.cal.put w.record seq }))).reportInactive .storeWrite)) :=
      ((hput.trans (applyConversion_redrives _ w.record.key)).trans (State.reportInactive_redrives _ .storeWrite)).trans
        (.of_same (by simp) (by simp))
    exact .ite (hended.trans (.of_same (by simp) (by simp))) hended

theorem startWrite_redrives : s.Redrives (startWrite s) := by
  unfold startWrite
  split
  · exact .refl s
  · exact dropWrite_redrives s
  · exact .ite (.of_same rfl rfl) (.of_same rfl rfl)

theorem takeNextUpTo_redrives (n : Nat) : s.Redrives (takeNextUpTo n s) := by
  induction n generalizing s with
  | zero => exact .refl s
  | succ n ih =>
    unfold takeNextUpTo
    split
    next w rest _ _ _ =>
      have htaken : s.Redrives (s.onStore (fun t => { t with queue := rest, inFlight := some (w, false) })) :=
        .of_same rfl rfl
      exact (htaken.trans (startWrite_redrives _)).trans (ih _)
    · exact .refl s

theorem State.takeNext_redrives : s.Redrives s.takeNext := takeNextUpTo_redrives s _

theorem State.handWrite_redrives (w : Write) : s.Redrives (s.handWrite w) :=
  have hqueued : s.Redrives (s.onStore (fun t => ({ t with queue := enqueue w t.queue }).savedFrom w.record)) :=
    .of_same rfl rfl
  hqueued.trans (State.takeNext_redrives _)

theorem abandon_redrives (next : Option StoreOp) : s.Redrives (abandon next s) := by
  cases next with
  | some o => exact (dropWrite_redrives s).trans (.of_same rfl rfl)
  | none =>
    have hnoOp : s.Redrives s.noOp := .of_same rfl rfl
    exact (hnoOp.trans (dropWrite_redrives _)).trans (State.takeNext_redrives _)

variable {s} in
/-- What follows the program of a slot or a header follows the state it leaves. -/
theorem State.Redrives.of_program {t u : State} {p : Page} {slot : Nat} {meant : List Byte} {rb : ReadBack} {ok : Bool}
    (h : programSlot p slot meant rb s = (t, ok)) (hu : t.Redrives u) : s.Redrives u :=
  have ht : s.Redrives t := (Prod.mk.inj h).1 ▸ .of_same rfl rfl
  ht.trans hu

theorem nextCopy_redrives (p : Page) (slot : Nat) (rest : List (CalRecord × Nat)) : s.Redrives (nextCopy p slot rest s) :=
  .of_same (by simp) (by simp)

theorem slotProgramEnds_redrives (rb : ReadBack) : s.Redrives (slotProgramEnds rb s) := by
  unfold slotProgramEnds
  split
  · split
    next t hp =>
      have hnoOp : t.Redrives t.noOp := .of_same rfl rfl
      exact .of_program hp ((hnoOp.trans (completeWrite_redrives _ _)).trans (State.takeNext_redrives _))
    next t hp => exact .of_program hp (.ite ((dropWrite_redrives t).trans (.of_same rfl rfl)) (.of_same rfl rfl))
  · split
    next t hp => exact .of_program hp (nextCopy_redrives t _ _ _)
    next t hp => exact .of_program hp (.ite (abandon_redrives t _) (.of_same rfl rfl))
  · exact .refl s

theorem voidProgramEnds_redrives : s.Redrives (voidProgramEnds s) := by
  have hvoid (p : Page) (slot : Nat) : s.Redrives (voidSlot p slot s).noOp := .of_same rfl rfl
  unfold voidProgramEnds
  split
  · exact .ite ((hvoid _ _).trans (startWrite_redrives _)) ((hvoid _ _).trans (State.takeNext_redrives _))
  · dsimp only
    split
    · exact .of_same rfl rfl
    · exact (hvoid _ _).trans (State.takeNext_redrives _)
  · exact .refl s

theorem formatFails_redrives : s.Redrives (formatFails s) :=
  have hout : s.Redrives (s.noOp.onStore (fun t => { t with inUse := none })) := .of_same rfl rfl
  (hout.trans (State.raise_redrives _ _ none)).trans (State.takeNext_redrives _)

theorem pageEraseEnds_redrives (rb : ReadBack) : s.Redrives (pageEraseEnds rb s) := by
  have herased {p : Page} {t u : State} {ok : Bool} (h : eraseEnds p rb s = (t, ok)) (hu : t.Redrives u) : s.Redrives u := by
    obtain rfl : (eraseEnds p rb s).1 = t := congrArg Prod.fst h
    exact .trans (.of_same (by simp) (by simp)) hu
  unfold pageEraseEnds
  split
  · split
    next hp => exact herased hp (.of_same rfl rfl)
    next t hp => exact herased hp (.ite (abandon_redrives t _) (.of_same rfl rfl))
  · split
    next hp => exact herased hp (.of_same rfl rfl)
    next t hp => exact herased hp (.ite (formatFails_redrives t) (.of_same rfl rfl))
  · exact .refl s

theorem headerProgramEnds_redrives (rb : ReadBack) : s.Redrives (headerProgramEnds rb s) := by
  have hnoOp (t : State) : t.Redrives t.noOp := .of_same rfl rfl
  unfold headerProgramEnds
  dsimp only
  split
  · split
    next t hp => exact .of_program hp (nextCopy_redrives t _ _ _)
    next t hp => exact .of_program hp (.ite (abandon_redrives t _) (.of_same rfl rfl))
  · split
    next hp => exact .of_program hp (.of_same rfl rfl)
    next t hp => exact .of_program hp (.ite (abandon_redrives t _) (.of_same rfl rfl))
  · split
    next t hp => exact .of_program hp ((hnoOp t).trans (startWrite_redrives _))
    next t hp =>
      exact .of_program hp (.ite (((hnoOp t).trans (State.raise_redrives _ _ none)).trans (startWrite_redrives _))
        (.of_same rfl rfl))
  · split
    next t hp => exact .of_program hp ((hnoOp t).trans (State.takeNext_redrives _))
    next t hp =>
      exact .of_program hp (.ite (((hnoOp t).trans (State.raise_redrives _ _ none)).trans (State.takeNext_redrives _))
        (.of_same rfl rfl))
  · split
    next hp => exact .of_program hp (.of_same rfl rfl)
    next t hp => exact .of_program hp (.ite (formatFails_redrives t) (.of_same rfl rfl))
  · split
    next t hp =>
      have hout : t.Redrives (t.noOp.onStore (fun u => { u with inUse := some .p0, nextFree := 1 })) := .of_same rfl rfl
      exact .of_program hp (hout.trans (State.takeNext_redrives _))
    next t hp => exact .of_program hp (.ite (formatFails_redrives t) (.of_same rfl rfl))
  · exact .refl s

theorem handOffset_redrives (c : Clutch) : s.Redrives (handOffset c s) := by
  unfold handOffset
  split
  · exact s.handWrite_redrives _
  · exact .refl s

theorem handOffsets_redrives : s.Redrives (handOffsets s) :=
  .foldl (fun t c => .ite (handOffset_redrives t c) (.refl t)) allClutches s

theorem changeWorking_redrives (c : Clutch) (v : Int) : s.Redrives (changeWorking c v s) :=
  have hset : s.Redrives (s.onStore (fun t => { t with working := t.working.set c v })) := .of_same rfl rfl
  .ite (hset.trans (handOffset_redrives _ c)) hset

theorem oilTimer_redrives (temp : Int) : s.Redrives (oilTimer temp s) :=
  .trans (t := s.onStore _) (.of_same rfl rfl) (State.report_redrives _ _ _)

theorem adaptationOutcome_redrives (eligible : Bool) : s.Redrives (adaptationOutcome eligible s) := by
  have hclosed : s.Redrives (s.onStore (fun t => { t with watch := none })) := .of_same rfl rfl
  unfold adaptationOutcome
  split
  · exact .refl s
  · dsimp only
    split
    · exact .ite (hclosed.trans (changeWorking_redrives _ _ _)) hclosed
    · exact hclosed

/-! ### The calibration run -/

theorem enterWrite_redrives (c : Clutch) : s.Redrives (enterWrite c s) := by
  unfold enterWrite
  dsimp only
  exact .trans (t := (s.onRun _).onStore _) (.of_same rfl rfl) (State.handWrite_redrives _ _)

theorem fillStep_redrives (c : Clutch) : s.Redrives (fillStep c s) := by
  have hpulse (n : Nat) : s.Redrives (beginPulse n s) := .of_same rfl rfl
  unfold fillStep
  dsimp only
  split
  · exact .ite (hpulse _) (.refl s)
  · exact .ite (enterWrite_redrives s c) (.ite (.of_same rfl rfl) (.refl s))
  · exact .ite (enterWrite_redrives s c) (.ite (.ite (.of_same rfl rfl) (.of_same rfl rfl)) (.refl s))
  · exact .ite (hpulse _) (.refl s)

theorem runStep_redrives (pedal : Nat) : s.Redrives (runStep pedal s) := by
  have hsame := State.Redrives.refl s
  have habort (r : RunReason) : s.Redrives (s.abortRun r) := .of_same (by simp) (by simp)
  have hprepare : s.Redrives (prepareStep s) := .of_same (by simp) (by simp)
  have hkiss : s.Redrives (kissStep s) := .of_same (by simp) (by simp)
  unfold runStep
  repeat' split
  all_goals first | exact hsame | exact habort _ | exact hprepare | exact hkiss | exact fillStep_redrives s _

/-! ### The Shift Sequencer -/

theorem endShift_redrives (r : ShiftRec) : s.Redrives (endShift r s) := by
  have hcleared : s.Redrives ((clearShift s).onSeq (fun q =>
      { q with
        gear := q.target
        lastDir := q.target.dir
        preselect := none
        target := q.pendingTarget.getD q.target
        pendingTarget := none })) := .of_same (by simp) (by simp)
  have hreported := hcleared.trans (.ite (p := r.timedOut = true) (.refl _) (State.reportInactive_redrives _ .shiftTimeout))
  exact .ite (hreported.trans (adaptationOutcome_redrives _ _)) hreported

theorem finishStep_redrives (r : ShiftRec) : s.Redrives (finishStep r s) :=
  have hfilled : s.Redrives (if r.declutched then s.applyFilled (gearClutches r.onComing) else s) :=
    .ite (.of_same (by simp) (by simp)) (.refl s)
  .ite (hfilled.trans (endShift_redrives _ r)) hfilled

/-- A phase before FINISH moves clutches and the shift record alone. -/
theorem phaseStep_redrives (r : ShiftRec) : s.Redrives (phaseStep r s) := by
  cases hphase : r.phase
  case finish =>
    rw [show phaseStep r s = finishStep r s by simp [phaseStep, hphase]]
    exact finishStep_redrives s r
  all_goals exact .of_same (by simp [phaseStep, hphase]) (by simp [phaseStep, hphase])

theorem timeoutShift_redrives (pedal : Nat) (r : ShiftRec) : s.Redrives (timeoutShift pedal r s) := by
  unfold timeoutShift
  dsimp only
  exact .trans (.of_same (by simp) (by simp)) (State.raise_redrives _ _ none)

theorem timeoutStage_redrives (pedal : Nat) : s.Redrives (timeoutStage pedal s) := by
  unfold timeoutStage
  split
  · exact .ite (timeoutShift_redrives s pedal _) (.refl s)
  · exact .refl s

theorem progressStage_redrives (pedal : Nat) : s.Redrives (progressStage pedal s) := by
  have hshake : s.Redrives (handshake s) := .of_same (by simp) (by simp)
  unfold progressStage
  dsimp only
  split
  · exact (hshake.trans (phaseStep_redrives _ _)).trans (timeoutStage_redrives _ pedal)
  · exact hshake

theorem slipStage_redrives (pedal : Nat) : s.Redrives (slipStage pedal s) := by
  have hraised : s.Redrives ((neutralReaction (s.raise .clutchSlip none)).onSeq (fun q =>
      { q with slipSince := none, causes := { q.causes with gateClosed := true } })) :=
    (s.raise_redrives .clutchSlip none).trans (.of_same (by simp) (by simp))
  exact .ite (hraised.trans (State.reportInactive_redrives _ _)) (.of_same rfl rfl)

theorem demandClutches_redrives : s.Redrives (demandClutches s) :=
  .foldl (fun t _ => t.demand_redrives _ _) allClutches s

theorem shiftStep_redrives (pedal : Nat) : s.Redrives (shiftStep pedal s) := by
  unfold shiftStep
  extract_lets early moved judged
  have hinhibited : s.Redrives (inhibitStage early) := .of_same (by simp [early]) (by simp [early])
  have hmoved : s.Redrives (autoStage pedal moved) :=
    (hinhibited.trans (progressStage_redrives _ pedal)).trans (.of_same (by simp [moved]) (by simp [moved]))
  have hcommanded : s.Redrives (commandStage pedal (preselectStage (runOverride pedal judged))) :=
    (hmoved.trans (slipStage_redrives _ pedal)).trans (.of_same (by simp [judged]) (by simp [judged]))
  exact (hcommanded.trans (demandClutches_redrives _)).trans (.of_same (by simp) (by simp))

/-! ### The Axle Engagement block -/

theorem engagementStage_redrives : s.Redrives (engagementStage s) :=
  s.judgeBrakeEngagement_redrives.trans (.of_same rfl rfl)

theorem failedRelease_redrives : s.Redrives (failedRelease s) :=
  .trans (t := (s.onAxle _).onOwn _) (.of_same rfl rfl) (State.raise_redrives _ _ none)

theorem moveFwd_redrives (closed : Bool) : s.Redrives (moveFwd closed s) := by
  unfold moveFwd
  extract_lets a waited openSince t
  have ht : s.Redrives t := .of_same rfl rfl
  have hmove (f : AxleRec → AxleRec) : s.Redrives (t.onOwn f) := .of_same rfl rfl
  split
  · exact .ite ht (hmove _)
  · exact .ite (hmove _) (.ite (ht.trans (failedRelease_redrives t)) ht)
  · exact .ite (hmove _) (.ite (ht.trans (failedRelease_redrives t)) ht)
  · exact .ite ((hmove _).trans (State.reportInactive_redrives _ _)) ht

theorem lockStage_redrives (gateOpen : Bool) : s.Redrives (lockStage gateOpen s) :=
  s.judgeDrop_redrives.trans (.of_same rfl rfl)

theorem transmissionStage_redrives : s.Redrives (transmissionStage s) :=
  .trans (t := s.onAxle _) (.of_same rfl rfl) (State.report_redrives _ _ _)

theorem axleOutputs_redrives : s.Redrives (axleOutputs s) :=
  ((s.demand_redrives _ _).trans (State.demand_redrives _ _ _)).trans (State.publishAxle_redrives _)

theorem axleStep_redrives (closed : Bool) : s.Redrives (axleStep closed s) := by
  have hmodes : s.Redrives (modesStage s) := .of_same (by simp) (by simp)
  have happlied : s.Redrives (appliedStage (engagementStage (modesStage s))) :=
    (hmodes.trans (engagementStage_redrives _)).trans (.of_same (by simp) (by simp))
  unfold axleStep
  extract_lets t
  have ht : s.Redrives t := (happlied.trans (moveFwd_redrives _ closed)).trans (.of_same rfl rfl)
  exact ((ht.trans (lockStage_redrives t _)).trans (transmissionStage_redrives _)).trans (axleOutputs_redrives _)

/-! ### The Hitch Controller -/

theorem positionStage_redrives (adc : Nat) : s.Redrives (positionStage adc s) := by
  have hset (f : HitchState → HitchState) : s.Redrives (s.onHitch f) := .of_same rfl rfl
  unfold positionStage
  split
  · exact hset _
  · exact .ite (.ite ((hset _).trans (State.reportInactive_redrives _ _)) (hset _))
      (.ite (.ite ((hset _).trans (State.raise_redrives _ _ none)) (hset _)) (hset _))

theorem pinStage_redrives (l r : Int) : s.Redrives (pinStage l r s) := by
  have hset (f g : HitchState → HitchState) : s.Redrives ((s.onHitch f).onHitch g) := .of_same rfl rfl
  exact .ite (.ite (.ite ((hset _ _).trans (State.reportInactive_redrives _ _)) (hset _ _))
    (.ite (.ite ((hset _ _).trans (State.raise_redrives _ _ none)) (hset _ _)) (hset _ _))) (.of_same rfl rfl)

theorem runawayStage_redrives (q : Int) : s.Redrives (runawayStage q s) := by
  unfold runawayStage
  extract_lets history cond full r t
  have ht : s.Redrives t := .trans (t := s.onHitch _) (.of_same rfl rfl) (State.report_redrives _ _ _)
  split
  · exact ht.trans (.of_same (by simp) (by simp))
  · exact ht

theorem pilotStage_redrives (q : Int) : s.Redrives (pilotStage q s) :=
  (s.demand_redrives _ _).trans (State.demand_redrives _ _ _)

theorem hitchStep_redrives (inp : HitchInputs) : s.Redrives (hitchStep inp s) := by
  unfold hitchStep
  extract_lets adc l r d sensed moved q t
  have hsensed : s.Redrives sensed :=
    ((positionStage_redrives s adc).trans (pinStage_redrives _ l r)).trans (.of_same (by simp [sensed]) (by simp [sensed]))
  have hmoved : s.Redrives (moved.onHitch (fun h =>
      { h with report := { h.report with q := q, eSlip := slipTerm moved, rawAdc := adc } })) :=
    hsensed.trans (.of_same (by simp [moved]) (by simp [moved]))
  have ht : s.Redrives t := (hmoved.trans (runawayStage_redrives _ q)).trans (pilotStage_redrives _ q)
  exact ht.trans (.of_same (by simp) (by simp))

/-! ### The Trailer Brake Controller -/

theorem transducerStage_redrives (raw : Nat) : s.Redrives (transducerStage raw s) := by
  have hset (f : BrakeState → BrakeState) (g : BrakeDemand → BrakeDemand) : s.Redrives ((s.onBrake f).onDemand g) :=
    .of_same rfl rfl
  exact .ite (.ite ((hset _ _).trans (State.reportInactive_redrives _ _)) (hset _ _))
    (.ite (.ite ((hset _ _).trans (State.raise_redrives _ _ none)) (.of_same rfl rfl)) (hset _ _))

theorem publishDemand_redrives : s.Redrives (publishDemand s) := by
  have hcount (o : Option Nat) :
      s.Redrives (if s.axle.brakeEngagement then s.onAxle (fun a => { a with brakeOffAt := o }) else s) :=
    .ite (.of_same rfl rfl) (.refl s)
  exact ((hcount _).trans (State.judgeBrakeEngagement_redrives _)).trans (State.judgeDrop_redrives _)

theorem demandStage_redrives (left right park : Bool) : s.Redrives (demandStage left right park s) :=
  .trans (t := s.onDemand _) (.of_same rfl rfl) (publishDemand_redrives _)

theorem inputChecks_redrives : s.Redrives (inputChecks s) := by
  unfold inputChecks
  extract_lets d disagree r t park u
  have hu : s.Redrives u :=
    .trans (t := s.onBrake _) (.of_same rfl rfl) ((State.report_redrives _ _ _).trans (.of_same rfl rfl))
  exact .ite (.ite hu (hu.trans (u.raise_redrives _ none))) (hu.trans (u.reportInactive_redrives _))

theorem chargingStep_redrives (park closed : Bool) : s.Redrives (chargingStep park closed s) := by
  have hset (f : TrailerRec → TrailerRec) : s.Redrives (s.onTrailer f) := .of_same rfl rfl
  refine .ite ((hset _).trans (State.reportInactive_redrives _ _)) (.ite
    (.ite ((hset _).trans (State.reportInactive_redrives _ _)) ?_) (hset _))
  split
  · exact hset _
  · exact .ite (s.raise_redrives _ none) (.refl s)

theorem readyStep_redrives (park closed : Bool) : s.Redrives (readyStep park closed s) := by
  have hset (f : TrailerRec → TrailerRec) : s.Redrives (s.onTrailer f) := .of_same rfl rfl
  have hlost (t : State) : t.Redrives (breakaway t) :=
    .trans (t := t.onTrailer _) (.of_same rfl rfl) (State.raise_redrives _ _ none)
  exact .ite (hset _) (.ite ((hset _).trans (hlost _)) (hset _))

/-- The trailer's records as the latch clears (R151). -/
def BrakeState.unlatched (b : BrakeState) (now : Nat) : BrakeState :=
  { b with
    trailer := { enterLine now .ready b.trailer with openSince := none, closedSince := none, ackSeen := false }
    recharged := false }

theorem State.clearLatch_eq :
    s.clearLatch = (s.onBrake (·.unlatched s.now)).reportInactive .trailerSupplyLost := rfl

theorem State.clearLatch_redrives : s.Redrives s.clearLatch :=
  have hready : s.Redrives (s.onBrake (·.unlatched s.now)) := .of_same rfl rfl
  hready.trans (State.reportInactive_redrives _ .trailerSupplyLost)

theorem supplyStage_redrives (park closed : Bool) : s.Redrives (supplyStage park closed s) := by
  have hset (f : TrailerRec → TrailerRec) (g : BrakeState → BrakeState) : s.Redrives ((s.onTrailer f).onBrake g) :=
    .of_same rfl rfl
  unfold supplyStage
  split
  · exact .refl s
  · exact .ite (.refl s) (.of_same rfl rfl)
  · exact chargingStep_redrives s park closed
  · exact readyStep_redrives s park closed
  · exact .ite ((hset _ _).trans (State.clearLatch_redrives _)) (hset _ _)

theorem deviationStage_redrives : s.Redrives (deviationStage s) :=
  .trans (t := s.onBrake _) (.of_same rfl rfl) (State.report_redrives _ _ _)

theorem trailerOutputs_redrives : s.Redrives (trailerOutputs s) :=
  (s.demand_redrives _ _).trans (State.demand_redrives _ _ _)

theorem brakeStep_redrives (inp : BrakeInputs) : s.Redrives (brakeStep inp s) := by
  unfold brakeStep
  extract_lets raw read braked t
  have hread : s.Redrives read := .of_same (by simp [read]) (by simp [read])
  have hbraked : s.Redrives braked :=
    ((hread.trans (transducerStage_redrives _ raw)).trans (demandStage_redrives _ _ _ _)).trans (inputChecks_redrives _)
  have hline : s.Redrives (lineCommand (supplyStage inp.parkApplied inp.supplyClosed braked)) :=
    (hbraked.trans (supplyStage_redrives braked inp.parkApplied inp.supplyClosed)).trans (.of_same (by simp) (by simp))
  have ht : s.Redrives t := .ite (hline.trans (deviationStage_redrives _)) hbraked
  exact (ht.trans (trailerOutputs_redrives t)).trans (.of_same (by simp) (by simp))

/-! ### The service line -/

theorem writeOffset_redrives (i : Nat) (v : Int) : s.Redrives (writeOffset i v s).1 := by
  unfold writeOffset
  split
  · split
    · exact changeWorking_redrives s _ _
    · exact .refl s
  · exact .refl s

theorem writeCalField_redrives (k : Key) (i : Nat) (v : Int) : s.Redrives (writeCalField k i v s).1 := by
  unfold writeCalField
  split
  · exact s.handWrite_redrives _
  · exact .refl s

theorem putItem_redrives (item : Nat) (v : Int) : s.Redrives (putItem item v s).1 := by
  unfold putItem
  split
  · exact .of_same rfl rfl
  · split
    · exact .of_same rfl rfl
    · split
      · exact writeOffset_redrives s _ v
      · split
        · exact writeCalField_redrives s _ _ v
        · exact .refl s

theorem judgeWrite_redrives (item : Nat) (value : List Byte) : s.Redrives (judgeWrite item value s).1 := by
  unfold judgeWrite
  split
  · exact .refl s
  · split
    · exact .refl s
    · split
      · exact putItem_redrives s item _
      · exact .refl s

variable {s} in
theorem State.Redrives.answered {r : State × Option Reason} (h : s.Redrives r.1) : s.Redrives (answered r) :=
  h.trans (.of_same (by simp [Machine.answered]) (by simp [Machine.answered]))

theorem withFrame_redrives {f : SvcFrame → Option State} (hf : ∀ x t, f x = some t → s.Redrives t) :
    s.Redrives (withFrame s f) := by
  unfold withFrame
  split
  next x _ =>
    cases hx : f x with
    | none => exact .refl s
    | some t => exact hf x t hx
  · exact .refl s

theorem unlockedOnly_redrives {f : State → State} (hf : s.Redrives (f s)) : s.Redrives (unlockedOnly s f) :=
  .ite hf (.of_same (by simp) (by simp))

theorem withCalib_redrives {f : State → State × Option Reason} (hc : (f s).1.chan = s.chan)
    (hg : (f s).1.fault = s.fault) : s.Redrives (withCalib s f) :=
  .ite (.answered (.of_same hc (hg ▸ rfl))) (.of_same (by simp) (by simp))

end

end Sys2Proof.Machine
end

section
/-! PROOFS. The channel step (04, R77 to R84): what each stage makes of a channel record, of the supply monitor and of the faults
1, 5 and 26, and the gates that a raise closes and a report of another code leaves closed (09, R159, R160, R164). -/

open Sys2Proof Sys2Proof.Machine

namespace Sys2Proof.Machine

/-! ### States that keep every output under its gate -/

/-- From a state with every output under its gate to another such. -/
def State.StaysGated (s t : State) : Prop := s.outputsGated = true → t.outputsGated = true

section
variable {s t u : State}

theorem State.StaysGated.refl (s : State) : s.StaysGated s := id

theorem State.StaysGated.trans (h : s.StaysGated t) (k : t.StaysGated u) : s.StaysGated u := k ∘ h

theorem State.StaysGated.ite {p : Prop} [Decidable p] (ht : s.StaysGated t) (hu : s.StaysGated u) :
    s.StaysGated (if p then t else u) := by split <;> assumption

theorem State.Redrives.staysGated (h : s.Redrives t) : s.StaysGated t := h.gated

/-- A change of the records that keeps each under its gate. -/
theorem State.onChans_staysGated {f : Chan → Channel → Channel}
    (hf : ∀ i c, Channel.gated (s.chanGate i) c = true → (f i c).gated (s.chanGate i) = true) :
    s.StaysGated (s.onChans f) := by
  unfold State.StaysGated
  rw [State.outputsGated_iff, State.outputsGated_iff]
  intro h i
  rw [State.onChans_chan, chan_get_mapWith]
  exact hf i _ (h i)

end

/-! ### What a raise closes -/

/-- An active record of a code stands at a gate (R164). -/
def State.ClosedBy (s : State) (c : FaultCode) (g : Group) : Prop :=
  ∃ k ∈ s.fault.gates.get g, k.code = c ∧ k.active = true

theorem mem_closeRecord (c : FaultCode) (r : List Closing) : ∃ k ∈ closeRecord c r, k.code = c ∧ k.active = true := by
  unfold closeRecord
  split
  next h =>
    obtain ⟨k, hk, hc⟩ := List.any_eq_true.mp h
    have hc : k.code = c := of_decide_eq_true hc
    exact ⟨_, List.mem_map_of_mem hk, by simp [hc]⟩
  next => exact ⟨_, List.mem_append_right r (List.mem_singleton_self _), rfl, rfl⟩

/-- A record that stands active at a gate still does after another is added. -/
theorem closeRecord_keeps {c d : FaultCode} {r : List Closing} (h : ∃ k ∈ r, k.code = c ∧ k.active = true) :
    ∃ k ∈ closeRecord d r, k.code = c ∧ k.active = true := by
  obtain ⟨k, hk, hc, ha⟩ := h
  unfold closeRecord
  split
  · refine ⟨_, List.mem_map_of_mem hk, ?_⟩
    split <;> simp [hc, ha]
  · exact ⟨k, List.mem_append_left _ hk, hc, ha⟩

section
variable {s : State} {c d : FaultCode} {g : Group}

theorem State.ClosedBy.not_open (h : s.ClosedBy c g) : s.gateOpen g = false := by
  obtain ⟨k, hk, -⟩ := h
  simp [State.gateOpen, List.ne_nil_of_mem hk]

theorem State.ClosedBy.of_gates {t : State} (h : s.ClosedBy c g) (hg : t.fault.gates = s.fault.gates) : t.ClosedBy c g := by
  unfold State.ClosedBy
  rw [hg]
  exact h

theorem State.closeGate_closedBy : (s.closeGate c g).ClosedBy c g := by
  simpa [State.ClosedBy] using mem_closeRecord c _

theorem State.ClosedBy.closeGate (h : s.ClosedBy c g) (d : FaultCode) (k : Group) : (s.closeGate d k).ClosedBy c g := by
  unfold State.ClosedBy
  rw [State.closeGate_gates]
  by_cases hk : g = k
  · subst hk
    rw [group_get_set]
    exact closeRecord_keeps h
  · rw [group_get_set_other _ _ _ _ hk]
    exact h

/-- A property that one element of a list brings about and every element keeps holds after the fold. -/
theorem foldl_attains {σ α : Type} {P : σ → Prop} {f : σ → α → σ} {l : List α} {a : α} (ha : a ∈ l)
    (hreach : ∀ x, P (f x a)) (hkeep : ∀ x b, P x → P (f x b)) (x : σ) : P (l.foldl f x) := by
  obtain ⟨l₁, l₂, rfl⟩ := List.append_of_mem ha
  rw [List.foldl_append, List.foldl_cons]
  exact foldl_keeps P f l₂ _ (hreach _) fun y b _ hy => hkeep y b hy

/-- The closings of a raise, with what follows them, which changes no gate (R159). -/
theorem State.raise_fold_gates (s : State) (d : FaultCode) (named : Option Group) : ∃ t : State,
    t.fault.gates = s.fault.gates ∧
      (s.raise d named).fault.gates = ((gatesOf d named).foldl (fun u k => u.closeGate d k) t).fault.gates :=
  ⟨{ s with fault := record s.now d { s.fault with active := setActive d true s.fault.active } }, record_gates _ _ _,
    by simp [State.raise]⟩

/-- A raise closes the gates of its code (R164). -/
theorem State.raise_closedBy {named : Option Group} (hg : g ∈ gatesOf c named) : (s.raise c named).ClosedBy c g := by
  obtain ⟨t, -, hraise⟩ := s.raise_fold_gates c named
  exact (foldl_attains (P := fun u : State => u.ClosedBy c g) hg (fun _ => State.closeGate_closedBy)
    (fun _ k h => h.closeGate c k) t).of_gates hraise

theorem State.ClosedBy.raise (h : s.ClosedBy c g) (d : FaultCode) (named : Option Group) : (s.raise d named).ClosedBy c g := by
  obtain ⟨t, ht, hraise⟩ := s.raise_fold_gates d named
  exact (foldl_keeps (fun u : State => u.ClosedBy c g) _ _ t (h.of_gates ht) fun _ k _ hu => hu.closeGate d k).of_gates hraise

/-- A report that another code is inactive leaves the record (R165). -/
theorem State.ClosedBy.reportInactive (h : s.ClosedBy c g) (hd : d ≠ c) : (s.reportInactive d).ClosedBy c g := by
  have hupdate (t : State) (k : Group) (ht : t.ClosedBy c g) :
      (t.updateGate (fun k => if k.code = d then { k with active := false } else k) k).ClosedBy c g := by
    unfold State.ClosedBy
    rw [State.updateGate_gates]
    by_cases hk : g = k
    · subst hk
      obtain ⟨x, hx, hc, ha⟩ := ht
      rw [group_get_set]
      refine ⟨x, List.mem_filter.mpr ⟨List.mem_map.mpr ⟨x, hx, ?_⟩, by simp [ha]⟩, hc, ha⟩
      rw [if_neg (hc ▸ hd.symm)]
    · rw [group_get_set_other _ _ _ _ hk]
      exact ht
  unfold State.reportInactive State.inactive
  split
  · dsimp only
    refine State.ClosedBy.of_gates ?_ (State.offerNotices_keeps _).2
    exact foldl_keeps (fun u : State => u.ClosedBy c g) _ allGroups _ (h.of_gates rfl) fun u k _ hu => hupdate u k hu
  · exact h

end

/-! ### The supply monitor (R82, R84) -/

theorem repull_gated {now : Nat} {g : Bool} {c : Channel} (h : c.gated g = true) : (repull now c).gated g = true := by
  unfold repull
  split
  next hs => simpa [Channel.gated_iff, ChanState.drives, hs] using h
  · exact h

section
variable {s : State} {volts : Nat}

/-- The stage moves the monitor and, at the ends of a dip, timers or held channels, and ends with the verdict on fault 5. -/
theorem monitorStage_eq (volts : Nat) (s : State) : ∃ t : State, s.StaysGated t ∧ t.fault = s.fault ∧
    t.chan.monitor = (moveMonitor s.now (clamp 0 400 volts) s.chan.monitor).1 ∧
    monitorStage volts s = t.report .valveSupplyLow (moveMonitor s.now (clamp 0 400 volts) s.chan.monitor).2 := by
  have hmoved (m : Monitor) : s.StaysGated { s with chan := { s.chan with monitor := m } } := id
  refine ⟨_, ?_, ?_, ?_, rfl⟩
  · split
    · exact (hmoved _).trans (State.onChans_staysGated fun _ _ h => h)
    · exact (hmoved _).trans (State.onChans_staysGated fun _ _ h => repull_gated h)
    · exact hmoved _
  all_goals split <;> rfl

theorem monitorStage_staysGated (volts : Nat) (s : State) : s.StaysGated (monitorStage volts s) := by
  obtain ⟨t, ht, -, -, heq⟩ := monitorStage_eq volts s
  exact heq ▸ ht.trans (t.report_redrives _ _).staysGated

theorem monitorStage_monitor (volts : Nat) (s : State) :
    (monitorStage volts s).chan.monitor = (moveMonitor s.now (clamp 0 400 volts) s.chan.monitor).1 := by
  obtain ⟨t, -, -, hm, heq⟩ := monitorStage_eq volts s
  rw [heq, (t.report_redrives _ _).monitor, hm]

theorem monitorStage_supplyLow (volts : Nat) (s : State) : (monitorStage volts s).active .valveSupplyLow =
    (moveMonitor s.now (clamp 0 400 volts) s.chan.monitor).2.after (s.active .valveSupplyLow) := by
  obtain ⟨t, -, hf, -, heq⟩ := monitorStage_eq volts s
  rw [heq, State.report_active, State.active, hf, State.active]

/-- Fault 5 closes the four gates (R83, R164). -/
theorem monitorStage_closes (h : (moveMonitor s.now (clamp 0 400 volts) s.chan.monitor).2 = .raise) (g : Group) :
    (monitorStage volts s).ClosedBy .valveSupplyLow g := by
  obtain ⟨t, -, -, -, heq⟩ := monitorStage_eq volts s
  rw [heq, h]
  exact State.raise_closedBy (by cases g <;> decide)

/-- With the supply in order the stage changes nothing. -/
theorem monitorStage_of_normal (hm : s.chan.monitor = .normal) (hv : 90 ≤ volts) (ht : volts ≤ 400) :
    monitorStage volts s = s := by
  have hmove : moveMonitor s.now (clamp 0 400 volts) .normal = (.normal, .quiet) := by
    simp [moveMonitor, clamp, Nat.not_lt.mpr ht, Nat.not_lt.mpr hv]
  unfold monitorStage
  dsimp only
  rw [hm, hmove]
  show { s with chan := { s.chan with monitor := .normal } } = s
  rw [← hm]

end

/-! ### Pull-in to hold (R77) -/

theorem holdStage_gated {now : Nat} {g : Bool} {c : Channel} (h : c.gated g = true) : (holdStage now c).gated g = true := by
  unfold holdStage
  split
  next hs => simpa [Channel.gated_iff, ChanState.drives, hs.1] using h
  · exact h

/-! ### The current check (R78, R79) -/

/-- A fitted channel as it enters FAULTED at a channel step (R79). -/
structure Channel.JustFaulted (i : Chan) (now : Nat) (c : Channel) : Prop where
  fitted : c.fitted = true
  state : c.state = .faulted
  commanded : c.commanded = 0
  ackSeen : c.ackSeen = false
  faultTimer : c.faultTimer = some now
  condition : c.conditionPresent = true
  raised : c.raised = some (chanCode i, now)

section
variable {s : State} {i : Chan} {now : Nat} {c d : Channel}

theorem Channel.JustFaulted.ruled (h : c.JustFaulted i now) (hr : c.Ruled d) : d.JustFaulted i now where
  fitted := hr.fitted.trans h.fitted
  state := (hr.faulted h.fitted h.state).1
  commanded := (hr.faulted h.fitted h.state).2 h.commanded
  ackSeen := hr.ackSeen.trans h.ackSeen
  faultTimer := hr.faultTimer.trans h.faultTimer
  condition := hr.condition.trans h.condition
  raised := hr.raised.trans h.raised

theorem checkCurrent_justFaulted (hf : c.fitted = true) (h : channelFails now c = true) :
    (checkCurrent now i c).JustFaulted i now := by
  rw [checkCurrent, if_pos h]
  exact ⟨hf, rfl, rfl, rfl, rfl, rfl, rfl⟩

theorem checkCurrent_gated {g : Bool} (h : c.gated g = true) : (checkCurrent now i c).gated g = true := by
  unfold checkCurrent
  split
  · exact Channel.gated_of_still rfl rfl
  · split <;> exact h

theorem raiseChannel_redrives (s : State) (i : Chan) : s.Redrives (raiseChannel s i) := by
  unfold raiseChannel
  split <;> exact s.raise_redrives _ _

/-- The raise for a channel that enters FAULTED (R79). -/
theorem raiseChannel_eq (s : State) (i : Chan) :
    ∃ named, raiseChannel s i = s.raise (chanCode i) named ∧
      ∀ g, chanGroup i = some g → g ∈ gatesOf (chanCode i) named := by
  cases i
  case clutch c => exact ⟨none, rfl, fun g h => by obtain rfl := Option.some.inj h; exact List.mem_singleton_self _⟩
  all_goals exact ⟨_, rfl, fun g h => Option.mem_toList.mpr h⟩

theorem currentStage_staysGated (s : State) : s.StaysGated (currentStage s) :=
  .ite ((State.onChans_staysGated fun _ _ h => checkCurrent_gated h).trans
    (State.Redrives.foldl raiseChannel_redrives _ _).staysGated) (.refl s)

theorem currentStage_monitor (s : State) : (currentStage s).chan.monitor = s.chan.monitor := by
  unfold currentStage
  split
  · exact (State.Redrives.foldl raiseChannel_redrives _ _).monitor
  · rfl

/-- What raises of faults 1 and 26 leave, the current check leaves. -/
theorem currentStage_keeps {P : State → Prop} (hc : ∀ t : State, P t → P (t.onChans (checkCurrent t.now)))
    (hr : ∀ (t : State) (j : Chan), P t → P (raiseChannel t j)) (h : P s) : P (currentStage s) := by
  unfold currentStage
  split
  · exact foldl_keeps P _ _ _ (hc s h) fun t j _ ht => hr t j ht
  · exact h

theorem currentStage_active_other {c : FaultCode} (h1 : c ≠ .clutchChannel) (h26 : c ≠ .auxChannel) (s : State) :
    (currentStage s).active c = s.active c := by
  refine currentStage_keeps (P := fun t => t.active c = s.active c) (fun t ht => ht) (fun t j ht => ?_) rfl
  cases j <;> simp [raiseChannel, h1, h26, ht]

/-- A failing channel is FAULTED, its fault is active and its gate closed at the end of the stage (R79). -/
theorem currentStage_faults (hn : s.supplyNormal = true) (hf : (s.chan.channels.get i).fitted = true)
    (h : channelFails s.now (s.chan.channels.get i) = true) :
    ((currentStage s).chan.channels.get i).JustFaulted i s.now ∧ (currentStage s).active (chanCode i) = true ∧
      ∀ g, chanGroup i = some g → (currentStage s).ClosedBy (chanCode i) g := by
  have hmem : i ∈ allChans.filter (fun i => channelFails s.now (s.chan.channels.get i)) :=
    List.mem_filter.mpr ⟨mem_allChans i, h⟩
  rw [currentStage, if_pos hn]
  dsimp only
  refine ⟨?_, ?_, fun g hg => ?_⟩
  · refine Channel.JustFaulted.ruled ?_ ((State.Redrives.foldl raiseChannel_redrives _ _).ruled i)
    rw [State.onChans_chan, chan_get_mapWith]
    exact checkCurrent_justFaulted hf h
  · refine foldl_attains (P := fun t : State => t.active (chanCode i) = true) hmem (fun t => ?_) (fun t j ht => ?_) _
    · obtain ⟨named, heq, -⟩ := raiseChannel_eq t i
      simp [heq]
    · obtain ⟨named, heq, -⟩ := raiseChannel_eq t j
      simp [heq, ht]
  · refine foldl_attains (P := fun t : State => t.ClosedBy (chanCode i) g) hmem (fun t => ?_) (fun t j ht => ?_) _
    · obtain ⟨named, heq, hgate⟩ := raiseChannel_eq t i
      exact heq ▸ State.raise_closedBy (hgate g hg)
    · obtain ⟨named, heq, -⟩ := raiseChannel_eq t j
      exact heq ▸ ht.raise _ named

end

/-! ### The idle check and leaving FAULTED (R80, R81) -/

section
variable {s : State} {i : Chan} {now : Nat} {c : Channel}

theorem checkIdle_gated {g : Bool} (h : c.gated g = true) : (checkIdle now c).gated g = true := by
  unfold checkIdle
  split <;> exact h

/-- The condition of a channel that has just entered FAULTED is present still (R80). -/
theorem Channel.JustFaulted.checkIdle (h : c.JustFaulted i now) : (checkIdle now c).JustFaulted i now := by
  have htimer : (if 50 < c.measured ∨ c.faultTimer = none then some now else c.faultTimer) = some now := by
    rw [h.faultTimer, ite_self]
  rw [Machine.checkIdle, if_pos h.state]
  dsimp only
  rw [htimer]
  exact ⟨h.fitted, h.state, h.commanded, h.ackSeen, rfl, by simp [h.condition, passed], h.raised⟩

/-- What the idle check of the records leaves, and the two reports that it may make, the stage leaves (R80). -/
theorem idleStage_keeps {P : State → Prop} (hc : ∀ t : State, P t → P (t.onChans (fun _ c => checkIdle t.now c)))
    (hr : ∀ (t : State) (d : FaultCode), d = .clutchChannel ∨ d = .auxChannel → conditionOf d t.chan.channels = false →
      P t → P (t.reportInactive d)) (h : P s) : P (idleStage s) := by
  have hreport (t : State) (d : FaultCode) (hd : d = .clutchChannel ∨ d = .auxChannel) (ht : P t) :
      P (if conditionOf d t.chan.channels then t else t.reportInactive d) := by
    split
    · exact ht
    next hcond => exact hr t d hd (Bool.not_eq_true _ ▸ hcond) ht
  unfold idleStage
  split
  · exact hreport _ _ (.inr rfl) (hreport _ _ (.inl rfl) (hc s h))
  · exact h

theorem idleStage_staysGated (s : State) : s.StaysGated (idleStage s) :=
  idleStage_keeps (P := s.StaysGated) (fun _ ht => ht.trans (State.onChans_staysGated fun _ _ h => checkIdle_gated h))
    (fun t d _ _ ht => ht.trans (t.reportInactive_redrives d).staysGated) (.refl s)

theorem idleStage_monitor (s : State) : (idleStage s).chan.monitor = s.chan.monitor :=
  idleStage_keeps (P := fun t => t.chan.monitor = s.chan.monitor) (fun _ ht => ht)
    (fun t d _ _ ht => (t.reportInactive_redrives d).monitor.trans ht) rfl

theorem idleStage_active_other {c : FaultCode} (h1 : c ≠ .clutchChannel) (h26 : c ≠ .auxChannel) (s : State) :
    (idleStage s).active c = s.active c := by
  refine idleStage_keeps (P := fun t => t.active c = s.active c) (fun _ ht => ht) (fun t d hd _ ht => ?_) rfl
  rcases hd with rfl | rfl <;> simp [h1, h26, ht]

theorem conditionOf_true {p : PerChan Channel} (h : (p.get i).conditionPresent = true) : conditionOf (chanCode i) p = true :=
  List.any_eq_true.mpr ⟨i, mem_allChans i, by simp [h]⟩

/-- A channel that the current check has found FAULTED is so at the end of the idle check, with its fault and its closings. -/
theorem idleStage_faulted (hj : (s.chan.channels.get i).JustFaulted i s.now) (ha : s.active (chanCode i) = true)
    (hg : ∀ g, chanGroup i = some g → s.ClosedBy (chanCode i) g) :
    ((idleStage s).chan.channels.get i).JustFaulted i s.now ∧ (idleStage s).active (chanCode i) = true ∧
      ∀ g, chanGroup i = some g → (idleStage s).ClosedBy (chanCode i) g := by
  refine (idleStage_keeps (P := fun t => t.now = s.now ∧ (t.chan.channels.get i).JustFaulted i s.now ∧
      t.active (chanCode i) = true ∧ ∀ g, chanGroup i = some g → t.ClosedBy (chanCode i) g)
    (fun t ⟨hn, hj, ha, hg⟩ => ⟨hn, ?_, ha, hg⟩) (fun t d _ hcond ⟨hn, hj, ha, hg⟩ => ?_) ⟨rfl, hj, ha, hg⟩).2
  · rw [State.onChans_chan, chan_get_mapWith, hn]
    exact hj.checkIdle
  · have hd : d ≠ chanCode i := by
      rintro rfl
      simp [conditionOf_true hj.condition] at hcond
    exact ⟨by simp [hn], hj.ruled ((t.reportInactive_redrives d).ruled i), by simp [hd.symm, ha],
      fun g hi => (hg g hi).reportInactive hd⟩

theorem leaveFaulted_gated (h : c.gated (s.chanGate i) = true) : (leaveFaulted s i c).gated (s.chanGate i) = true := by
  unfold leaveFaulted
  split
  · exact applyRule_gated (s := s) (i := i) (c := { c with state := .off, faultTimer := none })
  · exact h

/-- A channel stays FAULTED while its condition is present (R81). -/
theorem Channel.JustFaulted.leaveFaulted (h : c.JustFaulted i now) : leaveFaulted s i c = c := by
  simp [Machine.leaveFaulted, h.condition]

end

/-! ### The channel step -/

section
variable (amps : PerChan Nat) (volts : Nat) (s : State)

/-- The state of a channel step after the currents are sampled and the supply monitor has moved (R78). -/
def supplied : State := monitorStage volts (s.onChans (fun i c => { c with measured := clamp 0 1600 (amps.get i) }))

/-- The state of a channel step before channels leave FAULTED. -/
def idled : State := idleStage (currentStage ((supplied amps volts s).onChans (fun _ c => holdStage s.now c)))

theorem channelStep_eq : channelStep amps volts s = { idled amps volts s with chan :=
    let p := (idled amps volts s).chan.channels.mapWith (leaveFaulted (idled amps volts s))
    { channels := p, snapshot := p, monitor := (idled amps volts s).chan.monitor } } := rfl

theorem channelStep_staysGated : s.StaysGated (channelStep amps volts s) := by
  have hsampled : s.StaysGated (s.onChans (fun i c => { c with measured := clamp 0 1600 (amps.get i) })) :=
    State.onChans_staysGated fun _ _ h => h
  have hsupplied : s.StaysGated (supplied amps volts s) := hsampled.trans (monitorStage_staysGated volts _)
  have hidled : s.StaysGated (idled amps volts s) :=
    ((hsupplied.trans (State.onChans_staysGated fun _ _ h => holdStage_gated h)).trans (currentStage_staysGated _)).trans
      (idleStage_staysGated _)
  exact hidled.trans (State.onChans_staysGated fun _ _ h => leaveFaulted_gated h)

/-- The monitor moves on the reading, and nothing else of the step moves it (R82). -/
theorem channelStep_monitor :
    (channelStep amps volts s).chan.monitor = (moveMonitor s.now (clamp 0 400 volts) s.chan.monitor).1 :=
  ((idleStage_monitor _).trans (currentStage_monitor _)).trans (monitorStage_monitor volts _)

/-- The verdict of the supply monitor decides fault 5 (R83). -/
theorem channelStep_supplyLow : (channelStep amps volts s).active .valveSupplyLow =
    (moveMonitor s.now (clamp 0 400 volts) s.chan.monitor).2.after (s.active .valveSupplyLow) :=
  ((idleStage_active_other (by decide) (by decide) _).trans
    (currentStage_active_other (by decide) (by decide) _)).trans (monitorStage_supplyLow volts _)

variable {amps volts s}

/-- A step that raises fault 5 leaves the four gates closed (R83, R164). -/
theorem channelStep_closes (h : (moveMonitor s.now (clamp 0 400 volts) s.chan.monitor).2 = .raise) (g : Group) :
    (channelStep amps volts s).gateOpen g = false := by
  have hsupplied : (supplied amps volts s).ClosedBy .valveSupplyLow g := monitorStage_closes (s := s.onChans _) h g
  have hidled : (idled amps volts s).ClosedBy .valveSupplyLow g := by
    refine idleStage_keeps (P := (State.ClosedBy · _ g)) (fun _ ht => ht) (fun t d hd _ ht => ht.reportInactive ?_) ?_
    · rcases hd with rfl | rfl <;> decide
    · refine currentStage_keeps (P := (State.ClosedBy · _ g)) (fun _ ht => ht) (fun t j ht => ?_) hsupplied
      obtain ⟨named, heq, -⟩ := raiseChannel_eq t j
      exact heq ▸ ht.raise _ named
  exact State.ClosedBy.not_open (s := idled amps volts s) hidled

/-- The record that the current check judges: the current sampled, and a pull-in of 150 ms at its hold (R77, R78). -/
def Channel.judged (now measured : Nat) (c : Channel) : Channel := holdStage now { c with measured := clamp 0 1600 measured }

/-- A pull-in of 150 ms is judged as the hold at 500 mA (R77, R78). -/
theorem Channel.judged_of_held {now measured : Nat} {c : Channel} (hm : measured ≤ 1600) (hs : c.state = .pullIn)
    (hd : c.since + 150 ≤ now) :
    c.judged now measured = { c with measured := measured, state := .hold, commanded := 500, since := now } := by
  simp [Channel.judged, holdStage, hs, hd, clamp, Nat.not_lt.mpr hm]

theorem Channel.judged_of_not_held {now measured : Nat} {c : Channel} (hm : measured ≤ 1600)
    (h : ¬ (c.state = .pullIn ∧ c.since + 150 ≤ now)) : c.judged now measured = { c with measured := measured } := by
  simp [Channel.judged, holdStage, h, clamp, Nat.not_lt.mpr hm]

/-- A checked channel fails once its deviation has lasted 200 ms (R78). -/
theorem channelFails_of_due {now u : Nat} {c : Channel} (hc : currentChecked c = true)
    (hdev : max 50 (c.commanded * 15 / 100) < Sys2Proof.dist c.measured c.commanded) (htimer : c.faultTimer = some u)
    (hdue : u + 200 ≤ now) : channelFails now c = true := by
  simp only [channelFails, hc, deviates, currentThreshold, hdev, htimer, passed, hdue, decide_true, Bool.and_self]

/-- With the supply in order, a fitted channel that fails the current check is FAULTED at the end of the step, its fault is active
and the gate of its group is closed (R79, R164). -/
theorem channelStep_faults {i : Chan} (hm : s.chan.monitor = .normal) (hv : 90 ≤ volts) (ht : volts ≤ 400)
    (hf : (s.chan.channels.get i).fitted = true)
    (h : channelFails s.now ((s.chan.channels.get i).judged s.now (amps.get i)) = true) :
    ((channelStep amps volts s).chan.channels.get i).JustFaulted i s.now ∧
      (channelStep amps volts s).active (chanCode i) = true ∧
      ∀ g, chanGroup i = some g → (channelStep amps volts s).gateOpen g = false := by
  set judged := (supplied amps volts s).onChans (fun _ c => holdStage s.now c) with hjudged
  have hsupplied : supplied amps volts s = s.onChans (fun i c => { c with measured := clamp 0 1600 (amps.get i) }) :=
    monitorStage_of_normal (s := s.onChans _) hm hv ht
  have hget : judged.chan.channels.get i = (s.chan.channels.get i).judged s.now (amps.get i) := by
    simp [hjudged, hsupplied, Channel.judged]
  have hnow : judged.now = s.now := by simp [hjudged, hsupplied]
  have hfitted : (judged.chan.channels.get i).fitted = true := by
    rw [hget, Channel.judged, holdStage]
    split <;> exact hf
  obtain ⟨hj, ha, hg⟩ := currentStage_faults (s := judged) (i := i) (by simp [hjudged, hsupplied, State.supplyNormal, hm])
    hfitted (by rw [hnow, hget]; exact h)
  have hstage : (currentStage judged).now = judged.now := by simp
  obtain ⟨hj, ha, hg⟩ := idleStage_faulted (hstage ▸ hj) ha hg
  rw [hstage, hnow] at hj
  refine ⟨?_, ha, fun g hi => State.ClosedBy.not_open (s := idled amps volts s) (hg g hi)⟩
  rw [channelStep_eq]
  dsimp only
  rw [chan_get_mapWith]
  exact hj.leaveFaulted.symm ▸ hj

end

end Sys2Proof.Machine

/-! ### The obligations -/

namespace Sys2Proof.Proofs

/-- Settles O24: the step's monitor and fault 5 are what the reading makes of the monitor before it. -/
theorem supplyMonitorMoves : Obligations.SupplyMonitorMoves := by
  intro s dt amps volts hrun hv now
  have hclamp : clamp 0 400 volts = volts := by simp [clamp, Nat.not_lt.mpr hv]
  have hmonitor := channelStep_monitor amps volts (s.advance dt)
  have hfault := channelStep_supplyLow amps volts (s.advance dt)
  have hcloses := channelStep_closes (amps := amps) (volts := volts) (s := s.advance dt)
  rw [hclamp, State.advance_chan, State.advance_now] at hmonitor hfault hcloses
  refine ⟨channelStep amps volts (s.advance dt), exec_of_running rfl hrun, fun hm => ?_, fun u hm => ⟨fun hr => ?_,
    fun hr hd => ?_, fun hr hd => ?_⟩, fun hm => ?_, fun u hm => ⟨fun hr => ?_, fun hr hd => ?_, fun hr hd => ?_⟩, rfl,
    by simp, by simp, by simp, by simp, by simp, by simp⟩
  all_goals rw [hm] at hmonitor hfault hcloses
  · rw [hmonitor, moveMonitor]
    split <;> rfl
  · simp [hmonitor, moveMonitor, hr]
  · simp [hmonitor, moveMonitor, Nat.not_le.mpr hr, show ¬ u + 50 ≤ s.now + dt from Nat.not_le.mpr hd]
  · have hmove : moveMonitor (s.now + dt) volts (.dipping u) = (.low, .raise) := by
      simp [moveMonitor, Nat.not_le.mpr hr, show u + 50 ≤ s.now + dt from hd]
    rw [hmove] at hmonitor hfault hcloses
    exact ⟨hmonitor, hfault, hcloses rfl⟩
  · rw [hmonitor, moveMonitor, ← ite_not]
    simp only [Nat.not_le]
    split <;> rfl
  · simp [hmonitor, moveMonitor, hr]
  · simp [hmonitor, moveMonitor, Nat.not_lt.mpr hr, show ¬ u + 500 ≤ s.now + dt from Nat.not_le.mpr hd]
  · have hmove : moveMonitor (s.now + dt) volts (.recovering u) = (.normal, .clear) := by
      simp [moveMonitor, Nat.not_lt.mpr hr, show u + 500 ≤ s.now + dt from hd]
    rw [hmove] at hmonitor hfault
    exact ⟨hmonitor, hfault⟩

/-- Settles O25: a deviation that has lasted 200 ms fails the current check on the record with its hold taken. -/
theorem failingChannelIsFaulted : Obligations.FailingChannelIsFaulted := by
  intro s dt amps volts hrun hm hv ht
  refine ⟨channelStep amps volts (s.advance dt), exec_of_running rfl hrun, fun i u => ?_, by simp, by simp, by simp, by simp,
    by simp⟩
  intro c held commanded hf hamps hstate hdev htimer hdue
  have hfails : channelFails (s.now + dt) (c.judged (s.now + dt) (amps.get i)) = true := by
    by_cases hheld : c.state = .pullIn ∧ c.since + 150 ≤ s.now + dt
    · have hcommanded : commanded = 500 := by simp [commanded, held, hheld]
      rw [Channel.judged_of_held hamps hheld.1 hheld.2]
      exact channelFails_of_due rfl (hcommanded ▸ hdev) htimer hdue
    · have hcommanded : commanded = c.commanded := by
        simp only [commanded, held, ← Bool.decide_and, hheld, decide_false, Bool.false_eq_true, if_false]
      have hchecked : currentChecked { c with measured := amps.get i } = true := by
        rcases hstate with h | h | h | h <;> simp [currentChecked, c, h]
      rw [Channel.judged_of_not_held hamps hheld]
      exact channelFails_of_due hchecked (hcommanded ▸ hdev) htimer hdue
  obtain ⟨hj, ha, hg⟩ := channelStep_faults (amps := amps) (s := s.advance dt) (i := i) hm hv ht hf hfails
  exact ⟨hj.state, hj.commanded, hj.ackSeen, hj.faultTimer, hj.raised, ha, hg⟩

end Sys2Proof.Proofs
end

section
/-! PROOFS. Acknowledgements (09, R161): what one leaves of the Fault List and the closing records (R160, R165), and what it tells
the channels (R80, R81), the axle (R114) and the trailer (R151). -/

open Sys2Proof Sys2Proof.Machine

namespace Sys2Proof.Machine

/-! ### The queue of events beside notices -/

theorem State.offerNotices_inbox (s : State) : s.offerNotices.link.vehicle.inbox = s.link.vehicle.inbox :=
  (offerNoticesUpTo_grows 16 s).inbox

theorem State.reportInactive_inbox (s : State) (c : FaultCode) :
    (s.reportInactive c).link.vehicle.inbox = s.link.vehicle.inbox := by
  unfold State.reportInactive
  split
  · rw [State.inactive, State.offerNotices_inbox]
    exact foldl_keeps (fun t : State => t.link.vehicle.inbox = s.link.vehicle.inbox) _ _ _ rfl fun t g _ ht => by simp [ht]
  · rfl

/-! ### Acknowledged codes -/

/-- An acknowledgement of one code, or of all, names a code (R161). -/
def acks (c : Option FaultCode) (d : FaultCode) : Bool := decide (c = none) || decide (c = some d)

/-- An entry as it stands once its code has been acknowledged (R160, R161). -/
def FaultEntry.Acked (e : FaultEntry) : Prop := e.acked = true ∧ (e.active = false → e.removalDue ≠ none)

/-- Every entry and every closing record of the codes an acknowledgement names is acknowledged, and such a record is active. -/
structure State.Acked (c : Option FaultCode) (s : State) : Prop where
  entries : ∀ e ∈ s.fault.list, acks c e.code = true → e.Acked
  closings : ∀ g, ∀ k ∈ s.fault.gates.get g, acks c k.code = true → k.acked = true ∧ k.active = true

theorem startRemoval_acked (now : Nat) {e : FaultEntry} (h : e.acked = true) : (startRemoval now e).Acked := by
  unfold startRemoval
  split
  · exact ⟨h, fun _ => by simp⟩
  next hno => exact ⟨h, fun ha hr => hno (by simp [h, ha, hr])⟩

/-- An entry under an acknowledgement (R161). -/
def FaultEntry.ackedBy (now : Nat) (c : Option FaultCode) (e : FaultEntry) : FaultEntry :=
  if acks c e.code then startRemoval now { e with acked := true } else e

/-- A closing record under an acknowledgement (R161). -/
def Closing.ackedBy (c : Option FaultCode) (k : Closing) : Closing := if acks c k.code then { k with acked := true } else k

theorem startRemoval_code (now : Nat) (e : FaultEntry) : (startRemoval now e).code = e.code := by
  unfold startRemoval; split <;> rfl

theorem FaultEntry.ackedBy_acked {now : Nat} {c : Option FaultCode} {e : FaultEntry}
    (h : acks c (e.ackedBy now c).code = true) : (e.ackedBy now c).Acked := by
  by_cases hc : acks c e.code = true
  · rw [FaultEntry.ackedBy, if_pos hc]
    exact startRemoval_acked now rfl
  · rw [FaultEntry.ackedBy, if_neg hc] at h
    exact absurd h hc

theorem Closing.ackedBy_acked {c : Option FaultCode} {k : Closing} (h : acks c (k.ackedBy c).code = true) :
    (k.ackedBy c).acked = true := by
  by_cases hc : acks c k.code = true
  · rw [Closing.ackedBy, if_pos hc]
  · rw [Closing.ackedBy, if_neg hc] at h
    exact absurd h hc

section
variable {c : Option FaultCode} {s t : State}

theorem State.Acked.of_same (h : s.Acked c) (hl : t.fault.list = s.fault.list) (hg : t.fault.gates = s.fault.gates) :
    t.Acked c := ⟨by rw [hl]; exact h.entries, by rw [hg]; exact h.closings⟩

/-- Entries changed by code. -/
theorem State.Acked.mapCode (h : s.Acked c) {d : FaultCode} {f : FaultEntry → FaultEntry}
    (hl : t.fault.list = mapCode d f s.fault.list) (hg : t.fault.gates = s.fault.gates)
    (hcode : ∀ e, (f e).code = e.code) (hf : ∀ e : FaultEntry, e.Acked → (f e).Acked) : t.Acked c := by
  refine ⟨fun e he hc => ?_, by rw [hg]; exact h.closings⟩
  rw [hl, Machine.mapCode] at he
  obtain ⟨x, hx, rfl⟩ := List.mem_map.mp he
  by_cases hd : x.code = d
  · rw [if_pos hd] at hc ⊢
    exact hf x (h.entries x hx (hcode x ▸ hc))
  · rw [if_neg hd] at hc ⊢
    exact h.entries x hx hc

theorem State.Acked.removeEntry (h : s.Acked c) (d : FaultCode) : (s.removeEntry d).Acked c :=
  ⟨fun e he => h.entries e (List.mem_filter.mp he).1, h.closings⟩

theorem State.Acked.placeNotice (h : s.Acked c) (e : FaultEntry) : (s.placeNotice e).Acked c := by
  have hplaced : State.Acked c { s.pushOut .vehicle { kind := .notice, data := faultNotice s e } with fault :=
      { s.fault with list := Machine.mapCode e.code (fun e => { e with noticePending := false }) s.fault.list } } :=
    h.mapCode rfl rfl (fun _ => rfl) fun _ he => he
  unfold State.placeNotice
  dsimp only
  split
  · exact hplaced.removeEntry _
  · exact hplaced

theorem offerNoticesUpTo_acked (n : Nat) (h : s.Acked c) : (offerNoticesUpTo n s).Acked c := by
  induction n generalizing s with
  | zero => exact h
  | succ n ih =>
    unfold offerNoticesUpTo
    split
    · split
      · exact ih (h.placeNotice _)
      · exact h
    · exact h

theorem State.Acked.offerNotices (h : s.Acked c) : s.offerNotices.Acked c := offerNoticesUpTo_acked 16 h

theorem State.updateGate_list (s : State) (f : Closing → Closing) (g : Group) :
    (s.updateGate f g).fault.list = s.fault.list := by
  unfold State.updateGate
  dsimp only
  split <;> simp

/-- A change of closing records that leaves their codes and acknowledgements. -/
theorem State.Acked.updateGate (h : s.Acked c) {f : Closing → Closing} (hcode : ∀ k, (f k).code = k.code)
    (hacked : ∀ k, (f k).acked = k.acked) (g : Group) : (s.updateGate f g).Acked c := by
  refine ⟨by rw [State.updateGate_list]; exact h.entries, fun j k hk hc => ?_⟩
  rw [State.updateGate_gates] at hk
  by_cases hj : j = g
  · subst hj
    rw [group_get_set, List.mem_filter] at hk
    obtain ⟨hmem, hstays⟩ := hk
    obtain ⟨x, hx, rfl⟩ := List.mem_map.mp hmem
    have hx := (h.closings j x hx (hcode x ▸ hc)).1
    exact ⟨(hacked x).trans hx, by simpa [hacked, hx] using hstays⟩
  · rw [group_get_set_other _ _ _ _ hj] at hk
    exact h.closings j k hk hc

theorem State.Acked.reportInactive (h : s.Acked c) (d : FaultCode) : (s.reportInactive d).Acked c := by
  unfold State.reportInactive State.inactive
  split
  · refine State.Acked.offerNotices (foldl_keeps (State.Acked c) _ allGroups _ (h.mapCode rfl
      rfl (fun e => startRemoval_code _ _) fun e he => startRemoval_acked s.now he.1) fun u g _ hu => ?_)
    exact hu.updateGate (fun k => by split <;> rfl) (fun k => by split <;> rfl) g
  · exact h

/-! ### What an acknowledgement marks -/

/-- The Fault List and the closing records under an acknowledgement (R161). -/
def State.markAcked (s : State) (c : Option FaultCode) : State :=
  allGroups.foldl (fun s g => s.updateGate (Closing.ackedBy c) g)
    { s with fault := { s.fault with list := s.fault.list.map (FaultEntry.ackedBy s.now c) } }

theorem State.acknowledge_eq (s : State) (c : Option FaultCode) :
    s.acknowledge c = ((s.markAcked c).tellAcked c).offerNotices := rfl

/-- The records that an acknowledgement leaves at a gate. -/
theorem updateGate_ackedBy {c : Option FaultCode} {r : List Closing} {k : Closing}
    (hk : k ∈ (r.map (Closing.ackedBy c)).filter (fun k => k.active || !k.acked)) (hc : acks c k.code = true) :
    k.acked = true ∧ k.active = true := by
  obtain ⟨hmem, hstays⟩ := List.mem_filter.mp hk
  obtain ⟨x, -, rfl⟩ := List.mem_map.mp hmem
  have hacked := Closing.ackedBy_acked hc
  exact ⟨hacked, by simpa [hacked] using hstays⟩

theorem State.markAcked_acked (s : State) (c : Option FaultCode) : (s.markAcked c).Acked c := by
  refine ⟨fun e he hc => ?_, fun g => ?_⟩
  · have hlist : (s.markAcked c).fault.list = s.fault.list.map (FaultEntry.ackedBy s.now c) := by
      simp [State.markAcked, allGroups, State.updateGate_list]
    rw [hlist] at he
    obtain ⟨x, -, rfl⟩ := List.mem_map.mp he
    exact FaultEntry.ackedBy_acked hc
  · refine foldl_attains (a := g) (P := fun t : State => ∀ k ∈ t.fault.gates.get g, acks c k.code = true →
      k.acked = true ∧ k.active = true) (by cases g <;> decide) (fun t k hk => ?_) (fun t j ht k hk => ?_) _
    · rw [State.updateGate_gates, group_get_set] at hk
      exact updateGate_ackedBy hk
    · rw [State.updateGate_gates] at hk
      by_cases hj : g = j
      · subst hj
        rw [group_get_set] at hk
        exact updateGate_ackedBy hk
      · rw [group_get_set_other _ _ _ _ hj] at hk
        exact ht k hk

theorem State.markAcked_redrives (s : State) (c : Option FaultCode) : s.Redrives (s.markAcked c) := by
  have hlist (l : List FaultEntry) : s.Redrives { s with fault := { s.fault with list := l } } := .of_same rfl rfl
  exact (hlist _).trans (.foldl (fun t g => t.updateGate_redrives _ g) allGroups _)

/-- Marking leaves every record but the channels and the faults. -/
theorem State.markAcked_frame (s : State) (c : Option FaultCode) : (s.markAcked c).axle = s.axle ∧
    (s.markAcked c).brake = s.brake ∧ (s.markAcked c).link = s.link ∧ (s.markAcked c).fault.active = s.fault.active := by
  simp [State.markAcked, allGroups]

/-! ### What an acknowledgement tells the blocks -/

/-- The FAULTED channels and the axle under an acknowledgement (R81, R114). -/
def State.ackSeenBy (s : State) (c : Option FaultCode) : State :=
  { s with
    chan := { s.chan with channels := s.chan.channels.mapWith (fun i k =>
      if k.state = .faulted ∧ acks c (chanCode i) then { k with ackSeen := true } else k) }
    axle := { s.axle with ackSeen := s.axle.ackSeen || acks c .axleReleaseFailed } }

/-- The trailer's records with the acknowledgement seen (R151). -/
def BrakeState.withAckSeen (b : BrakeState) : BrakeState := { b with trailer := { b.trailer with ackSeen := true } }

end

section
variable (s : State) (c : Option FaultCode)

/-- What is told where the acknowledgement does not concern the trailer, or finds it in another state than LOST. -/
theorem State.tellAcked_of_beside (h : acks c .trailerSupplyLost = false ∨ s.brake.trailer.line ≠ .lost) :
    s.tellAcked c = s.ackSeenBy c := by
  have hno : ¬ (acks c .trailerSupplyLost = true ∧ s.brake.trailer.line = .lost) := by
    rintro ⟨hc, hl⟩
    rcases h with h | h
    · simp [h] at hc
    · exact h hl
  exact if_neg hno

theorem State.tellAcked_of_lost (hc : acks c .trailerSupplyLost = true) (hl : s.brake.trailer.line = .lost)
    (hr : s.brake.recharged = false) : s.tellAcked c = (s.ackSeenBy c).onBrake BrakeState.withAckSeen :=
  (if_pos ⟨hc, hl⟩).trans (if_neg (by simp [hr]))

/-- Where the recharge holds the acknowledgement clears the latch at its event (R151). -/
theorem State.tellAcked_of_recharged (hc : acks c .trailerSupplyLost = true) (hl : s.brake.trailer.line = .lost)
    (hr : s.brake.recharged = true) : s.tellAcked c = ((s.ackSeenBy c).onBrake BrakeState.withAckSeen).clearLatch :=
  (if_pos ⟨hc, hl⟩).trans (if_pos hr)

/-- Beside the trailer, the blocks are told of every acknowledgement alike. -/
theorem State.tellAcked_keeps {P : State → Prop} (h : P (s.ackSeenBy c))
    (hb : ∀ (t : State) (b : BrakeState), P t → P { t with brake := b })
    (hr : ∀ t : State, P t → P (t.reportInactive .trailerSupplyLost)) : P (s.tellAcked c) := by
  unfold State.tellAcked
  dsimp only
  split
  · split
    · exact hr _ (hb _ _ (hb _ _ h))
    · exact hb _ _ h
  · exact h

/-! ### The whole acknowledgement -/

theorem State.acknowledge_acked : (s.acknowledge c).Acked c := by
  have htold : ((s.markAcked c).tellAcked c).Acked c :=
    State.tellAcked_keeps _ _ (P := State.Acked c) ((s.markAcked_acked c).of_same rfl rfl) (fun _ _ ht => ht.of_same rfl rfl)
      fun _ ht => ht.reportInactive _
  exact htold.offerNotices

theorem State.acknowledge_inbox : (s.acknowledge c).link.vehicle.inbox = s.link.vehicle.inbox := by
  rw [State.acknowledge_eq, State.offerNotices_inbox]
  refine State.tellAcked_keeps _ _ (P := fun t => t.link.vehicle.inbox = s.link.vehicle.inbox) ?_ (fun _ _ ht => ht)
    fun t ht => (t.reportInactive_inbox _).trans ht
  exact congrArg (fun k => k.vehicle.inbox) (s.markAcked_frame c).2.2.1

/-- A fitted FAULTED channel of a code named has seen the acknowledgement (R81). -/
theorem State.acknowledge_ackSeen {i : Chan} (hs : (s.chan.channels.get i).state = .faulted)
    (hf : (s.chan.channels.get i).fitted = true) (hc : acks c (chanCode i) = true) :
    ((s.acknowledge c).chan.channels.get i).ackSeen = true := by
  have hmarked := ((s.markAcked_redrives c).ruled i).faulted hf hs
  rw [State.acknowledge_eq, ((State.offerNotices_redrives _).ruled i).ackSeen]
  refine State.tellAcked_keeps _ _ (P := fun t => (t.chan.channels.get i).ackSeen = true) ?_ (fun _ _ ht => ht)
    fun t ht => ((t.reportInactive_redrives _).ruled i).ackSeen.trans ht
  simp [State.ackSeenBy, hmarked.1, hc]

theorem State.acknowledge_axle (hc : acks c .axleReleaseFailed = true) : (s.acknowledge c).axle.ackSeen = true := by
  have htold : ((s.markAcked c).tellAcked c).axle.ackSeen = true :=
    State.tellAcked_keeps _ _ (P := fun t => t.axle.ackSeen = true) (by simp [State.ackSeenBy, hc]) (fun _ _ ht => ht)
      fun t ht => by simpa using ht
  simpa [State.acknowledge_eq] using htold

theorem State.acknowledge_beside (h : acks c .trailerSupplyLost = false ∨ s.brake.trailer.line ≠ .lost) :
    (s.acknowledge c).brake = s.brake := by
  have hbrake := (s.markAcked_frame c).2.1
  have htold := State.tellAcked_of_beside (s.markAcked c) c (hbrake ▸ h)
  simp [State.acknowledge_eq, htold, State.ackSeenBy, hbrake]

theorem State.acknowledge_lost (hc : acks c .trailerSupplyLost = true) (hl : s.brake.trailer.line = .lost)
    (hr : s.brake.recharged = false) : (s.acknowledge c).brake = s.brake.withAckSeen := by
  have hbrake := (s.markAcked_frame c).2.1
  have htold := State.tellAcked_of_lost (s.markAcked c) c hc (hbrake ▸ hl) (hbrake ▸ hr)
  simp [State.acknowledge_eq, htold, State.ackSeenBy, hbrake]

theorem State.acknowledge_recharged (hc : acks c .trailerSupplyLost = true) (hl : s.brake.trailer.line = .lost)
    (hr : s.brake.recharged = true) : (s.acknowledge c).active .trailerSupplyLost = false ∧
      (s.acknowledge c).brake = s.brake.withAckSeen.unlatched (s.markAcked c).now := by
  have hbrake := (s.markAcked_frame c).2.1
  have htold := State.tellAcked_of_recharged (s.markAcked c) c hc (hbrake ▸ hl) (hbrake ▸ hr)
  rw [State.clearLatch_eq] at htold
  refine ⟨?_, ?_⟩
  · have hactive (t : State) : t.offerNotices.active .trailerSupplyLost = t.active .trailerSupplyLost := by
      simp [State.active]
    rw [State.acknowledge_eq, htold, hactive, State.reportInactive_active]
    rfl
  · simp [State.acknowledge_eq, htold, State.ackSeenBy, hbrake]

theorem State.acknowledge_staysGated : s.StaysGated (s.acknowledge c) := by
  have hseen : (s.markAcked c).StaysGated ((s.markAcked c).ackSeenBy c) :=
    State.onChans_staysGated (s := s.markAcked c) (f := fun i k =>
      if k.state = .faulted ∧ acks c (chanCode i) then { k with ackSeen := true } else k) fun _ _ h => by
        split <;> exact h
  have htold : s.StaysGated ((s.markAcked c).tellAcked c) :=
    State.tellAcked_keeps _ _ (P := s.StaysGated) ((s.markAcked_redrives c).staysGated.trans hseen) (fun _ _ ht => ht)
      fun t ht => ht.trans (t.reportInactive_redrives _).staysGated
  exact htold.trans (State.offerNotices_redrives _).staysGated

end

/-! ### CAB_COMMAND ACK (R161) -/

/-- What the number of an ACK names: all codes, one code, or nothing. -/
def ackOf (n : Nat) : Option (Option FaultCode) := if n = 0 then some none else (FaultCode.ofNum n).map some

theorem acks_of_ackOf {n : Nat} {a : Option FaultCode} {c : FaultCode} (h : ackOf n = some a)
    (hc : n = 0 ∨ FaultCode.ofNum n = some c) : acks a c = true := by
  unfold ackOf at h
  split at h
  · obtain rfl := Option.some.inj h
    rfl
  next hn =>
    rw [hc.resolve_left hn] at h
    obtain rfl := Option.some.inj h
    simp [acks]

/-- A number other than 0 names at most the code of that number. -/
theorem not_acks_of_ackOf {n : Nat} {a : Option FaultCode} {c : FaultCode} (h : ackOf n = some a) (hn : n ≠ 0)
    (hc : n ≠ c.num) : acks a c = false := by
  rw [ackOf, if_neg hn, Option.map_eq_some_iff] at h
  obtain ⟨d, hd, rfl⟩ := h
  have hfind : allCodes.find? (fun c => decide (c.num = n)) = some d := hd
  have hnum : d.num = n := by simpa using List.find?_some hfind
  have hne : d ≠ c := by
    rintro rfl
    exact hc hnum.symm
  simp [acks, hne]

section
variable {s : State} {n : Nat} (h : s.head .vehicle = some (.ack n))
include h

theorem takeAck_of_head : takeAck s = match ackOf n with
    | some a => (s.popEvent .vehicle).acknowledge a
    | none => (s.popEvent .vehicle).refuse .vehicle 1 4 0 .unknown := by
  rw [takeAck, h]
  dsimp only
  unfold ackOf
  split
  · rfl
  · cases FaultCode.ofNum n <;> rfl

theorem takeAck_of_ackOf {a : Option FaultCode} (ha : ackOf n = some a) :
    takeAck s = (s.popEvent .vehicle).acknowledge a := by rw [takeAck_of_head h, ha]

theorem takeAck_of_unknown (ha : ackOf n = none) :
    takeAck s = (s.popEvent .vehicle).refuse .vehicle 1 4 0 .unknown := by rw [takeAck_of_head h, ha]

end

theorem takeAck_staysGated (s : State) : s.StaysGated (takeAck s) := by
  have hpop : s.StaysGated (s.popEvent .vehicle) := (State.Redrives.of_same (by simp) (by simp)).staysGated
  cases hhead : s.head .vehicle with
  | none => rw [takeAck, hhead]; exact .refl s
  | some e =>
    cases e
    case ack n =>
      cases ha : ackOf n with
      | some a => exact takeAck_of_ackOf hhead ha ▸ hpop.trans (State.acknowledge_staysGated _ a)
      | none =>
        exact takeAck_of_unknown hhead ha ▸ hpop.trans (State.Redrives.of_same (by simp) (by simp)).staysGated
    all_goals rw [takeAck, hhead]; exact .refl s

/-- A state that differs from another at most in channels, axle, trailer, faults and links. -/
theorem State.eq_but_outputs {s t : State}
    (h : t.pending = s.pending ∧ t.life = s.life ∧ t.now = s.now ∧ t.start = s.start ∧ t.free = s.free ∧
      t.build = s.build ∧ t.speed = s.speed ∧ t.auth = s.auth ∧ t.seq = s.seq ∧ t.store = s.store ∧ t.run = s.run ∧
      t.hitch = s.hitch ∧ t.power = s.power ∧ t.svc = s.svc) :
    t = { s with chan := t.chan, axle := t.axle, brake := t.brake, fault := t.fault, link := t.link } := by
  cases s; cases t; simp_all

end Sys2Proof.Machine

/-! ### The obligation -/

namespace Sys2Proof.Proofs

/-- Settles O44: an ACK is an acknowledgement of what its number names, judged once its event has left the queue. -/
theorem acknowledgement : Obligations.Acknowledgement := by
  intro s dt n hrun hhead
  set u := s.advance dt with hu
  have hhead : u.head .vehicle = some (.ack n) := hhead
  refine ⟨takeAck u, exec_of_running rfl hrun, ?_⟩
  have hframe := State.eq_but_outputs (s := u) (t := takeAck u) (by simp)
  cases ha : ackOf n with
  | some a =>
    have hknown : ¬ (n ≠ 0 ∧ FaultCode.ofNum n = none) := fun ⟨hn, hc⟩ => by simp [ackOf, hn, hc] at ha
    have hfour (hn : n = 0 ∨ n = 4) : acks a .trailerSupplyLost = true :=
      acks_of_ackOf ha (hn.imp_right fun h => by rw [h]; rfl)
    rw [takeAck_of_ackOf hhead ha] at hframe ⊢
    have hacked := (u.popEvent .vehicle).acknowledge_acked a
    refine ⟨State.acknowledge_inbox _ a, fun c hc => ⟨fun e he hec => ?_, fun g k hk hkc => ?_, fun i hs hf hi => ?_,
      fun h20 => ?_⟩, fun hn hl => ⟨fun hr => ?_, fun hr => ?_⟩, fun h => ?_, fun hn hc => absurd ⟨hn, hc⟩ hknown, hframe⟩
    · exact hacked.entries e he (hec ▸ acks_of_ackOf ha hc)
    · exact hacked.closings g k hk (hkc ▸ acks_of_ackOf ha hc)
    · exact State.acknowledge_ackSeen _ a hs hf (hi ▸ acks_of_ackOf ha hc)
    · exact State.acknowledge_axle _ a (h20 ▸ acks_of_ackOf ha hc)
    · obtain ⟨hactive, hbrake⟩ := State.acknowledge_recharged (u.popEvent .vehicle) a (hfour hn) hl hr
      rw [hbrake]
      exact ⟨rfl, rfl, rfl, hactive⟩
    · exact State.acknowledge_lost (u.popEvent .vehicle) a (hfour hn) hl hr
    · exact State.acknowledge_beside (u.popEvent .vehicle) a (h.imp_left fun hn => not_acks_of_ackOf ha hn.1 hn.2)
  | none =>
    have hn : n ≠ 0 := fun hn => by simp [ackOf, hn] at ha
    have hcode : FaultCode.ofNum n = none := by simpa [ackOf, hn] using ha
    have hfour : n ≠ 4 := fun h => by rw [h] at hcode; cases hcode
    rw [takeAck_of_unknown hhead ha] at hframe ⊢
    refine ⟨State.refuse_inbox _ .vehicle .vehicle .., fun c hc => ?_, fun h => ?_, fun _ => by simp [hu], fun _ _ => ?_,
      hframe⟩
    · exact absurd hc (by simp [hn, hcode])
    · exact absurd h (by simp [hn, hfour])
    · rw [hframe]
      simp

end Sys2Proof.Proofs
end

section
/-! PROOFS. Starts and ends of the part (R71, R85, R86, R168, R169), and that every command keeps every output under its gate
(R70, R74). -/

open Sys2Proof Sys2Proof.Machine

namespace Sys2Proof.Machine

/-! ### The Build Record of the readings (R71) -/

theorem strapPresent_iff {f : StrapReading → Bool} {l : List StrapReading} (h : l.length = 50) :
    strapPresent f l = true ↔ ∀ r ∈ l.drop 40, f r = true := by simp [strapPresent, h]

theorem buildFrom_serviceStrap_iff {l : List StrapReading} (h : l.length = 50) :
    (buildFrom l).serviceStrap = true ↔ ∀ r ∈ l, r.serviceLow = true := by simp [buildFrom, h]

/-! ### Coils without current -/

/-- After a start no channel drives and none has a current (R86). -/
theorem initialChannels_still (b : BuildRecord) (start : Nat) (i : Chan) :
    ((initialChannels b start).get i).state.drives = false ∧ ((initialChannels b start).get i).commanded = 0 := by
  have hfitted (fitted : Bool) : (if fitted then ChanState.off else ChanState.parked).drives = false := by cases fitted <;> rfl
  cases i
  case clutch c => cases c <;> exact ⟨rfl, rfl⟩
  case diffLock | trailerControl | trailerSupply => exact ⟨hfitted _, rfl⟩
  all_goals exact ⟨rfl, rfl⟩

section
variable (s : State)

/-- A state with the channels of a start is under its gates. -/
theorem staysGated_of_initial {t : State} {b : BuildRecord} {start : Nat} (h : t.chan.channels = initialChannels b start) :
    s.StaysGated t := fun _ => by
  rw [State.outputsGated_iff, h]
  exact fun i => Channel.gated_of_still (initialChannels_still b start i).1 (initialChannels_still b start i).2

theorem startFrom_staysGated (pending : List Instr) (free now : Nat) (b : BuildRecord) (mem : List Host.Cell) (risen : Bool) :
    s.StaysGated (startFrom pending free now b mem risen) := staysGated_of_initial s (b := b) (start := now) rfl

theorem softRestart_staysGated (rbs : List ReadBack) : s.StaysGated (softRestart rbs s) := startFrom_staysGated s _ _ _ _ _ _

theorem unpowered_staysGated (mask : List Byte) : s.StaysGated (unpowered mask s) :=
  staysGated_of_initial s (b := { trailerFitted := false }) (start := s.now) rfl

/-- OFF leaves a PARKED channel and takes the current from any other (R85). -/
theorem State.channelsOff_get (i : Chan) : s.channelsOff.chan.channels.get i =
    if (s.chan.channels.get i).state = .parked then s.chan.channels.get i
    else { s.chan.channels.get i with
      state := .off
      commanded := 0
      since := if (s.chan.channels.get i).state = .off then (s.chan.channels.get i).since else s.now } := by
  simp [State.channelsOff]

theorem State.channelsOff_staysGated : s.StaysGated s.channelsOff := by
  unfold State.StaysGated
  rw [State.outputsGated_iff, State.outputsGated_iff]
  intro h i
  rw [State.channelsOff_get]
  split
  · exact h i
  · exact Channel.gated_of_still rfl rfl

/-! ### Notices and the removal of entries (R160, R162, R178) -/

theorem State.onLink_redrives (l : Link) (f : LinkState → LinkState) : s.Redrives (s.onLink l f) :=
  .of_same (by simp) (by simp)

/-- A link changes, the Fault Manager is told of it, and the transmitter chooses (R178). -/
theorem tellFaultManager_redrives (l : Link) (f g : LinkState → LinkState) :
    s.Redrives ((tellFaultManager l (s.onLink l f)).onLink l g) := by
  have htold (t : State) : t.Redrives (tellFaultManager l t) := by
    cases l with
    | vehicle => exact t.offerNotices_redrives
    | implement => exact .refl t
  exact ((s.onLink_redrives l f).trans (htold _)).trans (State.onLink_redrives _ l g)

theorem frameSent_redrives (l : Link) : s.Redrives (frameSent l s) := by
  unfold frameSent
  split
  · exact .refl s
  · cases l with
    | vehicle => exact tellFaultManager_redrives s .vehicle _ _
    | implement => exact tellFaultManager_redrives s .implement _ _

theorem linkRejoin_redrives (l : Link) : s.Redrives (linkRejoin l s) := by
  cases l with
  | vehicle => exact .ite (tellFaultManager_redrives s .vehicle _ _) (.refl s)
  | implement => exact .ite (tellFaultManager_redrives s .implement _ _) (.refl s)

theorem entryRemoval_redrives (code : FaultCode) : s.Redrives (entryRemoval code s) := by
  have hremoved : s.Redrives (s.removeEntry code) := .of_same rfl rfl
  unfold entryRemoval
  split
  · exact .ite (hremoved.trans (State.offerNotices_redrives _)) (.refl s)
  · exact .refl s

/-! ### The power states (R167 to R169) -/

theorem endFlush_staysGated (rbs : List ReadBack) : s.StaysGated (endFlush rbs s) :=
  .ite (softRestart_staysGated s rbs) s.channelsOff_staysGated

theorem judgePhase_staysGated (rbs : List ReadBack) : s.StaysGated (judgePhase rbs s) := by
  have hflush : s.Redrives (beginFlush s) :=
    .trans (t := s.onPower _) (.of_same rfl rfl) (handOffsets_redrives _)
  unfold judgePhase
  split
  · exact .ite hflush.staysGated (.refl s)
  · exact .ite (endFlush_staysGated s rbs) (.refl s)
  · exact .refl s
  · exact .refl s

theorem powerStep_staysGated (ignition : Bool) (rbs : List ReadBack) : s.StaysGated (powerStep ignition rbs s) :=
  have hjudged : s.StaysGated (judgeIgnition ignition s) := (State.Redrives.of_same (by simp) (by simp)).staysGated
  .ite (hjudged.trans (judgePhase_staysGated _ rbs)) hjudged

theorem answerSent_staysGated (rbs : List ReadBack) : s.StaysGated (answerSent rbs s) :=
  .ite (.ite (softRestart_staysGated s rbs) (State.Redrives.of_same rfl rfl).staysGated) (.refl s)

theorem applySupply_staysGated (ignition : Bool) : s.StaysGated (applySupply ignition s) := by
  have hopen : s.StaysGated (if ignition then openWindow s else { s with life := .supplyNoIgnition }) :=
    .ite (State.Redrives.of_same rfl rfl).staysGated (State.Redrives.of_same rfl rfl).staysGated
  unfold applySupply
  split
  · exact hopen
  · exact hopen
  · exact .refl s
  · exact .refl s

/-! ### Every command -/

theorem State.event_staysGated (dt : Nat) {f : State → State} (hf : ∀ u : State, u.StaysGated (f u)) :
    s.StaysGated (s.event dt f) := .ite (hf (s.advance dt)) (.refl s)

theorem State.event_redrives (dt : Nat) {f : State → State} (hf : ∀ u : State, u.Redrives (f u)) :
    s.StaysGated (s.event dt f) := s.event_staysGated dt fun u => (hf u).staysGated

variable {s}

/-- Every command keeps every output under its gate: the channel step, an acknowledgement, the starts and the power states by
the lemmas above, the blocks' own events since the output rule alone moves the channels there, and any other since it leaves
channels and gates. -/
theorem exec_staysGated {c : Instr} {t : State} (h : exec c s = .next t) : s.StaysGated t := by
  cases c with
  | channelStep dt amps volts =>
    exact Host.Outcome.next.inj h ▸ s.event_staysGated dt fun u => channelStep_staysGated amps volts u
  | cabCommandAck dt => exact Host.Outcome.next.inj h ▸ s.event_staysGated dt takeAck_staysGated
  | powerStep dt ignition rbs =>
    exact Host.Outcome.next.inj h ▸ .ite (powerStep_staysGated (s.advance dt) ignition rbs) (.refl s)
  | storeDrained dt =>
    exact Host.Outcome.next.inj h ▸ s.event_staysGated dt fun u => .ite (endFlush_staysGated u []) (.refl u)
  | supplyApplied dt ignition => exact Host.Outcome.next.inj h ▸ applySupply_staysGated (s.advance dt) ignition
  | strapWindowEnd dt readings =>
    exact Host.Outcome.next.inj h ▸ .ite (startFrom_staysGated (s.advance dt) _ _ _ _ _ _) (.refl s)
  | lossOfSupply dt untouched => exact Host.Outcome.next.inj h ▸ unpowered_staysGated (s.advance dt) untouched
  | answerSent dt rbs => exact Host.Outcome.next.inj h ▸ s.event_staysGated dt fun u => answerSent_staysGated u rbs
  | speedSample dt pedal => exact Host.Outcome.next.inj h ▸ s.event_redrives dt fun u => speedSample_redrives u pedal
  | linkCheck dt => exact Host.Outcome.next.inj h ▸ s.event_redrives dt linkCheck_redrives
  | shiftStep dt pedal => exact Host.Outcome.next.inj h ▸ s.event_redrives dt fun u => shiftStep_redrives u pedal
  | axleStep dt closed => exact Host.Outcome.next.inj h ▸ s.event_redrives dt fun u => axleStep_redrives u closed
  | hitchStep dt inp => exact Host.Outcome.next.inj h ▸ s.event_redrives dt fun u => hitchStep_redrives u inp
  | brakeStep dt inp => exact Host.Outcome.next.inj h ▸ s.event_redrives dt fun u => brakeStep_redrives u inp
  | oilTimer dt temp => exact Host.Outcome.next.inj h ▸ s.event_redrives dt fun u => oilTimer_redrives u temp
  | runStep dt pedal => exact Host.Outcome.next.inj h ▸ s.event_redrives dt fun u => runStep_redrives u pedal
  | slotProgramComplete dt rb =>
    exact Host.Outcome.next.inj h ▸ s.event_redrives dt fun u => .ite (slotProgramEnds_redrives u rb) (.refl u)
  | voidProgramComplete dt =>
    exact Host.Outcome.next.inj h ▸ s.event_redrives dt fun u => .ite (voidProgramEnds_redrives u) (.refl u)
  | pageEraseComplete dt rb =>
    exact Host.Outcome.next.inj h ▸ s.event_redrives dt fun u => .ite (pageEraseEnds_redrives u rb) (.refl u)
  | headerProgramComplete dt rb =>
    exact Host.Outcome.next.inj h ▸ s.event_redrives dt fun u => .ite (headerProgramEnds_redrives u rb) (.refl u)
  | writeItem dt =>
    refine Host.Outcome.next.inj h ▸ s.event_redrives dt fun u => withFrame_redrives u fun x t hx => ?_
    split at hx
    · exact Option.some.inj hx ▸ (judgeWrite_redrives u _ _).answered
    · cases hx
  | storeNow dt =>
    refine Host.Outcome.next.inj h ▸ s.event_redrives dt fun u => withFrame_redrives u fun x t hx => ?_
    split at hx
    · have hhanded : u.Redrives ((handOffsets u).answerResult none) :=
        (handOffsets_redrives u).trans (.of_same (by simp) (by simp))
      exact Option.some.inj hx ▸ unlockedOnly_redrives u hhanded
    · cases hx
  | calRun dt pedal =>
    refine Host.Outcome.next.inj h ▸ s.event_redrives dt fun u => withFrame_redrives u fun x t hx => ?_
    split at hx
    · exact Option.some.inj hx ▸ unlockedOnly_redrives u (withCalib_redrives u (by simp) (by simp))
    · cases hx
  | calAbort dt =>
    refine Host.Outcome.next.inj h ▸ s.event_redrives dt fun u => withFrame_redrives u fun x t hx => ?_
    split at hx
    · exact Option.some.inj hx ▸ unlockedOnly_redrives u (withCalib_redrives u (by simp) (by simp))
    · cases hx
  | take dt | release dt | restart dt =>
    refine Host.Outcome.next.inj h ▸ s.event_redrives dt fun u => withFrame_redrives u fun x t hx => ?_
    split at hx
    · exact Option.some.inj hx ▸ unlockedOnly_redrives u (.of_same (by simp) (by simp))
    · cases hx
  | sync dt | key dt | cancel dt | lock dt | readItem dt =>
    refine Host.Outcome.next.inj h ▸ s.event_redrives dt fun u => withFrame_redrives u fun x t hx => ?_
    split at hx
    · exact Option.some.inj hx ▸ .of_same (by simp) (by simp)
    · cases hx
  | frameSent dt l => exact Host.Outcome.next.inj h ▸ s.event_redrives dt fun u => frameSent_redrives u l
  | linkRejoin dt l => exact Host.Outcome.next.inj h ▸ s.event_redrives dt fun u => linkRejoin_redrives u l
  | entryRemoval dt code => exact Host.Outcome.next.inj h ▸ s.event_redrives dt fun u => entryRemoval_redrives u code
  | _ =>
    obtain rfl := Host.Outcome.next.inj h
    exact s.event_redrives _ fun u => .of_same (by simp) (by simp)

end

end Sys2Proof.Machine

/-! ### The obligations -/

namespace Sys2Proof.Proofs

/-- Settles O4: a step runs the command at the front of the queue, which keeps every output under its gate. -/
theorem outputsStayGated : Obligations.OutputsStayGated := by
  intro s t hs h
  unfold step at h
  split at h
  · exact Host.Outcome.next.inj h ▸ hs
  · have hkeeps := exec_staysGated h
    exact hkeeps hs

/-- Settles O30: the report ends FLUSH where the store is drained, in OFF or in a Soft restart. -/
theorem drainedReportEndsFlush : Obligations.DrainedReportEndsFlush := by
  intro s dt hrun
  set u := s.advance dt with hu
  refine ⟨storeDrained u, exec_of_running rfl hrun, fun hp hd hw => ?_, fun hp hd hw => ?_, fun h => ?_⟩
  · have hend : storeDrained u = u.channelsOff.onPower (fun p => { p with power := .off, hold := false }) :=
      (if_pos ⟨hp, hd⟩).trans (if_neg (by simp [hu, hw]))
    rw [hend]
    refine ⟨by simp [hu], fun i hi => ?_, fun i hi => ?_, rfl⟩
    · rw [State.onPower_chan, State.channelsOff_get, if_neg (show ¬ (u.chan.channels.get i).state = .parked from hi)]
      exact ⟨rfl, rfl⟩
    · rw [State.onPower_chan, State.channelsOff_get, if_pos (show (u.chan.channels.get i).state = .parked from hi)]
      rfl
  · have hend : storeDrained u = softRestart [] u := (if_pos ⟨hp, hd⟩).trans (if_pos hw)
    rw [hend]
    exact ⟨softRestart_restartedFrom [] u, softRestart_mem_of_drained [] u hd⟩
  · refine if_neg fun hc => ?_
    rcases h with h | h
    · exact h hc.1
    · exact absurd (show s.drained = true from hc.2) (by simp [h])

/-- Settles O48: the window opens with supply and ignition, and its end starts the part on the Build Record of the readings. -/
theorem supplyAndStrapWindow : Obligations.SupplyAndStrapWindow := by
  intro s dt
  refine ⟨fun ignition => ⟨applySupply ignition (s.advance dt), rfl, fun h => ?_, fun h => ?_⟩,
    fun l hl => ⟨endWindow l (s.advance dt), rfl, fun hlife hd => ?_, fun h => ?_⟩⟩
  · rcases h with h | h <;> refine ⟨fun hi => ?_, fun hi => ?_⟩ <;> simp [applySupply, h, hi, openWindow]
  · rcases h with h | h <;> simp [applySupply, h]
  · rw [endWindow, if_pos ⟨hlife, hd⟩]
    refine ⟨rfl, rfl, rfl, rfl, rfl, strapPresent_iff hl, strapPresent_iff hl, strapPresent_iff hl, strapPresent_iff hl,
      buildFrom_serviceStrap_iff hl, ?_, ?_, fun i => (initialChannels_still _ _ i).2⟩
    · show (if (buildFrom l).serviceStrap then Unlock.unlocked else .locked) = .unlocked ↔ (buildFrom l).serviceStrap = true
      cases (buildFrom l).serviceStrap <;> simp
    · show (if (buildFrom l).radarFitted then RadarCheck.ok else .absent) = .ok ↔ (buildFrom l).radarFitted = true
      cases (buildFrom l).radarFitted <;> simp
  · refine if_neg fun hc => ?_
    rcases h with h | h
    · exact h hc.1
    · exact absurd hc.2 (Nat.not_le.mpr h)

end Sys2Proof.Proofs
end

section
/-! PROOFS. The memory of the store stays canonical (R99; log 7): what each end of an operation, each start and a loss of the
supply make of it. -/

open Sys2Proof Sys2Proof.Machine

namespace Sys2Proof.Machine

/-! ### States between which the memory stays canonical -/

/-- From one state to another the store's memory keeps its canonical form. -/
def State.KeepsMemory (s t : State) : Prop := Memory.wf s.store.mem = true → Memory.wf t.store.mem = true

section
variable {s t u : State}

theorem State.KeepsMemory.refl (s : State) : s.KeepsMemory s := id

theorem State.KeepsMemory.trans (h : s.KeepsMemory t) (k : t.KeepsMemory u) : s.KeepsMemory u := k ∘ h

theorem State.KeepsMemory.of_same (h : t.store.mem = s.store.mem) : s.KeepsMemory t := fun hs => h ▸ hs

theorem State.KeepsMemory.ite {c : Prop} [Decidable c] (ht : s.KeepsMemory t) (hu : s.KeepsMemory u) :
    s.KeepsMemory (if c then t else u) := by split <;> assumption

/-! ### The ends of operations (R102, R103) -/

/-- What follows the program of a slot or a header follows a canonical memory. -/
theorem State.KeepsMemory.of_program {p : Page} {slot : Nat} {meant : List Byte} {rb : ReadBack} {ok : Bool}
    (h : programSlot p slot meant rb s = (t, ok)) (hu : u.store.mem = t.store.mem) : s.KeepsMemory u := by
  obtain rfl := congrArg Prod.fst h
  exact fun hs => hu ▸ Memory.wf_writeBytes hs _ _

theorem eraseEnds_keepsMemory (p : Page) (rb : ReadBack) : s.KeepsMemory (eraseEnds p rb s).1 := by
  cases rb with
  | asMeant => exact fun hs => Memory.wf_erasePage hs p
  | other bs => exact fun hs => Memory.wf_writeBytes (Memory.wf_erasePage hs p) _ _

/-- What follows an erase follows a canonical memory. -/
theorem State.KeepsMemory.of_erase {p : Page} {rb : ReadBack} {ok : Bool} (h : eraseEnds p rb s = (t, ok))
    (hu : u.store.mem = t.store.mem) : s.KeepsMemory u := by
  obtain rfl : (eraseEnds p rb s).1 = t := congrArg Prod.fst h
  exact (eraseEnds_keepsMemory p rb).trans (.of_same hu)

/-- What follows a void follows a canonical memory. -/
theorem State.KeepsMemory.of_void (p : Page) (slot : Nat) (hu : u.store.mem = (voidSlot p slot s).store.mem) :
    s.KeepsMemory u := fun hs => hu ▸ Memory.wf_write hs _ _

variable (s)

theorem slotProgramEnds_keepsMemory (rb : ReadBack) : s.KeepsMemory (slotProgramEnds rb s) := by
  unfold slotProgramEnds
  split
  · split
    next hp => exact .of_program hp (by simp)
    next hp => exact .ite (.of_program hp (by simp)) (.of_program hp (by simp))
  · split
    next hp => exact .of_program hp (by simp)
    next hp => exact .ite (.of_program hp (by simp)) (.of_program hp (by simp))
  · exact .refl s

theorem voidProgramEnds_keepsMemory : s.KeepsMemory (voidProgramEnds s) := by
  unfold voidProgramEnds
  split
  next p slot retry _ => exact .ite (.of_void p slot (by simp)) (.of_void p slot (by simp))
  next p slot retry _ _ =>
    dsimp only
    split
    · exact .of_void p slot (by simp)
    · exact .of_void p slot (by simp)
  · exact .refl s

theorem pageEraseEnds_keepsMemory (rb : ReadBack) : s.KeepsMemory (pageEraseEnds rb s) := by
  unfold pageEraseEnds
  split
  · split
    next hp => exact .of_erase hp (by simp)
    next hp => exact .ite (.of_erase hp (by simp)) (.of_erase hp (by simp))
  · split
    next hp => exact .of_erase hp (by simp)
    next hp => exact .ite (.of_erase hp (by simp)) (.of_erase hp (by simp))
  · exact .refl s

theorem headerProgramEnds_keepsMemory (rb : ReadBack) : s.KeepsMemory (headerProgramEnds rb s) := by
  unfold headerProgramEnds
  dsimp only
  split
  case h_7 => exact .refl s
  all_goals
    split
    next hp => exact .of_program hp (by simp)
    next hp => exact .ite (.of_program hp (by simp)) (.of_program hp (by simp))

/-- The operation under way ends by one of the four ends, or there is none. -/
theorem operationEnds_of_ends {motive : State → Prop} (rb : ReadBack) (hidle : motive s)
    (hslot : motive (slotProgramEnds rb s)) (hvoid : motive (voidProgramEnds s)) (herase : motive (pageEraseEnds rb s))
    (hheader : motive (headerProgramEnds rb s)) : motive (operationEnds rb s) := by
  unfold operationEnds
  split
  · exact hidle
  · split <;> assumption

theorem operationEnds_keepsMemory (rb : ReadBack) : s.KeepsMemory (operationEnds rb s) :=
  operationEnds_of_ends s rb (.refl s) (slotProgramEnds_keepsMemory s rb) (voidProgramEnds_keepsMemory s)
    (pageEraseEnds_keepsMemory s rb) (headerProgramEnds_keepsMemory s rb)

theorem drainUpTo_keepsMemory (n : Nat) (rbs : List ReadBack) : s.KeepsMemory (drainUpTo n rbs s) := by
  induction n generalizing rbs s with
  | zero => exact .refl s
  | succ n ih =>
    unfold drainUpTo
    refine .ite (.refl s) ?_
    cases rbs with
    | nil => exact (operationEnds_keepsMemory s .asMeant).trans (ih _ _)
    | cons rb rest => exact (operationEnds_keepsMemory s rb).trans (ih _ _)

/-! ### Starts, and an operation cut short (R100, R105, R168) -/

theorem softRestart_keepsMemory (rbs : List ReadBack) : s.KeepsMemory (softRestart rbs s) :=
  (drainUpTo_keepsMemory s 4096 rbs).trans (.of_same (softRestart_mem rbs s))

theorem cutShort_wf {r : StoreState} (mask : List Byte) (h : Memory.wf r.mem = true) : Memory.wf (cutShort mask r) = true := by
  unfold cutShort
  split
  · exact h
  · split
    · exact Memory.wf_writeBytes h _ _
    · exact Memory.wf_writeBytes h _ _
    · exact h

theorem openWindow_keepsMemory : s.KeepsMemory (openWindow s) := fun hs => cutShort_wf [] hs

theorem applySupply_keepsMemory (ignition : Bool) : s.KeepsMemory (applySupply ignition s) := by
  have hopen : s.KeepsMemory (if ignition then openWindow s else { s with life := .supplyNoIgnition }) :=
    .ite (openWindow_keepsMemory s) (.of_same rfl)
  unfold applySupply
  split
  · exact hopen
  · exact hopen
  · exact .refl s
  · exact .refl s

theorem unpowered_keepsMemory (mask : List Byte) : s.KeepsMemory (unpowered mask s) := by
  intro hs
  show Memory.wf (if s.opDone then cutShort [] s.store else cutShort mask s.store) = true
  split
  · exact cutShort_wf [] hs
  · exact cutShort_wf mask hs

theorem ignitionOn_keepsMemory : s.KeepsMemory (ignitionOn s) := by
  unfold ignitionOn
  dsimp only
  split
  · exact .of_same rfl
  · exact .of_same rfl
  · exact .trans (t := s.onPower _) (.of_same rfl) (openWindow_keepsMemory _)
  · exact .of_same rfl

theorem judgeIgnition_keepsMemory (high : Bool) : s.KeepsMemory (judgeIgnition high s) := by
  have hread (f : PowerState → PowerState) : s.KeepsMemory (s.onPower f) := .of_same rfl
  exact .ite (.of_same (by simp)) (.ite ((hread _).trans (ignitionOn_keepsMemory _)) (hread _))

theorem endFlush_keepsMemory (rbs : List ReadBack) : s.KeepsMemory (endFlush rbs s) :=
  .ite (softRestart_keepsMemory s rbs) (.of_same (by simp))

theorem judgePhase_keepsMemory (rbs : List ReadBack) : s.KeepsMemory (judgePhase rbs s) := by
  unfold judgePhase
  split
  · exact .ite (.of_same (by simp)) (.refl s)
  · exact .ite (endFlush_keepsMemory s rbs) (.refl s)
  · exact .refl s
  · exact .refl s

theorem powerStep_keepsMemory (ignition : Bool) (rbs : List ReadBack) : s.KeepsMemory (powerStep ignition rbs s) :=
  have hjudged : s.KeepsMemory (judgeIgnition ignition s) := judgeIgnition_keepsMemory s ignition
  .ite (hjudged.trans (judgePhase_keepsMemory _ rbs)) hjudged

/-! ### Every command -/

theorem State.event_keepsMemory (dt : Nat) {f : State → State} (hf : ∀ u : State, u.KeepsMemory (f u)) :
    s.KeepsMemory (s.event dt f) := .ite (hf (s.advance dt)) (.refl s)

/-- What holds of a state and of its service frame judged holds after a command of the service line. -/
theorem withFrame_of_judged {motive : State → Prop} {f : SvcFrame → Option State} (hs : motive s)
    (hf : ∀ x t, f x = some t → motive t) : motive (withFrame s f) := by
  unfold withFrame
  split
  next x _ =>
    cases hx : f x with
    | none => exact hs
    | some t => exact hf x t hx
  · exact hs

variable {s}

/-- Every command keeps the memory canonical: the ends of operations, the starts and the power states by the lemmas above, and
any other since it leaves the memory. -/
theorem exec_keepsMemory {c : Instr} (h : exec c s = .next t) : s.KeepsMemory t := by
  cases c with
  | slotProgramComplete dt rb =>
    exact Host.Outcome.next.inj h ▸ s.event_keepsMemory dt fun u => .ite (slotProgramEnds_keepsMemory u rb) (.refl u)
  | voidProgramComplete dt =>
    exact Host.Outcome.next.inj h ▸ s.event_keepsMemory dt fun u => .ite (voidProgramEnds_keepsMemory u) (.refl u)
  | pageEraseComplete dt rb =>
    exact Host.Outcome.next.inj h ▸ s.event_keepsMemory dt fun u => .ite (pageEraseEnds_keepsMemory u rb) (.refl u)
  | headerProgramComplete dt rb =>
    exact Host.Outcome.next.inj h ▸ s.event_keepsMemory dt fun u => .ite (headerProgramEnds_keepsMemory u rb) (.refl u)
  | powerStep dt ignition rbs =>
    exact Host.Outcome.next.inj h ▸ .ite (powerStep_keepsMemory (s.advance dt) ignition rbs) (.refl s)
  | storeDrained dt =>
    exact Host.Outcome.next.inj h ▸ s.event_keepsMemory dt fun u => .ite (endFlush_keepsMemory u []) (.refl u)
  | supplyApplied dt ignition => exact Host.Outcome.next.inj h ▸ applySupply_keepsMemory (s.advance dt) ignition
  | strapWindowEnd dt readings => exact Host.Outcome.next.inj h ▸ .ite (.of_same rfl) (.refl s)
  | lossOfSupply dt untouched => exact Host.Outcome.next.inj h ▸ unpowered_keepsMemory (s.advance dt) untouched
  | answerSent dt rbs =>
    exact Host.Outcome.next.inj h ▸ s.event_keepsMemory dt fun u =>
      .ite (.ite (softRestart_keepsMemory u rbs) (.of_same rfl)) (.refl u)
  | sync dt | key dt | cancel dt | lock dt | readItem dt | writeItem dt | take dt | release dt | calRun dt pedal
  | calAbort dt | storeNow dt | restart dt =>
    refine Host.Outcome.next.inj h ▸ s.event_keepsMemory dt fun u => withFrame_of_judged u (.refl u) fun x t hx => ?_
    split at hx
    · obtain rfl := Option.some.inj hx
      exact .of_same (by simp [unlockedOnly, withCalib, answered, apply_ite State.store, apply_ite StoreState.mem])
    · cases hx
  | _ =>
    obtain rfl := Host.Outcome.next.inj h
    exact s.event_keepsMemory _ fun u => .of_same (by simp)

end

end Sys2Proof.Machine

/-! ### The obligation -/

namespace Sys2Proof.Proofs

/-- Settles O7: a step runs the command at the front of the queue, which keeps the memory canonical. -/
theorem storeMemoryStaysCanonical : Obligations.StoreMemoryStaysCanonical := by
  intro s t hs h
  unfold step at h
  split at h
  · exact Host.Outcome.next.inj h ▸ hs
  · have hkeeps := exec_keepsMemory h
    exact hkeeps hs

end Sys2Proof.Proofs
end

section
/-! PROOFS. The bounds of the queues and mailboxes (R101, R175, R176, R178): what they ask, and that the links' own operations,
the Function Arbiter and the Fault Manager keep them. -/

open Sys2Proof Sys2Proof.Machine

namespace Sys2Proof.Machine

/-! ### What the bounds ask -/

/-- Both links and the store queue are within their bounds. -/
def State.Bounded (s : State) : Prop := s.queuesBounded = true

/-- What `LinkState.bounded` asks of a link, part by part. -/
theorem LinkState.bounded_iff (k : LinkState) : k.bounded = true ↔
    k.inbox.length ≤ 8 ∧ k.outbox.length ≤ 8 ∧ (k.mail.map Mail.ident).Pairwise (· < ·) := by
  simp [LinkState.bounded, and_assoc]

theorem State.bounded_iff (s : State) : s.Bounded ↔
    (∀ l, (s.link.get l).bounded = true) ∧ (s.store.queue.map (fun w => w.record.key)).Nodup := by
  simp only [State.Bounded, State.queuesBounded, Bool.and_eq_true, decide_eq_true_eq]
  refine and_congr_left fun _ => ⟨fun h l => ?_, fun h => ⟨h .vehicle, h .implement⟩⟩
  cases l with
  | vehicle => exact h.1
  | implement => exact h.2

section
variable {s t u : State}

theorem State.Bounded.of_same (h : s.Bounded) (hl : t.link = s.link) (hq : t.store.queue = s.store.queue) : t.Bounded := by
  rw [State.bounded_iff, hl, hq]
  exact s.bounded_iff.mp h

theorem State.Bounded.ite {c : Prop} [Decidable c] (ht : t.Bounded) (hu : u.Bounded) :
    State.Bounded (if c then t else u) := by split <;> assumption

/-- A pass of an operation that keeps the bounds keeps them. -/
theorem State.Bounded.foldl {α : Type} {op : State → α → State} (h : s.Bounded)
    (hop : ∀ (t : State) (a : α), t.Bounded → (op t a).Bounded) (l : List α) : (l.foldl op s).Bounded :=
  foldl_keeps State.Bounded op l s h fun t a _ ht => hop t a ht

/-- A link changes within its bounds. -/
theorem State.onLink_bounded (h : s.Bounded) (l : Link) {f : LinkState → LinkState}
    (hf : (s.link.get l).bounded = true → (f (s.link.get l)).bounded = true) : (s.onLink l f).Bounded := by
  rw [State.bounded_iff] at h ⊢
  refine ⟨fun k => ?_, by simpa using h.2⟩
  by_cases hk : k = l
  · rw [hk, State.onLink_get]
    exact hf (h.1 l)
  · rw [State.onLink_get_other s l k f hk]
    exact h.1 k

end

/-! ### The links' own operations (R172, R175, R176, R178) -/

/-- The identifiers of a mailbox list with a copy placed are those before and the copy's. -/
theorem mem_insertMail_ident {m x : Mail} {ms : List Mail} (h : x ∈ insertMail m ms) : x.ident = m.ident ∨ x ∈ ms := by
  induction ms with
  | nil => exact .inl (by rw [List.mem_singleton.mp h])
  | cons y rest ih =>
    unfold insertMail at h
    split at h
    · rcases List.mem_cons.mp h with rfl | h
      · exact .inl rfl
      · exact .inr h
    · split at h
      · rcases List.mem_cons.mp h with rfl | h
        · exact .inl rfl
        · exact .inr (List.mem_cons_of_mem _ h)
      · rcases List.mem_cons.mp h with rfl | h
        · exact .inr List.mem_cons_self
        · exact (ih h).imp_right (List.mem_cons_of_mem _)

/-- A copy is placed in its mailbox, and the mailboxes stay in rising order of identifiers (R176). -/
theorem insertMail_rising (m : Mail) {ms : List Mail} (h : (ms.map Mail.ident).Pairwise (· < ·)) :
    ((insertMail m ms).map Mail.ident).Pairwise (· < ·) := by
  induction ms with
  | nil => simp [insertMail]
  | cons y rest ih =>
    simp only [List.pairwise_map, List.pairwise_cons] at h ih ⊢
    unfold insertMail
    split
    next hlt =>
      refine List.pairwise_cons.mpr ⟨fun x hx => ?_, List.pairwise_cons.mpr h⟩
      rcases List.mem_cons.mp hx with rfl | hx
      · exact hlt
      · exact hlt.trans (h.1 x hx)
    next hlt =>
      split
      next heq => exact List.pairwise_cons.mpr ⟨fun x hx => heq ▸ h.1 x hx, h.2⟩
      next hne =>
        refine List.pairwise_cons.mpr ⟨fun x hx => ?_, ih h.2⟩
        rcases mem_insertMail_ident hx with hx | hx
        · omega
        · exact h.1 x hx

section
variable {k : LinkState} (h : k.bounded = true)
include h

theorem LinkState.inbox_le : k.inbox.length ≤ 8 := (k.bounded_iff.mp h).1

theorem LinkState.outbox_le : k.outbox.length ≤ 8 := (k.bounded_iff.mp h).2.1

theorem LinkState.mail_rising : (k.mail.map Mail.ident).Pairwise (· < ·) := (k.bounded_iff.mp h).2.2

theorem transmit_bounded (l : Link) : (transmit l k).bounded = true := by
  have hrising := LinkState.mail_rising h
  have htail : (k.mail.tail.map Mail.ident).Pairwise (· < ·) := List.map_tail ▸ hrising.tail
  rw [LinkState.bounded_iff, transmit_inbox, transmit_outbox]
  refine ⟨LinkState.inbox_le (k := k) h, LinkState.outbox_le (k := k) h, ?_⟩
  unfold transmit
  repeat' split
  all_goals first | exact hrising | simpa [*] using htail

theorem withMail_bounded {ms : List Mail} (hm : (ms.map Mail.ident).Pairwise (· < ·)) :
    ({ k with mail := ms } : LinkState).bounded = true :=
  (LinkState.bounded_iff _).mpr ⟨LinkState.inbox_le (k := k) h, LinkState.outbox_le (k := k) h, hm⟩

theorem withOutbox_bounded {es : List OutEvent} (he : es.length ≤ 8) : ({ k with outbox := es } : LinkState).bounded = true :=
  (LinkState.bounded_iff _).mpr ⟨LinkState.inbox_le (k := k) h, he, LinkState.mail_rising (k := k) h⟩

theorem withInbox_bounded {es : List EventFrame} (he : es.length ≤ 8) : ({ k with inbox := es } : LinkState).bounded = true :=
  (LinkState.bounded_iff _).mpr ⟨he, LinkState.outbox_le (k := k) h, LinkState.mail_rising (k := k) h⟩

/-- A link whose transmitter has sent its frame (R176). -/
def LinkState.sent (x : InTransmission) (k : LinkState) : LinkState :=
  { k with tx := none, outbox := match x with | .event => k.outbox.tail | .mail _ => k.outbox }

theorem sent_bounded (x : InTransmission) : (k.sent x).bounded = true := by
  have hout := LinkState.outbox_le h
  refine withOutbox_bounded (k := { k with tx := none }) h ?_
  split
  · exact (List.length_tail ▸ Nat.sub_le _ _).trans hout
  · exact hout

end

section
variable {s : State} (h : s.Bounded)
include h

theorem State.placeMail_bounded (l : Link) (ident : Nat) (data : List Byte) : (s.placeMail l ident data).Bounded :=
  State.onLink_bounded h l fun hk =>
    transmit_bounded (withMail_bounded hk (insertMail_rising _ (LinkState.mail_rising hk))) l

theorem State.emptyMail_bounded (l : Link) (ident : Nat) : (s.emptyMail l ident).Bounded :=
  State.onLink_bounded h l fun hk => withMail_bounded hk <| by
    have hrising := LinkState.mail_rising hk
    rw [List.pairwise_map] at hrising ⊢
    exact hrising.filter _

/-- A frame joins an event transmit queue that holds fewer than 8 (R178). -/
theorem State.pushOut_bounded (l : Link) (e : OutEvent) : (s.pushOut l e).Bounded :=
  State.onLink_bounded h l fun hk => by
    split
    next hroom =>
      simp only [Bool.and_eq_true, decide_eq_true_eq] at hroom
      exact transmit_bounded (withOutbox_bounded hk (by simpa using hroom.2)) l
    · exact hk

theorem State.refuse_bounded (l : Link) (message part func : Nat) (r : Reason) : (s.refuse l message part func r).Bounded :=
  State.pushOut_bounded h l _

theorem State.reply_bounded (func : Nat) (r : ReplyResult) : (s.reply func r).Bounded := State.pushOut_bounded h .implement _

theorem State.popEvent_bounded (l : Link) : (s.popEvent l).Bounded :=
  State.onLink_bounded h l fun hk => withInbox_bounded hk (by simpa using ((LinkState.bounded_iff _).mp hk).1.trans (by omega))

/-- An event frame joins a queue that holds fewer than 8, or is refused (R175). -/
theorem receiveEvent_bounded (l : Link) (ident : Nat) (data : List Byte) : (receiveEvent l ident data s).Bounded := by
  unfold receiveEvent
  refine .ite ?_ h
  split
  · exact h
  · split
    · exact State.refuse_bounded h l _ _ _ _
    · split
      next hroom => exact State.onLink_bounded h l fun hk => withInbox_bounded hk (by simpa using hroom)
      · exact State.refuse_bounded h l _ _ _ _

theorem reportTimer_bounded : (reportTimer s).Bounded := by
  have hdrive := State.placeMail_bounded h .vehicle 0x300 (driveStatus s)
  unfold reportTimer
  extract_lets t u
  have hu : u.Bounded := .ite (State.placeMail_bounded hdrive .implement _ _) hdrive
  exact hu

/-! ### The Function Arbiter -/

theorem State.refusePending_bounded (f : Func) (r : Reason) : (s.refusePending f r).Bounded :=
  .ite (State.reply_bounded (h.of_same (by simp) (by simp)) _ _) h

theorem State.moveAway_bounded (f : Func) (d : Holder) : (s.moveAway f d).Bounded := by
  have hmoved : (s.setHolder f d).Bounded := h.of_same (by simp) (by simp)
  exact .ite (State.reply_bounded hmoved _ _) hmoved

theorem State.reclaim_bounded (f : Func) : (s.reclaim f).Bounded := by
  have hmoved := State.moveAway_bounded (State.refusePending_bounded h f .notDelegated) f .cab
  exact .ite hmoved hmoved

theorem State.reclaimByCommand_bounded : s.reclaimByCommand.Bounded := .ite (State.reclaim_bounded h .speed) h

theorem State.grant_bounded (f : Func) : (s.grant f).Bounded := State.reply_bounded (h.of_same (by simp) (by simp)) _ _

theorem State.seize_bounded (f : Func) (d : Holder) : (s.seize f d).Bounded :=
  State.moveAway_bounded (State.refusePending_bounded h f _) f d

theorem judgeRequest_bounded (code : Nat) : (judgeRequest s code).Bounded := by
  have hreply (r : ReplyResult) : (s.reply code r).Bounded := State.reply_bounded h code r
  unfold judgeRequest
  split
  · exact hreply _
  next f _ =>
    refine .ite (hreply _) (.ite (hreply _) (.ite (hreply _) (.ite (hreply _) (.ite (hreply _) (.ite ?_ (.ite (hreply _)
      (.ite (State.grant_bounded h f) ?_)))))))
    · exact State.reply_bounded (by exact h.of_same rfl rfl) _ _
    · exact State.reply_bounded (by exact h.of_same rfl rfl) _ _

theorem judgeKeep_bounded (code : Nat) : (judgeKeep s code).Bounded := by
  have hreply (r : ReplyResult) : (s.reply code r).Bounded := State.reply_bounded h code r
  unfold judgeKeep
  split
  · exact hreply _
  · exact .ite (hreply _) (.ite h (.ite (hreply _) (hreply _)))

theorem judgeRelease_bounded (code : Nat) : (judgeRelease s code).Bounded := by
  have hreply (r : ReplyResult) : (s.reply code r).Bounded := State.reply_bounded h code r
  unfold judgeRelease
  split
  · exact hreply _
  · exact .ite (hreply _) (.ite (h.of_same (by simp) (by simp)) (.ite (h.of_same (by simp) (by simp)) (hreply _)))

theorem takeRequest_bounded : (takeRequest s).Bounded := by
  unfold takeRequest
  split
  · exact judgeRequest_bounded (State.popEvent_bounded h _) _
  · exact h

theorem takeKeep_bounded : (takeKeep s).Bounded := by
  unfold takeKeep
  split
  · exact judgeKeep_bounded (State.popEvent_bounded h _) _
  · exact h

theorem takeRelease_bounded : (takeRelease s).Bounded := by
  unfold takeRelease
  split
  · exact judgeRelease_bounded (State.popEvent_bounded h _) _
  · exact h

theorem applyFlag_bounded (v : Seen) (f : Func) : (applyFlag v s f).Bounded := by
  have hrevoked (t : State) (ht : t.Bounded) : State.Bounded (if t.holder f = .impl then t.moveAway f (t.target f) else t) :=
    .ite (State.moveAway_bounded ht _ _) ht
  unfold applyFlag
  dsimp only
  split
  · exact h
  · exact hrevoked _ (State.refusePending_bounded (by exact h.of_same rfl rfl) f _)
  · exact h
  · exact h

theorem settleRequest_bounded (f : Func) : (settleRequest s f).Bounded :=
  .ite (.ite (State.refusePending_bounded h f _) (.ite (State.refusePending_bounded h f _)
    (.ite (State.grant_bounded h f) h))) h

theorem judgeReclaims_bounded (v : Seen) : (judgeReclaims s v).Bounded := by
  unfold judgeReclaims
  split
  · have hpass := h.foldl (op := fun s f => if reclaimShown s v f then s.reclaim f else s)
      (fun t f ht => .ite (State.reclaim_bounded ht f) ht) delegableFuncs
    exact hpass
  · have hpass := h.foldl (op := fun s f => s.onEntry f (fun e =>
        if e.holder ≠ .cab ∧ e.reference = none then { e with reference := referenceOf f v } else e))
      (fun _ _ ht => ht) allFuncs
    exact hpass

theorem sendAuthorityStatus_bounded : (sendAuthorityStatus s).Bounded := by
  unfold sendAuthorityStatus
  exact .ite (State.placeMail_bounded (State.placeMail_bounded (by exact h.of_same rfl rfl) _ _ _) _ _ _) h

theorem authorityReview_bounded : (authorityReview s).Bounded := by
  unfold authorityReview
  extract_lets t
  have ht : t.Bounded := by
    unfold t
    split
    next v _ => exact judgeReclaims_bounded (h.foldl (fun t f ht => applyFlag_bounded ht v f) _) v
    · exact h
  exact sendAuthorityStatus_bounded (ht.foldl (fun t f ht => settleRequest_bounded ht f) _)

theorem pendingTimeout_bounded (f : Func) : (pendingTimeout f s).Bounded := .ite (State.refusePending_bounded h f _) h

theorem leaseLapse_bounded (f : Func) : (leaseLapse f s).Bounded := .ite (State.moveAway_bounded h f _) h

/-- A pass that returns functions with an answer to the implement keeps the bounds. -/
theorem returnStep_bounded (lost : Holder → Prop) [DecidablePred lost] (r : Reason) (f : Func) :
    (returnStep lost (·.refusePending · r) State.moveAway s f).Bounded :=
  have hrefused := State.refusePending_bounded h f r
  .ite (State.moveAway_bounded hrefused f _) hrefused

theorem returnAtShutdown_bounded : (returnAtShutdown s).Bounded := by
  rw [returnAtShutdown_eq]
  exact h.foldl (fun t f ht => returnStep_bounded ht _ _ f) _

theorem returnAtLinkLoss_bounded : (returnAtLinkLoss s).Bounded := by
  rw [returnAtLinkLoss_eq]
  exact h.foldl (fun t f ht => returnStep_bounded ht _ _ f) _

/-! ### Faults and notices (R159 to R162) -/

theorem State.placeNotice_bounded (e : FaultEntry) : (s.placeNotice e).Bounded :=
  (State.pushOut_bounded h .vehicle _).of_same (s.placeNotice_link e) (by simp)

theorem offerNoticesUpTo_bounded (n : Nat) : (offerNoticesUpTo n s).Bounded := by
  induction n generalizing s with
  | zero => exact h
  | succ n ih =>
    unfold offerNoticesUpTo
    refine .ite ?_ h
    split
    · exact ih (State.placeNotice_bounded h _)
    · exact h

theorem State.offerNotices_bounded : s.offerNotices.Bounded := offerNoticesUpTo_bounded h 16

theorem tellFaultManager_bounded (l : Link) : (tellFaultManager l s).Bounded := by
  cases l with
  | vehicle => exact State.offerNotices_bounded h
  | implement => exact h

theorem State.tellRaised_bounded (c : FaultCode) : (s.tellRaised c).Bounded := by
  unfold State.tellRaised
  split
  · exact (returnAtLinkLoss_bounded h).of_same (by simp) (by simp)
  · exact h.of_same (by simp) (by simp)
  · exact h

theorem State.raise_bounded (c : FaultCode) (named : Option Group) : (s.raise c named).Bounded := by
  unfold State.raise
  exact State.offerNotices_bounded (State.tellRaised_bounded (State.Bounded.foldl (by exact h.of_same rfl rfl)
    (fun _ _ ht => ht.of_same (by simp) (by simp)) _) c)

theorem State.updateGates_bounded (f : Closing → Closing) :
    (allGroups.foldl (fun (s : State) g => s.updateGate f g) s).Bounded :=
  h.foldl (fun _ _ ht => ht.of_same (by simp) (by simp)) allGroups

theorem State.inactive_bounded (c : FaultCode) : (s.inactive c).Bounded := by
  unfold State.inactive
  exact State.offerNotices_bounded (State.updateGates_bounded (by exact h.of_same rfl rfl) _)

theorem State.reportInactive_bounded (c : FaultCode) : (s.reportInactive c).Bounded := .ite (State.inactive_bounded h c) h

theorem State.report_bounded (c : FaultCode) (v : Verdict) : (s.report c v).Bounded := by
  cases v with
  | quiet => exact h
  | raise => exact State.raise_bounded h c none
  | clear => exact State.reportInactive_bounded h c

theorem State.clearLatch_bounded : s.clearLatch.Bounded := by
  rw [State.clearLatch_eq]
  exact State.reportInactive_bounded (s := s.onBrake _) h _

theorem State.tellAcked_bounded (c : Option FaultCode) : (s.tellAcked c).Bounded := by
  unfold State.tellAcked
  dsimp only
  exact .ite (.ite (State.clearLatch_bounded (by exact h.of_same rfl rfl)) (h.of_same rfl rfl)) (h.of_same rfl rfl)

theorem State.acknowledge_bounded (c : Option FaultCode) : (s.acknowledge c).Bounded := by
  unfold State.acknowledge
  exact State.offerNotices_bounded (State.tellAcked_bounded (State.updateGates_bounded (by exact h.of_same rfl rfl) _) c)

theorem takeAck_bounded : (takeAck s).Bounded := by
  have hpopped := State.popEvent_bounded h .vehicle
  unfold takeAck
  split
  · refine .ite (State.acknowledge_bounded hpopped none) ?_
    split
    · exact State.acknowledge_bounded hpopped _
    · exact State.refuse_bounded hpopped _ _ _ _ _
  · exact h

theorem entryRemoval_bounded (c : FaultCode) : (entryRemoval c s).Bounded := by
  unfold entryRemoval
  split
  · exact .ite (State.offerNotices_bounded (s := s.removeEntry c) h) h
  · exact h

/-! ### The link check, the end of a transmission, bus-off and rejoin (R172, R174, R176) -/

theorem linkCheck_bounded : (linkCheck s).Bounded :=
  .ite (State.reportInactive_bounded h _) (.ite h (State.raise_bounded h _ none))

/-- A link changes within its bounds, the Fault Manager is told of it, and the transmitter chooses (R178). -/
theorem tellAndTransmit_bounded (l : Link) {f : LinkState → LinkState}
    (hf : (s.link.get l).bounded = true → (f (s.link.get l)).bounded = true) :
    ((tellFaultManager l (s.onLink l f)).onLink l (transmit l)).Bounded :=
  State.onLink_bounded (tellFaultManager_bounded (State.onLink_bounded h l hf) l) l fun hk => transmit_bounded hk l

theorem frameSent_bounded (l : Link) : (frameSent l s).Bounded := by
  unfold frameSent
  split
  · exact h
  next x _ =>
    have hchosen := tellAndTransmit_bounded h l (f := (·.sent x)) fun hk => sent_bounded hk x
    cases l <;> exact hchosen

theorem linkRejoin_bounded (l : Link) : (linkRejoin l s).Bounded := by
  have hchosen := tellAndTransmit_bounded h l (f := fun k => { k with rejoin := none }) id
  cases l <;> exact .ite hchosen h

theorem returnMail_rising (l : Link) : ((returnMail s (s.link.get l)).map Mail.ident).Pairwise (· < ·) := by
  have hrising := LinkState.mail_rising ((s.bounded_iff.mp h).1 l)
  unfold returnMail
  split
  · extract_lets ended
    split
    · exact hrising
    · exact insertMail_rising _ hrising
  · exact hrising

theorem goBusOff_bounded (l : Link) : (goBusOff l s).Bounded := by
  have hcut : (s.onLink l (cutOff s)).Bounded := State.onLink_bounded h l fun hk =>
    (LinkState.bounded_iff _).mpr ⟨Nat.zero_le _, (List.length_filter_le _ _).trans (LinkState.outbox_le hk),
      returnMail_rising h l⟩
  cases l with
  | vehicle => exact .ite hcut h
  | implement =>
    have hlapsed : (lapseAllSilently (s.onLink .implement (cutOff s))).Bounded := hcut.of_same (by simp) (by simp)
    exact .ite hlapsed h

end

end Sys2Proof.Machine
end

section
/-! PROOFS. The bounds of the queues and mailboxes (R101, R175, R176, R178): the blocks' own events keep them. A block reaches a
link through a fault it reports, a refusal or a publication alone, and the store queue through a write it hands. -/

open Sys2Proof Sys2Proof.Machine

namespace Sys2Proof.Machine

/-! ### The store queue (R101) -/

/-- The keys queued once a write has joined the queue are those before and its own. -/
theorem mem_enqueue_key {w x : Write} {q : List Write} (h : x ∈ enqueue w q) :
    x.record.key = w.record.key ∨ ∃ y ∈ q, y.record.key = x.record.key := by
  induction q with
  | nil => exact .inl (by rw [List.mem_singleton.mp h])
  | cons y rest ih =>
    unfold enqueue at h
    split at h
    · rcases List.mem_cons.mp h with rfl | h
      · exact .inl rfl
      · exact .inr ⟨x, List.mem_cons_of_mem _ h, rfl⟩
    · rcases List.mem_cons.mp h with rfl | h
      · exact .inr ⟨x, List.mem_cons_self, rfl⟩
      · obtain hkey | ⟨z, hz, hkey⟩ := ih h
        · exact .inl hkey
        · exact .inr ⟨z, List.mem_cons_of_mem _ hz, hkey⟩

/-- A write joins the queue in the place of the queued write of its key, or behind all of them: a key is queued once (R101). -/
theorem enqueue_keys_nodup (w : Write) {q : List Write} (h : (q.map (fun x => x.record.key)).Nodup) :
    ((enqueue w q).map (fun x => x.record.key)).Nodup := by
  induction q with
  | nil => simp [enqueue]
  | cons y rest ih =>
    rw [List.map_cons, List.nodup_cons] at h
    unfold enqueue
    split
    next hkey => exact List.nodup_cons.mpr ⟨by simpa [hkey] using h.1, h.2⟩
    next hkey =>
      refine List.nodup_cons.mpr ⟨fun hmem => ?_, ih h.2⟩
      obtain ⟨x, hx, hxy⟩ := List.mem_map.mp hmem
      obtain hxw | ⟨z, hz, hzx⟩ := mem_enqueue_key hx
      · exact hkey (hxy.symm.trans hxw)
      · exact h.1 (List.mem_map.mpr ⟨z, hz, hzx.trans hxy⟩)

/-- The store queue changes within its bound. -/
theorem State.Bounded.of_queue {s t : State} (h : s.Bounded) (hl : t.link = s.link)
    (hq : (t.store.queue.map (fun w => w.record.key)).Nodup) : t.Bounded := by
  rw [State.bounded_iff, hl]
  exact ⟨(s.bounded_iff.mp h).1, hq⟩

section
variable {s : State} (h : s.Bounded)
include h

/-! ### Speed Capture and the channels -/

theorem speedSample_bounded (pedal : Nat) : (speedSample pedal s).Bounded := by
  have hpublished {t : State} (ht : t.Bounded) : (publishSpeed t).Bounded := ht.of_same (by simp) (by simp)
  unfold speedSample
  dsimp only
  rw [← State.report_engineVerdict]
  refine hpublished (State.report_bounded (State.report_bounded (State.report_bounded ?_ _ _) _ _) _ _)
  exact h.of_same rfl rfl

theorem monitorStage_bounded (volts : Nat) : (monitorStage volts s).Bounded := by
  unfold monitorStage
  dsimp only
  refine State.report_bounded ?_ _ _
  split <;> exact h

theorem raiseChannel_bounded (i : Chan) : (raiseChannel s i).Bounded := by
  cases i <;> exact State.raise_bounded h _ _

theorem currentStage_bounded : (currentStage s).Bounded :=
  .ite (State.Bounded.foldl (s := s.onChans _) h (fun _ i ht => raiseChannel_bounded ht i) _) h

theorem idleStage_bounded : (idleStage s).Bounded := by
  unfold idleStage
  extract_lets t u
  have hu : u.Bounded := .ite h (State.reportInactive_bounded (s := t) h _)
  exact .ite (.ite hu (State.reportInactive_bounded hu _)) h

theorem channelStep_bounded (amps : PerChan Nat) (volts : Nat) : (channelStep amps volts s).Bounded := by
  unfold channelStep
  extract_lets t u v w
  have hmonitored : (monitorStage volts t).Bounded := monitorStage_bounded (s := t) h volts
  have hu : u.Bounded := currentStage_bounded (s := (monitorStage volts t).onChans _) hmonitored
  have hv : v.Bounded := idleStage_bounded hu
  exact hv

/-! ### The store and adaptation -/

theorem dropWrite_bounded : (dropWrite s).Bounded := by
  unfold dropWrite
  split
  · exact h
  next w _ _ =>
    have hoffsets : (restoreOffsets w (s.onStore (fun t => { t with inFlight := none }))).Bounded :=
      h.of_same (by simp) (by unfold restoreOffsets; split <;> rfl)
    exact (State.raise_bounded hoffsets .storeWrite none).of_same (by simp) (by simp)

theorem completeWrite_bounded (seq : Nat) : (completeWrite seq s).Bounded := by
  unfold completeWrite
  split
  · exact h
  next w _ _ =>
    have hput : (applyConversion w.record.key
        (s.onStore (fun t => { t with inFlight := none, cal := t.cal.put w.record seq }))).Bounded :=
      h.of_same (by simp) (by simp)
    have hended : (endRunOf w none ((applyConversion w.record.key
        (s.onStore (fun t => { t with inFlight := none, cal := t.cal.put w.record seq }))).reportInactive .storeWrite)).Bounded :=
      (State.reportInactive_bounded hput .storeWrite).of_same (by simp) (by simp)
    exact .ite (hended.of_same (by simp) (by simp)) hended

theorem startWrite_bounded : (startWrite s).Bounded := by
  unfold startWrite
  split
  · exact h
  · exact dropWrite_bounded h
  · exact .ite h h

theorem takeNextUpTo_bounded (n : Nat) : (takeNextUpTo n s).Bounded := by
  induction n generalizing s with
  | zero => exact h
  | succ n ih =>
    unfold takeNextUpTo
    split
    next w rest _ _ hq =>
      have hkeys := (s.bounded_iff.mp h).2
      rw [hq, List.map_cons, List.nodup_cons] at hkeys
      have htaken : (s.onStore (fun t => { t with queue := rest, inFlight := some (w, false) })).Bounded :=
        h.of_queue rfl hkeys.2
      exact ih (startWrite_bounded htaken)
    · exact h

theorem State.takeNext_bounded : s.takeNext.Bounded := takeNextUpTo_bounded h _

theorem State.handWrite_bounded (w : Write) : (s.handWrite w).Bounded := by
  refine State.takeNext_bounded (h.of_queue rfl ?_)
  have hkeys := enqueue_keys_nodup w (s.bounded_iff.mp h).2
  unfold StoreState.savedFrom
  split <;> exact hkeys

theorem abandon_bounded (next : Option StoreOp) : (abandon next s).Bounded := by
  cases next with
  | some o => exact dropWrite_bounded h
  | none => exact State.takeNext_bounded (dropWrite_bounded (s := s.noOp) h)

/-- What follows the program of a slot or a header follows the state it leaves. -/
theorem State.Bounded.of_program {t : State} {p : Page} {slot : Nat} {meant : List Byte} {rb : ReadBack} {ok : Bool}
    (hp : programSlot p slot meant rb s = (t, ok)) : t.Bounded :=
  (Prod.mk.inj hp).1 ▸ h

theorem nextCopy_bounded (p : Page) (slot : Nat) (rest : List (CalRecord × Nat)) : (nextCopy p slot rest s).Bounded :=
  h.of_same (by simp) (by simp)

theorem slotProgramEnds_bounded (rb : ReadBack) : (slotProgramEnds rb s).Bounded := by
  unfold slotProgramEnds
  split
  · split
    next t hp =>
      have ht := h.of_program hp
      exact State.takeNext_bounded (completeWrite_bounded (s := t.noOp) ht _)
    next t hp =>
      have ht := h.of_program hp
      exact .ite (dropWrite_bounded ht) ht
  · split
    next t hp => exact nextCopy_bounded (h.of_program hp) _ _ _
    next t hp =>
      have ht := h.of_program hp
      exact .ite (abandon_bounded ht _) ht
  · exact h

theorem voidProgramEnds_bounded : (voidProgramEnds s).Bounded := by
  unfold voidProgramEnds
  split
  next p slot _ _ =>
    have hvoid : (voidSlot p slot s).noOp.Bounded := h
    exact .ite (startWrite_bounded hvoid) (State.takeNext_bounded hvoid)
  next p slot _ _ _ =>
    have hvoid : (voidSlot p slot s).noOp.Bounded := h
    dsimp only
    split
    · exact hvoid
    · exact State.takeNext_bounded hvoid
  · exact h

theorem formatFails_bounded : (formatFails s).Bounded :=
  State.takeNext_bounded (State.raise_bounded (by exact h.of_same rfl rfl) _ none)

theorem pageEraseEnds_bounded (rb : ReadBack) : (pageEraseEnds rb s).Bounded := by
  have herased {p : Page} {t : State} {ok : Bool} (he : eraseEnds p rb s = (t, ok)) : t.Bounded := by
    obtain rfl : (eraseEnds p rb s).1 = t := congrArg Prod.fst he
    exact h.of_same (by simp) (by simp)
  unfold pageEraseEnds
  split
  · split
    next hp =>
      have ht := herased hp
      exact ht
    next hp =>
      have ht := herased hp
      exact .ite (abandon_bounded ht _) ht
  · split
    next hp =>
      have ht := herased hp
      exact ht
    next hp =>
      have ht := herased hp
      exact .ite (formatFails_bounded ht) ht
  · exact h

theorem headerProgramEnds_bounded (rb : ReadBack) : (headerProgramEnds rb s).Bounded := by
  have hraised {t : State} (ht : t.Bounded) : (t.noOp.raise .storeWrite none).Bounded :=
    State.raise_bounded (s := t.noOp) ht _ none
  unfold headerProgramEnds
  dsimp only
  split
  · split
    next t hp => exact nextCopy_bounded (h.of_program hp) _ _ _
    next t hp =>
      have ht := h.of_program hp
      exact .ite (abandon_bounded ht _) ht
  · split
    next hp =>
      have ht := h.of_program hp
      exact ht
    next t hp =>
      have ht := h.of_program hp
      exact .ite (abandon_bounded ht _) ht
  · split
    next t hp =>
      have ht := h.of_program hp
      exact startWrite_bounded (s := t.noOp) ht
    next t hp =>
      have ht := h.of_program hp
      exact .ite (startWrite_bounded (hraised ht)) ht
  · split
    next t hp =>
      have ht := h.of_program hp
      exact State.takeNext_bounded (s := t.noOp) ht
    next t hp =>
      have ht := h.of_program hp
      exact .ite (State.takeNext_bounded (hraised ht)) ht
  · split
    next hp =>
      have ht := h.of_program hp
      exact ht
    next t hp =>
      have ht := h.of_program hp
      exact .ite (formatFails_bounded ht) ht
  · split
    next t hp =>
      have ht := h.of_program hp
      exact State.takeNext_bounded (by exact ht.of_same rfl rfl)
    next t hp =>
      have ht := h.of_program hp
      exact .ite (formatFails_bounded ht) ht
  · exact h

theorem handOffset_bounded (c : Clutch) : (handOffset c s).Bounded := by
  unfold handOffset
  split
  · exact State.handWrite_bounded h _
  · exact h

theorem handOffsets_bounded : (handOffsets s).Bounded :=
  h.foldl (fun _ c ht => .ite (handOffset_bounded ht c) ht) allClutches

theorem changeWorking_bounded (c : Clutch) (v : Int) : (changeWorking c v s).Bounded := by
  have hset : (s.onStore (fun t => { t with working := t.working.set c v })).Bounded := h
  exact .ite (handOffset_bounded hset c) hset

theorem oilTimer_bounded (temp : Int) : (oilTimer temp s).Bounded := 
  State.report_bounded (by exact h.of_same rfl rfl) _ _

theorem adaptationOutcome_bounded (eligible : Bool) : (adaptationOutcome eligible s).Bounded := by
  have hclosed : (s.onStore (fun t => { t with watch := none })).Bounded := h
  unfold adaptationOutcome
  split
  · exact h
  · dsimp only
    split
    · exact .ite (changeWorking_bounded hclosed _ _) hclosed
    · exact hclosed

/-! ### The calibration run -/

theorem enterWrite_bounded (c : Clutch) : (enterWrite c s).Bounded :=
  State.handWrite_bounded (by exact h.of_same rfl rfl) _

theorem fillStep_bounded (c : Clutch) : (fillStep c s).Bounded := by
  have hwrite := enterWrite_bounded h c
  have hended : (s.endRun (some .fillNotFound)).Bounded := h.of_same (by simp) (by simp)
  have hpulse (n : Nat) : (beginPulse n s).Bounded := h.of_same (by simp) (by simp)
  unfold fillStep
  dsimp only
  split
  · exact .ite (hpulse _) h
  · exact .ite hwrite (.ite h h)
  · exact .ite hwrite (.ite (.ite hended h) h)
  · exact .ite (hpulse _) h

theorem runStep_bounded (pedal : Nat) : (runStep pedal s).Bounded := by
  unfold runStep
  split
  · exact h
  next c _ =>
    have hjudged : State.Bounded (match abortReason pedal s with
        | some r => s.abortRun r
        | none =>
          match s.run.phase with
          | .prepare => prepareStep s
          | .kissSearch => kissStep s
          | _ => fillStep c s) := by
      split
      · exact h.of_same (by simp) (by simp)
      · split
        · exact h.of_same (by simp) (by simp)
        · exact h.of_same (by simp) (by simp)
        · exact fillStep_bounded h c
    split <;> first | exact h | exact hjudged

end

end Sys2Proof.Machine
end

section
/-! PROOFS. The bounds of the queues and mailboxes: the Shift Sequencer, the Axle Engagement block, the Hitch Controller and the
Trailer Brake Controller keep them. -/

open Sys2Proof Sys2Proof.Machine

namespace Sys2Proof.Machine

section
variable {s : State} (h : s.Bounded)
include h

/-! ### The Shift Sequencer -/

theorem endTorque_bounded : (endTorque s).Bounded := by
  unfold endTorque
  split
  · exact h
  · split
    · exact h
    · exact State.emptyMail_bounded (by exact h.of_same (by simp) (by simp)) _ _

theorem clearShift_bounded : (clearShift s).Bounded := by
  unfold clearShift
  split
  · exact h
  · exact (endTorque_bounded h).of_same (by simp) (by simp)

theorem endShift_bounded (r : ShiftRec) : (endShift r s).Bounded := by
  unfold endShift
  extract_lets t u
  have ht : t.Bounded := (clearShift_bounded h).of_same (by simp [t]) (by simp [t])
  have hu : u.Bounded := .ite ht (State.reportInactive_bounded ht _)
  exact .ite (adaptationOutcome_bounded hu _) hu

theorem neutralReaction_bounded : (neutralReaction s).Bounded := (clearShift_bounded h).of_same rfl rfl

theorem neutralStage_bounded : (neutralStage s).Bounded := by
  have hjudged : State.Bounded (if (causesNow s).newSince s.seq.causes then neutralReaction s else s) :=
    .ite (neutralReaction_bounded h) h
  exact hjudged.of_same rfl rfl

theorem declutch_bounded (r : ShiftRec) : (declutch r s).Bounded := by
  have hreleased : ((endTorque s).releaseEach (gearClutches r.offGoing)).Bounded :=
    (endTorque_bounded h).of_same (by simp) (by simp)
  have hswapped := hreleased.foldl (fun t c (ht : t.Bounded) => show (swapNow t c).Bounded from ht.of_same (by simp) (by simp))
    (gearClutches r.onComing)
  exact hswapped.of_same (by simp [declutch]) (by simp [declutch])

theorem pedalDown_bounded : (pedalDown s).Bounded := by
  unfold pedalDown
  extract_lets t
  have ht : t.Bounded := h.of_same (by simp [t]) (by simp [t])
  split
  · exact .ite ht (declutch_bounded ht _)
  · exact ht

theorem pedalStage_bounded (pedal : Nat) : (pedalStage pedal s).Bounded :=
  .ite (pedalDown_bounded h) (h.of_same (by simp) (by simp))

theorem abortUpshift_bounded (r : ShiftRec) : (abortUpshift r s).Bounded := by
  have hcleared := clearShift_bounded h
  unfold abortUpshift
  extract_lets t u
  have ht : t.Bounded := hcleared.of_same (by simp [t]) (by simp [t])
  have hu : u.Bounded := by
    unfold u
    split
    · exact ht.of_same (by simp) (by simp)
    · exact ht.of_same (by simp) (by simp)
  exact hu

theorem inhibitStage_bounded : (inhibitStage s).Bounded := by
  unfold inhibitStage
  refine .ite ?_ h
  split
  · exact h
  · exact .ite (abortUpshift_bounded (by exact h.of_same rfl rfl) _) h

theorem enterFinish_bounded : (enterFinish s).Bounded :=
  (endTorque_bounded h).of_same (by simp [enterFinish]) (by simp [enterFinish])

theorem rampStep_bounded (c : Clutch) (r : ShiftRec) {ends : Bool → State → State}
    (hends : ∀ (lock : Bool) (t : State), t.Bounded → (ends lock t).Bounded) : (rampStep c r ends s).Bounded := by
  unfold rampStep
  extract_lets t n u forced
  have hu : u.Bounded := h.of_same (by simp [u, t]) (by simp [u, t])
  exact .ite (hends true u hu) (.ite (hends false u hu) hu)

theorem overlapStep_bounded (r : ShiftRec) : (overlapStep r s).Bounded := by
  refine rampStep_bounded (by exact h.of_same (by simp) (by simp)) _ _ fun lock t ht => ?_
  have happlied : ((t.release (speedClutch t.seq.gear.num)).applyAt (speedClutch s.seq.target.num) 2000).Bounded :=
    ht.of_same (by simp) (by simp)
  exact (enterFinish_bounded happlied).of_same (by simp) (by simp)

theorem dirRampStep_bounded (r : ShiftRec) : (dirRampStep r s).Bounded := by
  refine rampStep_bounded h _ _ fun _ t ht => ?_
  have happlied : (t.applyAt (dirOf s.seq.target) 2000).Bounded := ht.of_same (by simp) (by simp)
  exact enterFinish_bounded happlied

theorem finishStep_bounded (r : ShiftRec) : (finishStep r s).Bounded := by
  have hfilled : State.Bounded (if r.declutched then s.applyFilled (gearClutches r.onComing) else s) :=
    .ite (h.of_same (by simp) (by simp)) h
  exact .ite (endShift_bounded hfilled r) hfilled

theorem timeoutShift_bounded (pedal : Nat) (r : ShiftRec) : (timeoutShift pedal r s).Bounded := by
  unfold timeoutShift
  extract_lets on t u
  have ht : (t.releaseEach r.offGoing).Bounded := h.of_same (by simp [t]) (by simp [t])
  have hu : u.Bounded := (enterFinish_bounded ht).of_same (by simp [u]) (by simp [u])
  exact State.raise_bounded hu _ none

theorem timeoutStage_bounded (pedal : Nat) : (timeoutStage pedal s).Bounded := by
  unfold timeoutStage
  split
  · exact .ite (timeoutShift_bounded h pedal _) h
  · exact h

theorem phaseStep_bounded (r : ShiftRec) : (phaseStep r s).Bounded := by
  unfold phaseStep
  split
  case h_2 => exact overlapStep_bounded h r
  case h_8 => exact dirRampStep_bounded h r
  case h_9 => exact finishStep_bounded h r
  all_goals exact h.of_same (by simp) (by simp)

theorem progressStage_bounded (pedal : Nat) : (progressStage pedal s).Bounded := by
  have hshake : (handshake s).Bounded := h.of_same (by simp) (by simp)
  unfold progressStage
  dsimp only
  split
  · exact timeoutStage_bounded (phaseStep_bounded hshake _) pedal
  · exact hshake

theorem startShift_bounded (pedal : Nat) : (startShift pedal s).Bounded := by
  unfold startShift
  extract_lets r t
  have ht : t.Bounded := h
  exact .ite (declutch_bounded ht _) (ht.of_same (by simp) (by simp))

theorem startStage_bounded (pedal : Nat) (had : Bool) : (startStage pedal had s).Bounded := .ite (startShift_bounded h pedal) h

theorem slipStage_bounded (pedal : Nat) : (slipStage pedal s).Bounded := by
  have hraised := neutralReaction_bounded (State.raise_bounded h .clutchSlip none)
  exact .ite (State.reportInactive_bounded (by exact hraised.of_same rfl rfl) _) h

theorem torqueStage_bounded : (torqueStage s).Bounded := by
  unfold torqueStage
  split
  · exact .ite (State.placeMail_bounded (by exact h.of_same (by simp) (by simp)) _ _ _) h
  · exact h

theorem shiftStep_bounded (pedal : Nat) : (shiftStep pedal s).Bounded := by
  have hvented : (ventStage s).Bounded := h.of_same (by simp) (by simp)
  unfold shiftStep
  extract_lets early moved judged
  have hearly : early.Bounded :=
    pedalStage_bounded ((neutralStage_bounded hvented).of_same (t := neutralStartStage _) (by simp) (by simp)) pedal
  have hmoved : moved.Bounded := startStage_bounded (progressStage_bounded (inhibitStage_bounded hearly) pedal) pedal _
  have hchosen : (autoStage pedal moved).Bounded := hmoved.of_same (by simp) (by simp)
  have hjudged : judged.Bounded :=
    torqueStage_bounded ((slipStage_bounded hchosen pedal).of_same (t := draftStage _) (by simp) (by simp))
  exact hjudged.of_same (by simp) (by simp)

theorem refuseGear_bounded (command : Nat) (r : Reason) : (refuseGear command r s).Bounded :=
  State.refuse_bounded h .vehicle _ _ _ _

theorem judgeTap_bounded (up : Bool) : (judgeTap up s).Bounded := by
  have hclaimed := State.reclaimByCommand_bounded h
  unfold judgeTap
  dsimp only
  split
  · exact refuseGear_bounded hclaimed _ _
  · exact .ite (refuseGear_bounded hclaimed _ _) (hclaimed.of_same (by simp) (by simp))

theorem takeGearUp_bounded : (takeGearUp s).Bounded := by
  unfold takeGearUp
  split
  · exact judgeTap_bounded (State.popEvent_bounded h _) _
  · exact h

theorem takeGearDown_bounded : (takeGearDown s).Bounded := by
  unfold takeGearDown
  split
  · exact judgeTap_bounded (State.popEvent_bounded h _) _
  · exact h

theorem judgeTravel_bounded (d : Dir) : (judgeTravel d s).Bounded := by
  have hrefused (r : Reason) : (refuseGear 3 r s).Bounded := refuseGear_bounded h _ r
  unfold judgeTravel
  exact .ite (hrefused _) (.ite (hrefused _) (.ite h (.ite (hrefused _) h)))

theorem judgeDirection_bounded (d : DirRequest) : (judgeDirection d s).Bounded := by
  have hclaimed := State.reclaimByCommand_bounded h
  unfold judgeDirection
  dsimp only
  split
  · exact refuseGear_bounded hclaimed _ _
  · refine .ite (refuseGear_bounded hclaimed _ _) ?_
    cases d with
    | neutral => exact hclaimed.of_same (by simp) (by simp)
    | forward => exact judgeTravel_bounded hclaimed _
    | reverse => exact judgeTravel_bounded hclaimed _

theorem takeDirection_bounded : (takeDirection s).Bounded := by
  unfold takeDirection
  split
  · exact judgeDirection_bounded (State.popEvent_bounded h _) _
  · exact h

theorem judgeImplSpeed_bounded (v : Nat) : (judgeImplSpeed v s).Bounded := by
  have hrefused (r : Reason) : (s.refuse .implement 4 0 (funcCode .speed) r).Bounded := State.refuse_bounded h .implement _ _ _ r
  exact .ite (hrefused _) (.ite (hrefused _) h)

theorem takeImplSpeed_bounded : (takeImplSpeed s).Bounded := by
  unfold takeImplSpeed
  split
  · exact judgeImplSpeed_bounded (State.popEvent_bounded h _) _
  · exact h

/-! ### The Axle Engagement block -/

theorem failedRelease_bounded : (failedRelease s).Bounded := State.raise_bounded (by exact h.of_same rfl rfl) _ none

theorem moveFwd_bounded (closed : Bool) : (moveFwd closed s).Bounded := by
  unfold moveFwd
  extract_lets a waited openSince t
  have ht : t.Bounded := h
  split
  · exact .ite ht ht
  · exact .ite ht (.ite (failedRelease_bounded ht) ht)
  · exact .ite ht (.ite (failedRelease_bounded ht) ht)
  · exact .ite (State.reportInactive_bounded (by exact h.of_same rfl rfl) _) ht

theorem transmissionStage_bounded : (transmissionStage s).Bounded := State.report_bounded (by exact h.of_same rfl rfl) _ _

theorem axleStep_bounded (closed : Bool) : (axleStep closed s).Bounded := by
  have happlied : (appliedStage (engagementStage (modesStage s))).Bounded := h.of_same (by simp) (by simp)
  unfold axleStep
  extract_lets t
  have ht : (lockStage (s.gateOpen .axle) t).Bounded :=
    (moveFwd_bounded happlied closed).of_same (by simp [t]) (by simp [t])
  exact (transmissionStage_bounded ht).of_same (by simp) (by simp)

theorem judgeImplAxle_bounded (fwd dl : Nat) : (judgeImplAxle fwd dl s).Bounded := by
  have hrefused (r : Reason) : (s.refuse .implement 5 0 (funcCode .axle) r).Bounded := State.refuse_bounded h .implement _ _ _ r
  unfold judgeImplAxle
  refine .ite (hrefused _) ?_
  split
  · exact h
  · exact hrefused _

theorem takeImplAxle_bounded : (takeImplAxle s).Bounded := by
  unfold takeImplAxle
  split
  · exact judgeImplAxle_bounded (State.popEvent_bounded h _) _ _
  · exact h

end

end Sys2Proof.Machine
end

section
/-! PROOFS. The bounds of the queues and mailboxes: the Hitch Controller, the Trailer Brake Controller, the power states, the
starts and the service line keep them, and so does every command. -/

open Sys2Proof Sys2Proof.Machine

namespace Sys2Proof.Machine

section
variable {s : State} (h : s.Bounded)
include h

/-! ### The Hitch Controller -/

theorem positionStage_bounded (adc : Nat) : (positionStage adc s).Bounded := by
  unfold positionStage
  split
  · exact h
  · exact .ite (.ite (State.reportInactive_bounded (by exact h.of_same rfl rfl) _) h)
      (.ite (.ite (State.raise_bounded (by exact h.of_same rfl rfl) _ none) h) h)

theorem pinStage_bounded (l r : Int) : (pinStage l r s).Bounded :=
  .ite (.ite (.ite (State.reportInactive_bounded (by exact h.of_same rfl rfl) _) h)
    (.ite (.ite (State.raise_bounded (by exact h.of_same rfl rfl) _ none) h) h)) h

theorem beginFender_bounded : (beginFender s).Bounded :=
  (State.seize_bounded h .hitchLift .fender).of_same (by simp [beginFender]) (by simp [beginFender])

theorem fenderStage_bounded (d : FenderDemand) (pedal : Nat) : (fenderStage d pedal s).Bounded := by
  unfold fenderStage
  extract_lets t
  have ht : t.Bounded := h
  split
  · exact ht
  · exact .ite (ht.of_same (by simp) (by simp)) ht
  all_goals exact .ite (beginFender_bounded ht) ht

theorem liftStateStage_bounded (gateOpen : Bool) (d : FenderDemand) (pedal : Nat) :
    (liftStateStage gateOpen d pedal s).Bounded := by
  have hstopped : (stopStage gateOpen s).Bounded := h.of_same (by simp) (by simp)
  exact (fenderStage_bounded hstopped d pedal).of_same (by simp [liftStateStage]) (by simp [liftStateStage])

theorem runawayStage_bounded (q : Int) : (runawayStage q s).Bounded := by
  unfold runawayStage
  extract_lets history cond full r t
  have ht : t.Bounded := State.report_bounded (by exact h.of_same rfl rfl) _ _
  split
  · exact ht.of_same (by simp) (by simp)
  · exact ht

theorem hitchStep_bounded (inp : HitchInputs) : (hitchStep inp s).Bounded := by
  unfold hitchStep
  extract_lets adc l r d sensed moved q t
  have hsensed : sensed.Bounded :=
    (pinStage_bounded (positionStage_bounded h adc) l r).of_same (by simp [sensed]) (by simp [sensed])
  have hset : (setpointStage (freezeStage (shadowStage (cabStage sensed)))).Bounded := hsensed.of_same (by simp) (by simp)
  have hmoved : moved.Bounded := liftStateStage_bounded hset _ d inp.pedal
  have hmarked : (moved.onHitch (fun h =>
      { h with report := { h.report with q := q, eSlip := slipTerm moved, rawAdc := adc } })).Bounded := hmoved.of_same rfl rfl
  have ht : t.Bounded := (runawayStage_bounded hmarked q).of_same (by simp [t]) (by simp [t])
  exact ht.of_same (by simp) (by simp)

theorem judgeSetpoint_bounded (p : Setpoint) : (judgeSetpoint p s).Bounded := .ite (State.refuse_bounded h _ _ _ _ _) h

theorem judgeQuick_bounded (c : LiftCmd) : (judgeQuick c s).Bounded := by
  have hrefused (r : Reason) : (s.refuse .implement 3 2 (funcCode .hitchLift) r).Bounded :=
    State.refuse_bounded h .implement _ _ _ r
  exact .ite (hrefused _) (.ite (hrefused _) (.ite (hrefused _) h))

theorem judgeParts_bounded (set : Option Setpoint) (quick : Option LiftCmd) : (judgeParts set quick s).Bounded := by
  unfold judgeParts
  extract_lets t
  have ht : t.Bounded := by
    cases set with
    | some p => exact judgeSetpoint_bounded h p
    | none => exact h
  cases quick with
  | some c => exact judgeQuick_bounded ht c
  | none => exact ht

theorem takeSetpoint_bounded : (takeSetpoint s).Bounded := by
  unfold takeSetpoint
  split
  · exact judgeParts_bounded (State.popEvent_bounded h _) _ _
  · exact State.popEvent_bounded h _
  · exact h

theorem takeQuick_bounded (c : LiftCmd) : (takeQuick c s).Bounded := by
  unfold takeQuick
  split
  · exact .ite (judgeParts_bounded (State.popEvent_bounded h _) _ _) h
  · exact h

/-! ### The Trailer Brake Controller -/

theorem transducerStage_bounded (raw : Nat) : (transducerStage raw s).Bounded :=
  .ite (.ite (State.reportInactive_bounded (by exact h.of_same rfl rfl) _) h)
    (.ite (.ite (State.raise_bounded (by exact h.of_same rfl rfl) _ none) h) h)

theorem inputChecks_bounded : (inputChecks s).Bounded := by
  unfold inputChecks
  extract_lets d disagree r t park u
  have ht : t.Bounded := State.report_bounded (by exact h.of_same rfl rfl) _ _
  have hu : u.Bounded := ht
  exact .ite (.ite hu (State.raise_bounded hu _ none)) (State.reportInactive_bounded hu _)

theorem chargingStep_bounded (park closed : Bool) : (chargingStep park closed s).Bounded := by
  refine .ite (State.reportInactive_bounded (by exact h.of_same rfl rfl) _)
    (.ite (.ite (State.reportInactive_bounded (by exact h.of_same rfl rfl) _) ?_) h)
  split
  · exact h
  · exact .ite (State.raise_bounded h _ none) h

theorem breakaway_bounded : (breakaway s).Bounded := State.raise_bounded (by exact h.of_same rfl rfl) _ none

theorem readyStep_bounded (park closed : Bool) : (readyStep park closed s).Bounded :=
  .ite h (.ite (breakaway_bounded (by exact h.of_same rfl rfl)) h)

theorem lostStep_bounded (closed : Bool) : (lostStep closed s).Bounded :=
  .ite (State.clearLatch_bounded (by exact h.of_same rfl rfl)) h

theorem supplyStage_bounded (park closed : Bool) : (supplyStage park closed s).Bounded := by
  unfold supplyStage
  split
  · exact h
  · exact .ite h h
  · exact chargingStep_bounded h park closed
  · exact readyStep_bounded h park closed
  · exact lostStep_bounded h closed

theorem deviationStage_bounded : (deviationStage s).Bounded := State.report_bounded (by exact h.of_same rfl rfl) _ _

theorem brakeStep_bounded (inp : BrakeInputs) : (brakeStep inp s).Bounded := by
  unfold brakeStep
  extract_lets raw read braked t
  have hread : read.Bounded := h.of_same (by simp [read]) (by simp [read])
  have hdemanded : (demandStage inp.pedalLeft inp.pedalRight inp.parkApplied (transducerStage raw read)).Bounded :=
    (transducerStage_bounded hread raw).of_same (by simp) (by simp)
  have hbraked : braked.Bounded := inputChecks_bounded hdemanded
  have hline : (lineCommand (supplyStage inp.parkApplied inp.supplyClosed braked)).Bounded :=
    (supplyStage_bounded hbraked inp.parkApplied inp.supplyClosed).of_same (by simp) (by simp)
  have ht : t.Bounded := .ite (deviationStage_bounded hline) hbraked
  exact ht.of_same (by simp) (by simp)

/-! ### The links' state frames -/

theorem receiveEngineReport_bounded (data : List Byte) : (receiveEngineReport data s).Bounded := by
  refine .ite ?_ h
  split <;> exact h

theorem receiveDemandA_bounded (data : List Byte) : (receiveDemandA data s).Bounded := by
  refine .ite ?_ h
  split <;> exact h

theorem receiveDemandB_bounded (data : List Byte) : (receiveDemandB data s).Bounded := by
  refine .ite ?_ h
  split <;> exact h

/-! ### The power states and the starts -/

omit h in
/-- A start has nothing queued and its mailboxes empty (R174). -/
theorem startFrom_bounded (pending : List Instr) (free now : Nat) (b : BuildRecord) (mem : List Host.Cell) (risen : Bool) :
    (startFrom pending free now b mem risen).Bounded :=
  (State.bounded_iff _).mpr ⟨fun l => by cases l <;> rfl, List.nodup_nil⟩

omit h in
theorem unpowered_bounded (mask : List Byte) : (unpowered mask s).Bounded :=
  (State.bounded_iff _).mpr ⟨fun l => by cases l <;> rfl, List.nodup_nil⟩

theorem openWindow_bounded : (openWindow s).Bounded := h

theorem ignitionOff_bounded : (ignitionOff s).Bounded := by
  unfold ignitionOff
  extract_lets t
  have ht : t.Bounded := h
  split
  · exact returnAtShutdown_bounded (by exact ht.of_same rfl rfl)
  all_goals exact ht

theorem ignitionOn_bounded : (ignitionOn s).Bounded := by
  unfold ignitionOn
  dsimp only
  split <;> exact h

theorem judgeIgnition_bounded (high : Bool) : (judgeIgnition high s).Bounded := by
  unfold judgeIgnition
  extract_lets low up t
  have ht : t.Bounded := h
  exact .ite (ignitionOff_bounded ht) (.ite (ignitionOn_bounded ht) ht)

theorem endFlush_bounded (rbs : List ReadBack) : (endFlush rbs s).Bounded :=
  .ite (startFrom_bounded _ _ _ _ _ _) (h.of_same (by simp) (by simp))

theorem judgePhase_bounded (rbs : List ReadBack) : (judgePhase rbs s).Bounded := by
  unfold judgePhase
  split
  · exact .ite (handOffsets_bounded (by exact h.of_same rfl rfl)) h
  · exact .ite (endFlush_bounded h rbs) h
  all_goals exact h

theorem powerStep_bounded (ignition : Bool) (rbs : List ReadBack) : (powerStep ignition rbs s).Bounded :=
  have hjudged := judgeIgnition_bounded h ignition
  .ite (judgePhase_bounded hjudged rbs) hjudged

theorem applySupply_bounded (ignition : Bool) : (applySupply ignition s).Bounded := by
  unfold applySupply
  split
  · exact .ite (openWindow_bounded h) h
  · exact .ite (openWindow_bounded h) h
  all_goals exact h

/-! ### The service line -/

theorem writeCalField_bounded (k : Key) (i : Nat) (v : Int) : (writeCalField k i v s).1.Bounded := by
  unfold writeCalField
  split
  · exact State.handWrite_bounded h _
  · exact h

theorem writeOffset_bounded (i : Nat) (v : Int) : (writeOffset i v s).1.Bounded := by
  unfold writeOffset
  split
  · split
    · exact changeWorking_bounded h _ _
    · exact h
  · exact h

theorem putItem_bounded (item : Nat) (v : Int) : (putItem item v s).1.Bounded := by
  unfold putItem
  split
  · exact h
  · split
    · exact h
    · split
      · exact writeOffset_bounded h _ v
      · split
        · exact writeCalField_bounded h _ _ v
        · exact h

theorem judgeWrite_bounded (item : Nat) (value : List Byte) : (judgeWrite item value s).1.Bounded := by
  unfold judgeWrite
  split
  · exact h
  · split
    · exact h
    · split
      · exact putItem_bounded h item _
      · exact h

theorem judgeTake_bounded (code : Nat) : (judgeTake code s).Bounded := by
  have hanswered {t : State} (ht : t.Bounded) (r : Option Reason) : (t.answerResult r).Bounded :=
    ht.of_same (by simp) (by simp)
  unfold judgeTake
  split
  · exact h.of_same (by simp) (by simp)
  next f _ =>
    split
    · exact hanswered h none
    · exact h.of_same (by simp) (by simp)
    all_goals exact hanswered (State.seize_bounded h f .svc) none

theorem unlockedOnly_bounded {f : State → State} (hf : (f s).Bounded) : (unlockedOnly s f).Bounded :=
  .ite hf (h.of_same (by simp) (by simp))

theorem withCalib_bounded {f : State → State × Option Reason} (hf : (f s).1.Bounded) : (withCalib s f).Bounded :=
  .ite (hf.of_same (by simp [answered]) (by simp [answered])) (h.of_same (by simp) (by simp))

theorem answerSent_bounded (rbs : List ReadBack) : (answerSent rbs s).Bounded := .ite (.ite (startFrom_bounded _ _ _ _ _ _) h) h

/-! ### Every command -/

theorem State.event_bounded (dt : Nat) {f : State → State} (hf : ∀ u : State, u.Bounded → (f u).Bounded) :
    (s.event dt f).Bounded := .ite (hf (s.advance dt) h) h

/-- Every command keeps the bounds: what it does to a link or to the store queue by the lemmas above, and any other leaves
both. -/
theorem exec_bounded {c : Instr} {t : State} (he : exec c s = .next t) : t.Bounded := by
  cases c with
  | speedSample dt pedal => exact Host.Outcome.next.inj he ▸ State.event_bounded h dt fun u hu => speedSample_bounded hu pedal
  | authorityReview dt => exact Host.Outcome.next.inj he ▸ State.event_bounded h dt fun u hu => authorityReview_bounded hu
  | implAuthorityRequest dt => exact Host.Outcome.next.inj he ▸ State.event_bounded h dt fun u hu => takeRequest_bounded hu
  | implAuthorityKeep dt => exact Host.Outcome.next.inj he ▸ State.event_bounded h dt fun u hu => takeKeep_bounded hu
  | implAuthorityRelease dt => exact Host.Outcome.next.inj he ▸ State.event_bounded h dt fun u hu => takeRelease_bounded hu
  | pendingTimeout dt f => exact Host.Outcome.next.inj he ▸ State.event_bounded h dt fun u hu => pendingTimeout_bounded hu f
  | leaseLapse dt f => exact Host.Outcome.next.inj he ▸ State.event_bounded h dt fun u hu => leaseLapse_bounded hu f
  | shiftStep dt pedal => exact Host.Outcome.next.inj he ▸ State.event_bounded h dt fun u hu => shiftStep_bounded hu pedal
  | cabCommandGearUp dt => exact Host.Outcome.next.inj he ▸ State.event_bounded h dt fun u hu => takeGearUp_bounded hu
  | cabCommandGearDown dt => exact Host.Outcome.next.inj he ▸ State.event_bounded h dt fun u hu => takeGearDown_bounded hu
  | cabCommandDirection dt => exact Host.Outcome.next.inj he ▸ State.event_bounded h dt fun u hu => takeDirection_bounded hu
  | cabCommandAck dt => exact Host.Outcome.next.inj he ▸ State.event_bounded h dt fun u hu => takeAck_bounded hu
  | implSpeed dt => exact Host.Outcome.next.inj he ▸ State.event_bounded h dt fun u hu => takeImplSpeed_bounded hu
  | channelStep dt amps volts =>
    exact Host.Outcome.next.inj he ▸ State.event_bounded h dt fun u hu => channelStep_bounded hu amps volts
  | oilTimer dt temp => exact Host.Outcome.next.inj he ▸ State.event_bounded h dt fun u hu => oilTimer_bounded hu temp
  | runStep dt pedal => exact Host.Outcome.next.inj he ▸ State.event_bounded h dt fun u hu => runStep_bounded hu pedal
  | slotProgramComplete dt rb =>
    exact Host.Outcome.next.inj he ▸ State.event_bounded h dt fun u hu => .ite (slotProgramEnds_bounded hu rb) hu
  | voidProgramComplete dt =>
    exact Host.Outcome.next.inj he ▸ State.event_bounded h dt fun u hu => .ite (voidProgramEnds_bounded hu) hu
  | pageEraseComplete dt rb =>
    exact Host.Outcome.next.inj he ▸ State.event_bounded h dt fun u hu => .ite (pageEraseEnds_bounded hu rb) hu
  | headerProgramComplete dt rb =>
    exact Host.Outcome.next.inj he ▸ State.event_bounded h dt fun u hu => .ite (headerProgramEnds_bounded hu rb) hu
  | storeDrained dt =>
    exact Host.Outcome.next.inj he ▸ State.event_bounded h dt fun u hu => .ite (endFlush_bounded hu []) hu
  | axleStep dt closed => exact Host.Outcome.next.inj he ▸ State.event_bounded h dt fun u hu => axleStep_bounded hu closed
  | implAxle dt => exact Host.Outcome.next.inj he ▸ State.event_bounded h dt fun u hu => takeImplAxle_bounded hu
  | hitchStep dt inp => exact Host.Outcome.next.inj he ▸ State.event_bounded h dt fun u hu => hitchStep_bounded hu inp
  | implHitchSetpoint dt => exact Host.Outcome.next.inj he ▸ State.event_bounded h dt fun u hu => takeSetpoint_bounded hu
  | implHitchRaise dt => exact Host.Outcome.next.inj he ▸ State.event_bounded h dt fun u hu => takeQuick_bounded hu _
  | implHitchWork dt => exact Host.Outcome.next.inj he ▸ State.event_bounded h dt fun u hu => takeQuick_bounded hu _
  | hitchStatus dt => exact Host.Outcome.next.inj he ▸ State.event_bounded h dt fun u hu => State.placeMail_bounded hu _ _ _
  | brakeStep dt inp => exact Host.Outcome.next.inj he ▸ State.event_bounded h dt fun u hu => brakeStep_bounded hu inp
  | trailerStatus dt => exact Host.Outcome.next.inj he ▸ State.event_bounded h dt fun u hu => State.placeMail_bounded hu _ _ _
  | entryRemoval dt code => exact Host.Outcome.next.inj he ▸ State.event_bounded h dt fun u hu => entryRemoval_bounded hu code
  | powerStep dt ignition rbs =>
    have hadvanced : (s.advance dt).Bounded := h
    exact Host.Outcome.next.inj he ▸ .ite (powerStep_bounded hadvanced ignition rbs) h
  | supplyApplied dt ignition =>
    have hadvanced : (s.advance dt).Bounded := h
    exact Host.Outcome.next.inj he ▸ applySupply_bounded hadvanced ignition
  | strapWindowEnd dt readings => exact Host.Outcome.next.inj he ▸ .ite (startFrom_bounded _ _ _ _ _ _) h
  | linkCheck dt => exact Host.Outcome.next.inj he ▸ State.event_bounded h dt fun u hu => linkCheck_bounded hu
  | engineReport dt data =>
    exact Host.Outcome.next.inj he ▸ State.event_bounded h dt fun u hu => receiveEngineReport_bounded hu data
  | operatorDemandA dt data =>
    exact Host.Outcome.next.inj he ▸ State.event_bounded h dt fun u hu => receiveDemandA_bounded hu data
  | operatorDemandB dt data =>
    exact Host.Outcome.next.inj he ▸ State.event_bounded h dt fun u hu => receiveDemandB_bounded hu data
  | eventFrameReceived dt l ident data =>
    exact Host.Outcome.next.inj he ▸ State.event_bounded h dt fun u hu => receiveEvent_bounded hu l ident data
  | frameSent dt l => exact Host.Outcome.next.inj he ▸ State.event_bounded h dt fun u hu => frameSent_bounded hu l
  | reportTimer dt => exact Host.Outcome.next.inj he ▸ State.event_bounded h dt fun u hu => reportTimer_bounded hu
  | busOff dt l => exact Host.Outcome.next.inj he ▸ State.event_bounded h dt fun u hu => goBusOff_bounded hu l
  | linkRejoin dt l => exact Host.Outcome.next.inj he ▸ State.event_bounded h dt fun u hu => linkRejoin_bounded hu l
  | answerSent dt rbs => exact Host.Outcome.next.inj he ▸ State.event_bounded h dt fun u hu => answerSent_bounded hu rbs
  | lossOfSupply dt untouched => exact Host.Outcome.next.inj he ▸ unpowered_bounded _
  | writeItem dt =>
    refine Host.Outcome.next.inj he ▸ State.event_bounded h dt fun u hu => withFrame_of_judged u hu fun x t hx => ?_
    split at hx
    next item value =>
      have hwritten := judgeWrite_bounded hu item value
      exact Option.some.inj hx ▸ hwritten.of_same (by simp [answered]) (by simp [answered])
    · cases hx
  | storeNow dt =>
    refine Host.Outcome.next.inj he ▸ State.event_bounded h dt fun u hu => withFrame_of_judged u hu fun x t hx => ?_
    split at hx
    · exact Option.some.inj hx ▸ unlockedOnly_bounded hu ((handOffsets_bounded hu).of_same (by simp) (by simp))
    · cases hx
  | calRun dt pedal | calAbort dt =>
    refine Host.Outcome.next.inj he ▸ State.event_bounded h dt fun u hu => withFrame_of_judged u hu fun x t hx => ?_
    split at hx
    · exact Option.some.inj hx ▸ unlockedOnly_bounded hu (withCalib_bounded hu (hu.of_same (by simp) (by simp)))
    · cases hx
  | take dt =>
    refine Host.Outcome.next.inj he ▸ State.event_bounded h dt fun u hu => withFrame_of_judged u hu fun x t hx => ?_
    split at hx
    · exact Option.some.inj hx ▸ unlockedOnly_bounded hu (judgeTake_bounded hu _)
    · cases hx
  | release dt | restart dt =>
    refine Host.Outcome.next.inj he ▸ State.event_bounded h dt fun u hu => withFrame_of_judged u hu fun x t hx => ?_
    split at hx
    · exact Option.some.inj hx ▸ unlockedOnly_bounded hu (hu.of_same (by simp) (by simp))
    · cases hx
  | sync dt | key dt | cancel dt | lock dt | readItem dt =>
    refine Host.Outcome.next.inj he ▸ State.event_bounded h dt fun u hu => withFrame_of_judged u hu fun x t hx => ?_
    split at hx
    · exact Option.some.inj hx ▸ hu.of_same (by simp) (by simp)
    · cases hx
  | pickupEdge dt _ _ | serviceByte dt _ | serviceGapExpiry dt | answerStart dt | silenceExpiry dt | syncBlockExpiry dt
    | serviceLineFirstRise dt =>
    exact Host.Outcome.next.inj he ▸ State.event_bounded h dt fun u hu => hu.of_same (by simp) (by simp)

end

end Sys2Proof.Machine

/-! ### The obligation -/

namespace Sys2Proof.Proofs

/-- Settles O6: a step runs the command at the front of the queue, which keeps the bounds. -/
theorem queuesStayBounded : Obligations.QueuesStayBounded := by
  intro s t hs h
  unfold step at h
  split at h
  · exact Host.Outcome.next.inj h ▸ hs
  next c rest _ =>
    have hrest : State.Bounded { s with pending := rest } := hs
    exact exec_bounded hrest h

end Sys2Proof.Proofs
end

section
/-! PROOFS. The bytes that the store's operations touch (R99; log 7), and a loss of the supply (R93, R168). -/

open Sys2Proof Sys2Proof.Machine

namespace Sys2Proof.Machine

/-! ### Lengths -/

@[simp] theorem Memory.readBytes_length (m : List Host.Cell) (a k : Nat) : (Memory.readBytes m a k).length = k := by
  induction k generalizing a with
  | zero => rfl
  | succ k ih => simp [Memory.readBytes, ih]

@[simp] theorem slotBytes_length (m : List Host.Cell) (p : Page) (slot : Nat) : (slotBytes m p slot).length = 16 :=
  Memory.readBytes_length m _ 16

theorem headerWith_length (m : List Host.Cell) (p : Page) {first : Nat} {bs : List Byte} (h : first + bs.length ≤ 16) :
    (headerWith m p first bs).length = 16 := by
  simp only [headerWith, List.length_append, List.length_take, List.length_drop, slotBytes_length]
  omega

@[simp] theorem receivingHeader_length (m : List Host.Cell) (p : Page) : (receivingHeader m p).length = 16 :=
  headerWith_length m p (by decide)

@[simp] theorem leBytes_length (k n : Nat) : (leBytes k n).length = k := by
  induction k generalizing n with
  | zero => rfl
  | succ k ih => simp [leBytes, ih]

@[simp] theorem activeHeader_length (m : List Host.Cell) (p : Page) (seq : Nat) : (activeHeader m p seq).length = 16 :=
  headerWith_length m p (by simp [withCheck])

@[simp] theorem spentHeader_length (m : List Host.Cell) (p : Page) : (spentHeader m p).length = 16 :=
  headerWith_length m p (by decide)

theorem tornBytes_length_le (old meant mask : List Byte) : (tornBytes old meant mask).length ≤ meant.length := by
  induction old generalizing meant mask with
  | nil => exact Nat.zero_le _
  | cons o os ih =>
    cases meant with
    | nil => exact Nat.le_refl _
    | cons m ms => exact Nat.succ_le_succ (ih ms mask.tail)

@[simp] theorem tornErase_length (old mask : List Byte) : (tornErase old mask).length = old.length := by
  induction old generalizing mask with
  | nil => rfl
  | cons o os ih => simp [tornErase, ih]

@[simp] theorem slotBase_zero (p : Page) : slotBase p 0 = pageBase p := rfl

/-! ### An operation cut short -/

/-- Outside `n` bytes at `lo` two memories read alike. -/
def Memory.SameOutside (lo n : Nat) (m k : List Host.Cell) : Prop :=
  ∀ a, a < lo ∨ lo + n ≤ a → Memory.read k a = Memory.read m a

/-- A program cut short leaves the bytes outside those it means to write. -/
theorem cutShort_sameOutside_of_program {t : StoreState} (h : Memory.wf t.mem = true) (mask : List Byte) {o : StoreOp}
    {lo : Nat} {bs : List Byte} (ho : t.op = some o) (hm : meantBytes t.mem o = some (lo, bs)) :
    Memory.SameOutside lo bs.length t.mem (cutShort mask t) := by
  intro a ha
  have hshort := tornBytes_length_le (Memory.readBytes t.mem lo bs.length) bs mask
  simp only [cutShort, ho, hm]
  exact Memory.read_writeBytes_outside h _ _ _ (by omega)

/-- An erase cut short leaves the bytes outside its page. -/
theorem cutShort_sameOutside_of_erase {t : StoreState} (h : Memory.wf t.mem = true) (mask : List Byte) {o : StoreOp}
    {p : Page} (ho : t.op = some o) (hm : meantBytes t.mem o = none) (hp : erasedPage o = some p) :
    Memory.SameOutside (pageBase p) 1024 t.mem (cutShort mask t) := by
  intro a ha
  simp only [cutShort, ho, hm, hp]
  exact Memory.read_writeBytes_outside h _ _ _ (by simpa using ha)

theorem cutShort_of_no_op {t : StoreState} (mask : List Byte) (h : t.op = none) : cutShort mask t = t.mem := by
  simp [cutShort, h]

/-- A loss of the supply cuts the operation under way short, the bits of some mask untouched. -/
theorem unpowered_mem (mask : List Byte) (s : State) : ∃ cut, (unpowered mask s).store.mem = cutShort cut s.store := by
  cases hdone : s.opDone with
  | true => exact ⟨[], by simp [unpowered, hdone, State.fresh]⟩
  | false => exact ⟨mask, by simp [unpowered, hdone, State.fresh]⟩

end Sys2Proof.Machine

/-! ### The obligation -/

namespace Sys2Proof.Proofs

/-- Settles O31: the part starts afresh without power, and its memory is the one of the operation cut short. -/
theorem lossOfSupplyKeepsTheMemory : Obligations.LossOfSupplyKeepsTheMemory := by
  intro s dt mask
  obtain ⟨cut, hcut⟩ := unpowered_mem mask (s.advance dt)
  have hmem : (unpowered mask (s.advance dt)).store.mem = cutShort cut s.store := hcut
  refine ⟨unpowered mask (s.advance dt), rfl, rfl, rfl, fun i => (initialChannels_still _ _ i).2,
    fun hnone => hmem.trans (cutShort_of_no_op cut hnone), fun hwf o ho => ?_⟩
  have hprogram {lo : Nat} {bs : List Byte} (hm : meantBytes s.store.mem o = some (lo, bs)) :
      Memory.SameOutside lo bs.length s.store.mem (unpowered mask (s.advance dt)).store.mem :=
    hmem ▸ cutShort_sameOutside_of_program hwf cut ho hm
  have herase {p : Page} (hm : meantBytes s.store.mem o = none) (hp : erasedPage o = some p) :
      Memory.SameOutside (pageBase p) 1024 s.store.mem (unpowered mask (s.advance dt)).store.mem :=
    hmem ▸ cutShort_sameOutside_of_erase hwf cut ho hm hp
  cases o with
  | writeSlot p slot bytes second => exact fun hlen => hlen ▸ hprogram rfl
  | compactCopy p slot bytes rest second => exact fun hlen => hlen ▸ hprogram rfl
  | writeVoid p slot retry => exact hprogram rfl
  | compactVoid p slot retry rest => exact hprogram rfl
  | compactErase p second => exact herase rfl rfl
  | formatErase second => exact herase rfl rfl
  | _ =>
    have hheader := hprogram rfl
    simp only [receivingHeader_length, activeHeader_length, spentHeader_length, slotBase_zero] at hheader
    exact hheader

end Sys2Proof.Proofs
end

section
/-! PROOFS. The oil temperature in use and fault 27 (05, 5.2, R89). -/

open Sys2Proof Sys2Proof.Machine

namespace Sys2Proof.Machine

/-! ### A check with two holds -/

/-- An inactive fault whose bad condition stands since a time becomes active once it has stood for the first duration. -/
theorem holdCheck_raises_iff {now dRaise dClear since : Nat} {good : Bool} {h : HoldCheck} (hsince : h.bad = some since) :
    (holdCheck now false true good dRaise dClear h).2.after false = true ↔ since + dRaise ≤ now := by
  by_cases hdue : since + dRaise ≤ now <;> simp [holdCheck, holdSince, passed, hsince, hdue, Verdict.after]

/-- An active fault whose good condition stands since a time becomes inactive once it has stood for the second duration. -/
theorem holdCheck_clears_iff {now dRaise dClear since : Nat} {bad : Bool} {h : HoldCheck} (hsince : h.good = some since) :
    (holdCheck now true bad true dRaise dClear h).2.after true = false ↔ since + dClear ≤ now := by
  by_cases hdue : since + dClear ≤ now <;> simp [holdCheck, holdSince, passed, hsince, hdue, Verdict.after]

/-! ### The oil timer -/

/-- A reading within the range of R89. -/
def oilPlausible (temp : Int) : Bool := decide (-40 ≤ temp) && decide (temp ≤ 150)

theorem oilPlausible_iff {temp : Int} : oilPlausible temp = true ↔ -40 ≤ temp ∧ temp ≤ 150 := by
  simp [oilPlausible]

section
variable (temp : Int) (s : State)

/-- The check of fault 27 at a reading. -/
def oilCheck : HoldCheck × Verdict :=
  holdCheck s.now (s.active .oilTemperature) (!oilPlausible temp) (oilPlausible temp) 1000 1000
    { bad := s.store.oilBadSince, good := s.store.oilGoodSince }

/-- Of the store a reading changes the oil records. -/
theorem oilTimer_store : (oilTimer temp s).store =
    { s.store with
      oil := if oilPlausible temp then some temp else s.store.oil
      oilBadSince := (oilCheck temp s).1.bad
      oilGoodSince := (oilCheck temp s).1.good } := by
  simp [oilTimer, oilCheck, oilPlausible]

theorem oilTimer_active :
    (oilTimer temp s).active .oilTemperature = (oilCheck temp s).2.after (s.active .oilTemperature) :=
  State.report_active _ _ _

end

end Sys2Proof.Machine

/-! ### The obligation -/

namespace Sys2Proof.Proofs

/-- Settles O26: the reading in use is chosen at the sample, and fault 27 follows the check of the two holds. -/
theorem oilTemperature : Obligations.OilTemperature := by
  intro s dt temp hrun good
  refine ⟨oilTimer temp (s.advance dt), exec_of_running rfl hrun, fun hgood => ?_, fun hbad => ?_, fun u hbad hoff hsince => ?_,
    fun u hgood hon hsince => ?_, ?_, by simp⟩
  · rw [oilTimer_store, if_pos (oilPlausible_iff.mpr hgood)]
  · rw [oilTimer_store, if_neg (mt oilPlausible_iff.mp hbad)]
    rfl
  · have himplausible : oilPlausible temp = false := Bool.eq_false_iff.mpr (mt oilPlausible_iff.mp hbad)
    have hoff' : (s.advance dt).active .oilTemperature = false := hoff
    rw [oilTimer_active, oilCheck, himplausible, hoff']
    exact holdCheck_raises_iff hsince
  · have hon' : (s.advance dt).active .oilTemperature = true := hon
    rw [oilTimer_active, oilCheck, oilPlausible_iff.mpr hgood, hon']
    exact holdCheck_clears_iff hsince
  · rw [oilTimer_store]
    rfl

end Sys2Proof.Proofs
end

section
/-! PROOFS. The calibration run (05, 5.3): a run step aborts on park release and raises the pressure of KISS_SEARCH (R95, R98);
CAL_RUN begins a run and CAL_ABORT ends one short of WRITE (R94, R98). -/

open Sys2Proof Sys2Proof.Machine

namespace Sys2Proof.Machine

/-! ### The run step -/

section
variable {s : State} {c : Clutch} {pedal : Nat}

/-- A run short of WRITE fails at a step at which an abort condition holds. -/
theorem runStep_aborts {r : RunReason} (hclutch : s.run.clutch = some c) (hearly : s.run.early)
    (hreason : abortReason pedal s = some r) : runStep pedal s = s.abortRun r := by
  rcases hearly with hphase | hphase | hphase <;> simp [runStep, hclutch, hphase, hreason]

/-- A step of KISS_SEARCH at which no abort condition holds. -/
theorem runStep_of_kissSearch (hclutch : s.run.clutch = some c) (hphase : s.run.phase = .kissSearch)
    (hreason : abortReason pedal s = none) : runStep pedal s = kissStep s := by
  simp [runStep, hclutch, hphase, hreason]

theorem abortReason_of_parkReleased (h : s.brake.demand.parkApplied = false) : abortReason pedal s = some .parkReleased := by
  simp [abortReason, h]

theorem abortReason_eq_none (hpark : s.brake.demand.parkApplied = true) (hground : s.speed.set.vGround < 50)
    (heng : 800 ≤ s.speed.set.eng) (hpedal : pedal ≤ 100) (hgate : s.gateOpen .trans = true) (hpower : s.power.power = .run) :
    abortReason pedal s = none := by
  simp [abortReason, hpark, hgate, hpower, Nat.not_le.mpr hground, Nat.not_lt.mpr heng, Nat.not_lt.mpr hpedal]

/-- An abort of a run short of WRITE lets go of the clutches. -/
theorem State.abortRun_seq_of_early (r : RunReason) (h : s.run.early) : (s.abortRun r).seq = s.seq.releaseAll s.now := by
  rcases h with h | h | h <;> simp [State.abortRun, State.endRun, h]

/-- TIN has not fallen and the pressure has stood for 200 ms: it rises by 20, to 800 (R95). -/
theorem kissStep_rises (htin : s.run.startTin < s.speed.set.tin + 60) (hdue : s.run.lastChange + 200 ≤ s.now)
    (hnamed : s.run.named < 800) :
    kissStep s = { s with run := { s.run with named := min 800 (s.run.named + 20), lastChange := s.now } } := by
  simp [kissStep, Nat.not_le.mpr htin, hdue, Nat.not_le.mpr hnamed, State.onRun]

/-- At 800 the search ends without a kiss pressure (R95). -/
theorem kissStep_fails (htin : s.run.startTin < s.speed.set.tin + 60) (hdue : s.run.lastChange + 200 ≤ s.now)
    (hnamed : 800 ≤ s.run.named) : kissStep s = s.endRun (some .kissNotFound) := by
  simp [kissStep, Nat.not_le.mpr htin, hdue, hnamed]

end

/-- An abort changes the run and the sequencer. -/
theorem State.abortRun_eq (s : State) (r : RunReason) :
    s.abortRun r = { s with run := (s.abortRun r).run, seq := (s.abortRun r).seq } := by
  unfold State.abortRun
  split <;> rfl

/-! ### CAL_RUN and CAL_ABORT -/

section
variable {s : State} {dt : Nat} (hrun : s.running = true)
include hrun

theorem exec_calRun_of_frame {code pedal : Nat} (h : s.svc.frame = some (.calRun code)) :
    exec (.calRun dt pedal) s = .next (unlockedOnly (s.advance dt) (fun u => withCalib u (judgeCalRun code pedal))) := by
  rw [exec_of_running rfl hrun, withFrame, State.advance_svc, h]; rfl

theorem exec_calAbort_of_frame (h : s.svc.frame = some .calAbort) :
    exec (.calAbort dt) s = .next (unlockedOnly (s.advance dt) (fun u => withCalib u judgeCalAbort)) := by
  rw [exec_of_running rfl hrun, withFrame, State.advance_svc, h]; rfl

end

theorem withCalib_of_svc {s : State} {f : State → State × Option Reason} (h : s.holder .calib = .svc) :
    withCalib s f = answered (f s) := if_pos h

/-- The code of a clutch's key names the clutch. -/
theorem find_clutch_of_code (c : Clutch) :
    allClutches.find? (fun d => decide ((Key.clutch d).code = (Key.clutch c).code)) = some c := by
  cases c <;> rfl

/-- The conditions of CAL_RUN (R94). -/
theorem runInhibited_eq_false {s : State} {pedal : Nat} (hpark : s.brake.demand.parkApplied = true)
    (hground : s.speed.set.vGround < 50) (hlow : 900 ≤ s.speed.set.eng) (hhigh : s.speed.set.eng ≤ 1600)
    (hgear : s.seq.published.gear = .neutral) (hkind : s.seq.published.shiftKind = none) (hpedal : pedal ≤ 100)
    (hgate : s.gateOpen .trans = true) (hpower : s.power.power = .run) : runInhibited pedal s = false := by
  simp [runInhibited, within, hpark, hgear, hkind, hgate, hpower, hground, hlow, hhigh, hpedal]

/-- CAL_RUN that meets its conditions begins the run of the clutch it names. -/
theorem judgeCalRun_begins {s : State} {c : Clutch} {pedal : Nat} (hfree : s.runInProgress = false)
    (hmay : runInhibited pedal s = false) : judgeCalRun (Key.clutch c).code pedal s = (beginRun c s, none) := by
  simp [judgeCalRun, find_clutch_of_code, hfree, hmay]

section
variable {s : State}

theorem Run.not_write_of_early {r : Run} (h : r.early) : r.phase ≠ .write := by
  rcases h with h | h | h <;> simp [h]

theorem judgeCalAbort_of_write (h : s.run.phase = .write) : judgeCalAbort s = (s, some .busy) := if_pos h

theorem judgeCalAbort_of_not_write (h : s.run.phase ≠ .write) : judgeCalAbort s = (s.abortRun .aborted, none) := if_neg h

/-- CAL_ABORT changes the run and the sequencer. -/
theorem judgeCalAbort_eq (s : State) :
    (judgeCalAbort s).1 = { s with run := (judgeCalAbort s).1.run, seq := (judgeCalAbort s).1.seq } := by
  by_cases h : s.run.phase = .write
  · rw [judgeCalAbort_of_write h]
  · rw [judgeCalAbort_of_not_write h]
    exact s.abortRun_eq .aborted

end

/-- An answer changes the service line alone. -/
theorem answered_eq (r : State × Option Reason) : answered r = { r.1 with svc := (answered r).svc } := by
  obtain ⟨t, _ | r⟩ := r <;> rfl

/-- An answer to a command that changed the run and the sequencer. -/
theorem answered_eq_of_run {s : State} {r : State × Option Reason} (h : r.1 = { s with run := r.1.run, seq := r.1.seq }) :
    answered r = { s with run := (answered r).run, seq := (answered r).seq, svc := (answered r).svc } := by
  refine (answered_eq r).trans ((congrArg (fun u : State => { u with svc := (answered r).svc }) h).trans ?_)
  obtain ⟨t, _ | o⟩ := r <;> rfl

end Sys2Proof.Machine

/-! ### The obligations -/

namespace Sys2Proof.Proofs

/-- Settles O32: park released comes first among the abort conditions, and KISS_SEARCH without an abort is its own step. -/
theorem runStepAbortsOrRaises : Obligations.RunStepAbortsOrRaises := by
  intro s dt pedal c hrun hclutch
  have hclutch' : (s.advance dt).run.clutch = some c := hclutch
  refine ⟨fun hearly hpark => ?_, fun hphase hpark hground heng hpedal hgate hpower htin hdue => ?_⟩
  · have hearly' : (s.advance dt).run.early := hearly
    have hstep := runStep_aborts hclutch' hearly' (abortReason_of_parkReleased (pedal := pedal) hpark)
    refine ⟨_, (exec_of_running rfl hrun).trans (congrArg _ hstep), ?_⟩
    rw [State.abortRun_of_early .parkReleased hearly', State.abortRun_seq_of_early .parkReleased hearly']
    refine ⟨rfl, rfl, rfl, rfl, rfl, fun k => ?_, rfl, rfl, rfl, ?_⟩
    · simp only [SeqState.releaseAll, clutch_get_mapWith]
      exact releaseClutch_state _ _
    · rw [← State.abortRun_of_early .parkReleased hearly', ← State.abortRun_seq_of_early .parkReleased hearly']
      exact State.abortRun_eq _ _
  · have hstep : runStep pedal (s.advance dt) = kissStep (s.advance dt) :=
      runStep_of_kissSearch hclutch' hphase (abortReason_eq_none hpark hground heng hpedal hgate hpower)
    refine ⟨kissStep (s.advance dt), (exec_of_running rfl hrun).trans (congrArg _ hstep), fun hlow => ?_, fun hhigh => ?_⟩
    · exact kissStep_rises htin hdue hlow
    · rw [kissStep_fails (s := s.advance dt) htin hdue hhigh]
      exact ⟨rfl, rfl⟩

/-- Settles O33: both commands are judged with the service line unlocked and CALIB at SVC. -/
theorem calRunAndCalAbort : Obligations.CalRunAndCalAbort := by
  intro s dt hrun hunlock hcalib
  have hcalib' : (s.advance dt).holder .calib = .svc := hcalib
  have hjudged (f : State → State × Option Reason) :
      unlockedOnly (s.advance dt) (fun u => withCalib u f) = answered (f (s.advance dt)) :=
    (unlockedOnly_of_unlocked (s := s.advance dt) hunlock).trans (withCalib_of_svc hcalib')
  refine ⟨fun c pedal hframe hfree hpark hground hlow hhigh hgear hkind hpedal hgate hpower => ?_, fun hframe => ?_⟩
  · have hbegun : judgeCalRun (Key.clutch c).code pedal (s.advance dt) = (beginRun c (s.advance dt), none) :=
      judgeCalRun_begins hfree (runInhibited_eq_false hpark hground hlow hhigh hgear hkind hpedal hgate hpower)
    refine ⟨answered (beginRun c (s.advance dt), none), ?_, rfl, rfl, rfl, rfl, rfl, rfl, rfl, fun k hk => ?_, fun k hk => ?_,
      rfl, rfl, State.answeredOk_of_answerResult _, rfl⟩
    · rw [exec_calRun_of_frame hrun hframe, hjudged, hbegun]
    · exact (clutch_get_mapWith ..).trans (if_neg hk)
    · exact (clutch_get_mapWith ..).trans (if_pos hk)
  · refine ⟨answered (judgeCalAbort (s.advance dt)), ?_, fun hearly => ?_, fun hphase => ?_, fun hphase => ?_, ?_⟩
    · rw [exec_calAbort_of_frame hrun hframe, hjudged]
    · have hearly' : (s.advance dt).run.early := hearly
      rw [judgeCalAbort_of_not_write (s := s.advance dt) (Run.not_write_of_early hearly)]
      have hfailed := State.abortRun_of_early .aborted hearly'
      exact ⟨congrArg Run.phase hfailed, congrArg Run.reason hfailed, congrArg Run.kiss hfailed,
        State.answeredOk_of_answerResult _⟩
    · rw [judgeCalAbort_of_write (s := s.advance dt) hphase]
      exact ⟨rfl, rfl, State.answeredRefused_of_answerRefused _ .busy⟩
    · have hlate : ¬ s.run.early := by rintro (h | h | h) <;> simp [h] at hphase
      have hwrite : s.run.phase ≠ .write := by rintro h; simp [h] at hphase
      rw [judgeCalAbort_of_not_write (s := s.advance dt) hwrite, State.abortRun_of_not_early (s := s.advance dt) _ hlate]
      exact ⟨rfl, rfl, State.answeredOk_of_answerResult _⟩
    · exact answered_eq_of_run (judgeCalAbort_eq _)

end Sys2Proof.Proofs
end

section
/-! PROOFS. The rules of the calibration store's queue (R101): which writes the store takes, where it begins them, what a write
that it hands leaves, and the latest payload of a key. -/

open Sys2Proof Sys2Proof.Machine

namespace Sys2Proof.Machine

/-! ### The latest payload (R101) -/

section
variable {s t : State} {k : Key}

/-- The entry of a key in the calibration in use is the calibration's. -/
theorem State.calEntry_congr (h : t.store.cal = s.store.cal) : t.calEntry k = s.calEntry k := by
  cases k <;> simp only [State.calEntry, State.clutchCal, State.hitchCal, State.trailerCal, State.speedCal, State.serviceKey, h]

theorem State.latestPayload_congr (hq : t.store.queue = s.store.queue) (hf : t.store.inFlight = s.store.inFlight)
    (hc : t.store.cal = s.store.cal) : t.latestPayload k = s.latestPayload k := by
  simp only [State.latestPayload, hq, hf, State.calEntry_congr hc]

theorem State.latestClutch_congr_payload {c : Clutch} (h : t.latestPayload (.clutch c) = s.latestPayload (.clutch c)) :
    t.latestClutch c = s.latestClutch c := by simp only [State.latestClutch, h]

/-- A queued write of the key is its latest payload. -/
theorem State.latestPayload_of_queued {w : Write} (h : s.store.queue.find? (fun x => decide (x.record.key = k)) = some w) :
    s.latestPayload k = some w.record := by simp [State.latestPayload, h]

/-- With no queued write of the key, the write in flight, if it is of the key. -/
theorem State.latestPayload_of_inFlight {w : Write} {b : Bool}
    (hq : s.store.queue.find? (fun x => decide (x.record.key = k)) = none) (hf : s.store.inFlight = some (w, b)) :
    s.latestPayload k = if w.record.key = k then some w.record else s.calEntry k := by
  simp [State.latestPayload, hq, hf]

/-- With no write of the key at all, its entry in use. -/
theorem State.latestPayload_of_none (hq : s.store.queue.find? (fun x => decide (x.record.key = k)) = none)
    (hf : s.store.inFlight = none) : s.latestPayload k = s.calEntry k := by simp [State.latestPayload, hq, hf]

theorem State.calEntry_key {r : CalRecord} (h : s.calEntry k = some r) : r.key = k := by
  cases k with
  | clutch c =>
    obtain ⟨v, -, rfl⟩ := Option.map_eq_some_iff.mp h
    rfl
  | hitch =>
    obtain ⟨v, -, rfl⟩ := Option.map_eq_some_iff.mp h
    rfl
  | _ =>
    obtain rfl := Option.some.inj h
    rfl

/-- The latest payload of a key is of that key. -/
theorem State.latestPayload_key {r : CalRecord} (h : s.latestPayload k = some r) : r.key = k := by
  cases hq : s.store.queue.find? (fun x => decide (x.record.key = k)) with
  | some w =>
    rw [State.latestPayload_of_queued hq] at h
    obtain rfl := Option.some.inj h
    simpa using List.find?_some hq
  | none =>
    cases hf : s.store.inFlight with
    | none => exact State.calEntry_key ((State.latestPayload_of_none hq hf).symm.trans h)
    | some f =>
      rw [State.latestPayload_of_inFlight hq hf] at h
      split at h
      next hkey => exact Option.some.inj h ▸ hkey
      next => exact State.calEntry_key h

/-- A clutch has a latest payload where its key has one. -/
theorem State.latestClutch_eq_some_iff {c : Clutch} {v : ClutchCal} :
    s.latestClutch c = some v ↔ s.latestPayload (.clutch c) = some (.clutch c v) := by
  unfold State.latestClutch
  cases h : s.latestPayload (.clutch c) with
  | none => simp
  | some r =>
    have hkey := State.latestPayload_key h
    cases r with
    | clutch d x =>
      obtain rfl : d = c := by simpa [CalRecord.key] using hkey
      simp
    | _ => simp [CalRecord.key] at hkey

end

/-! ### The idle store takes the head of the queue -/

/-- The store can take a write: nothing under way, and no write in flight. -/
def State.StoreFree (s : State) : Prop := s.store.op = none ∧ s.store.inFlight = none

/-- The head of the queue in flight. -/
def State.headTaken (s : State) (w : Write) (rest : List Write) : State :=
  s.onStore (fun t => { t with queue := rest, inFlight := some (w, false) })

section
variable {s : State} {w : Write} {rest : List Write} {p : Page}

/-- A write begins in the next free slot, with the next sequence number. -/
theorem startWrite_of_room {b : Bool} (hf : s.store.inFlight = some (w, b)) (hu : s.store.inUse = some p)
    (hroom : s.store.nextFree ≤ 63) : startWrite s =
      (s.onStore (fun t => { t with nextFree := s.store.nextFree + 1, nextSeq := s.store.nextSeq + 1 })).startOp
        (.writeSlot p s.store.nextFree (recordBytes w.record s.store.nextSeq) b) := by
  simp [startWrite, hf, hu, hroom]

/-- Without a free slot it begins with a compaction. -/
theorem startWrite_of_full {b : Bool} (hf : s.store.inFlight = some (w, b)) (hu : s.store.inUse = some p)
    (hfull : 63 < s.store.nextFree) : startWrite s = s.startOp (.compactErase p.other false) := by
  simp [startWrite, hf, hu, Nat.not_le.mpr hfull]

/-- With no page in use the write is dropped. -/
theorem startWrite_of_no_page (hu : s.store.inUse = none) : startWrite s = dropWrite s := by
  unfold startWrite dropWrite
  cases hf : s.store.inFlight with
  | none => simp
  | some f => simp [hu]

theorem startWrite_of_no_write (hf : s.store.inFlight = none) : startWrite s = s := by simp [startWrite, hf]

/-- A write that begins on a page in use leaves an operation under way. -/
theorem startWrite_op {b : Bool} (hf : s.store.inFlight = some (w, b)) (hu : s.store.inUse = some p) :
    (startWrite s).store.op ≠ none := by
  rcases Nat.lt_or_ge 63 s.store.nextFree with hfull | hroom
  · simp [startWrite_of_full hf hu hfull]
  · simp [startWrite_of_room hf hu hroom]

theorem takeNextUpTo_of_not_free (h : ¬ s.StoreFree) (n : Nat) : takeNextUpTo n s = s := by
  cases n with
  | zero => rfl
  | succ n =>
    unfold takeNextUpTo
    split
    next hop hf _ => exact absurd ⟨hop, hf⟩ h
    · rfl

/-- A store with an operation under way, or a write in flight, takes nothing. -/
theorem State.takeNext_of_not_free (h : ¬ s.StoreFree) : s.takeNext = s := takeNextUpTo_of_not_free h _

/-- An empty queue has nothing to take. -/
theorem State.takeNext_of_empty (h : s.store.queue = []) : s.takeNext = s := by simp [State.takeNext, h, takeNextUpTo]

theorem takeNextUpTo_of_free (h : s.StoreFree) (hq : s.store.queue = w :: rest) (n : Nat) :
    takeNextUpTo (n + 1) s = takeNextUpTo n (startWrite (s.headTaken w rest)) := by
  obtain ⟨hop, hf⟩ := h
  simp [takeNextUpTo, hop, hf, hq, State.headTaken]

/-- With a page in use the free store takes the head of the queue, and no more. -/
theorem State.takeNext_of_free (h : s.StoreFree) (hq : s.store.queue = w :: rest) (hu : s.store.inUse = some p) :
    s.takeNext = startWrite (s.headTaken w rest) := by
  rw [State.takeNext, hq, List.length_cons, takeNextUpTo_of_free h hq]
  exact takeNextUpTo_of_not_free (fun hfree => startWrite_op (s := s.headTaken w rest) rfl hu hfree.1) _

/-- With a page in use, what the store takes is its head, or nothing. -/
theorem State.takeNext_cases {motive : State → Prop} (hu : s.store.inUse ≠ none) (hnone : motive s)
    (htaken : ∀ w rest, s.StoreFree → s.store.queue = w :: rest → motive (startWrite (s.headTaken w rest))) :
    motive s.takeNext := by
  obtain ⟨p, hp⟩ := Option.ne_none_iff_exists'.mp hu
  by_cases hfree : s.StoreFree
  · cases hq : s.store.queue with
    | nil => exact (State.takeNext_of_empty hq).symm ▸ hnone
    | cons w rest => exact (State.takeNext_of_free hfree hq hp).symm ▸ htaken w rest hfree hq
  · exact (State.takeNext_of_not_free hfree).symm ▸ hnone

end

/-! ### What taking a write leaves -/

/-- From one state to another the store's queue, write in flight, operation, next slot and next sequence number alone
changed. -/
def State.OnlyQueues (s t : State) : Prop :=
  t = { s with store := { s.store with
    queue := t.store.queue, inFlight := t.store.inFlight, op := t.store.op, opEnd := t.store.opEnd
    nextFree := t.store.nextFree, nextSeq := t.store.nextSeq } }

section
variable {s t : State}

theorem State.OnlyQueues.cal (h : s.OnlyQueues t) : t.store.cal = s.store.cal := h ▸ rfl
theorem State.OnlyQueues.inUse (h : s.OnlyQueues t) : t.store.inUse = s.store.inUse := h ▸ rfl
theorem State.OnlyQueues.working (h : s.OnlyQueues t) : t.store.working = s.store.working := h ▸ rfl
theorem State.OnlyQueues.saved (h : s.OnlyQueues t) : t.store.saved = s.store.saved := h ▸ rfl

theorem State.OnlyQueues.eq_store (h : s.OnlyQueues t) : t = { s with store := t.store } := by
  unfold State.OnlyQueues at h
  rw [h]

theorem startWrite_onlyQueues (hu : s.store.inUse ≠ none) : s.OnlyQueues (startWrite s) := by
  obtain ⟨p, hp⟩ := Option.ne_none_iff_exists'.mp hu
  cases hf : s.store.inFlight with
  | none =>
    rw [startWrite_of_no_write hf]
    rfl
  | some f =>
    rcases Nat.lt_or_ge 63 s.store.nextFree with hfull | hroom
    · rw [startWrite_of_full hf hp hfull]
      rfl
    · rw [startWrite_of_room hf hp hroom]
      rfl

theorem startWrite_inFlight (hu : s.store.inUse ≠ none) : (startWrite s).store.inFlight = s.store.inFlight := by
  obtain ⟨p, hp⟩ := Option.ne_none_iff_exists'.mp hu
  cases hf : s.store.inFlight with
  | none => rw [startWrite_of_no_write hf, hf]
  | some f =>
    rcases Nat.lt_or_ge 63 s.store.nextFree with hfull | hroom
    · rw [startWrite_of_full hf hp hfull]
      exact hf
    · rw [startWrite_of_room hf hp hroom]
      exact hf

theorem State.takeNext_onlyQueues (hu : s.store.inUse ≠ none) : s.OnlyQueues s.takeNext :=
  State.takeNext_cases hu rfl fun w rest _ _ => by
    have hstarted : (s.headTaken w rest).OnlyQueues (startWrite (s.headTaken w rest)) := startWrite_onlyQueues hu
    unfold State.OnlyQueues at hstarted ⊢
    rw [hstarted]
    rfl

/-- With one queued write per key, taking one leaves the latest payload of every key. -/
theorem State.takeNext_latestPayload (hu : s.store.inUse ≠ none)
    (hkeys : (s.store.queue.map (fun w => w.record.key)).Nodup) (k : Key) : s.takeNext.latestPayload k = s.latestPayload k := by
  refine State.takeNext_cases (motive := fun t => t.latestPayload k = s.latestPayload k) hu rfl fun w rest hfree hq => ?_
  have hf : (startWrite (s.headTaken w rest)).store.inFlight = some (w, false) := startWrite_inFlight (s := s.headTaken w rest) hu
  have hqt : (startWrite (s.headTaken w rest)).store.queue = rest := by simp [State.headTaken]
  have hcal : (startWrite (s.headTaken w rest)).calEntry k = s.calEntry k :=
    State.calEntry_congr (startWrite_onlyQueues (s := s.headTaken w rest) hu).cal
  rw [hq, List.map_cons, List.nodup_cons] at hkeys
  by_cases hwk : w.record.key = k
  · have hnone : rest.find? (fun x => decide (x.record.key = k)) = none := by
      simp only [List.find?_eq_none, decide_eq_true_eq]
      exact fun x hx hxk => hkeys.1 (List.mem_map.mpr ⟨x, hx, hxk.trans hwk.symm⟩)
    rw [State.latestPayload_of_inFlight (hqt.symm ▸ hnone) hf, if_pos hwk]
    exact (State.latestPayload_of_queued (by simp [hq, hwk])).symm
  · have hskip : s.store.queue.find? (fun x => decide (x.record.key = k)) = rest.find? (fun x => decide (x.record.key = k)) := by
      simp [hq, hwk]
    cases hrest : rest.find? (fun x => decide (x.record.key = k)) with
    | some x =>
      rw [State.latestPayload_of_queued (hqt.symm ▸ hrest), State.latestPayload_of_queued (hskip.trans hrest)]
    | none =>
      rw [State.latestPayload_of_inFlight (hqt.symm ▸ hrest) hf, if_neg hwk, hcal,
        State.latestPayload_of_none (hskip.trans hrest) hfree.2]

/-- Taking a write leaves a payload for every key that has one, whatever is queued. -/
theorem State.takeNext_latestPayload_ne_none (hu : s.store.inUse ≠ none) {k : Key} (h : s.latestPayload k ≠ none) :
    s.takeNext.latestPayload k ≠ none := by
  refine State.takeNext_cases (motive := fun t => t.latestPayload k ≠ none) hu h fun w rest hfree hq => ?_
  have hf : (startWrite (s.headTaken w rest)).store.inFlight = some (w, false) := startWrite_inFlight (s := s.headTaken w rest) hu
  have hqt : (startWrite (s.headTaken w rest)).store.queue = rest := by simp [State.headTaken]
  have hcal : (startWrite (s.headTaken w rest)).calEntry k = s.calEntry k :=
    State.calEntry_congr (startWrite_onlyQueues (s := s.headTaken w rest) hu).cal
  cases hrest : rest.find? (fun x => decide (x.record.key = k)) with
  | some x => simp [State.latestPayload_of_queued (hqt.symm ▸ hrest)]
  | none =>
    rw [State.latestPayload_of_inFlight (hqt.symm ▸ hrest) hf]
    split
    next => simp
    next hwk =>
      rw [hcal, ← State.latestPayload_of_none (s := s) (by simp [hq, hwk, hrest]) hfree.2]
      exact h

end

/-! ### A write is handed -/

/-- A write that joins the queue is found there under its key. -/
theorem find_enqueue (w : Write) (q : List Write) :
    ∃ x, (enqueue w q).find? (fun y => decide (y.record.key = w.record.key)) = some x ∧ x.record = w.record := by
  induction q with
  | nil => exact ⟨w, by simp [enqueue], rfl⟩
  | cons y rest ih =>
    unfold enqueue
    split
    next hkey => exact ⟨⟨w.record, y.fromRun || w.fromRun⟩, by simp, rfl⟩
    next hkey => simpa [hkey] using ih

/-- It leaves the queued writes of the other keys. -/
theorem find_enqueue_other (w : Write) (q : List Write) {k : Key} (h : w.record.key ≠ k) :
    (enqueue w q).find? (fun y => decide (y.record.key = k)) = q.find? (fun y => decide (y.record.key = k)) := by
  induction q with
  | nil => simp [enqueue, h]
  | cons y rest ih =>
    unfold enqueue
    split
    next hkey => simp [hkey, h]
    next hkey => simp only [List.find?_cons, ih]

/-- A write in the queue, its offset saved, before the store takes the next. -/
def State.queued (s : State) (w : Write) : State :=
  s.onStore (fun t => ({ t with queue := enqueue w t.queue }).savedFrom w.record)

section
variable (s : State) (w : Write)

theorem State.handWrite_eq : s.handWrite w = (s.queued w).takeNext := rfl

/-- What the queue and the saved offsets are once a write has joined the queue. -/
theorem State.queued_store : (s.queued w).store =
    { s.store with
      queue := enqueue w s.store.queue
      saved := match w.record with
        | .clutch c v => s.store.saved.set c v.adapt
        | _ => s.store.saved } := by
  obtain ⟨r, b⟩ := w
  cases r <;> rfl

theorem State.queued_latestPayload : (s.queued w).latestPayload w.record.key = some w.record := by
  obtain ⟨x, hx, hxr⟩ := find_enqueue w s.store.queue
  rw [State.latestPayload_of_queued (w := x) (by rw [State.queued_store]; exact hx), hxr]

theorem State.queued_latestPayload_other {k : Key} (h : w.record.key ≠ k) :
    (s.queued w).latestPayload k = s.latestPayload k := by
  have hq : (s.queued w).store.queue.find? (fun y => decide (y.record.key = k)) =
      s.store.queue.find? (fun y => decide (y.record.key = k)) := by
    rw [State.queued_store]
    exact find_enqueue_other w _ h
  have hf : (s.queued w).store.inFlight = s.store.inFlight := by rw [State.queued_store]
  have hc : (s.queued w).store.cal = s.store.cal := by rw [State.queued_store]
  simp only [State.latestPayload, hq, hf, State.calEntry_congr hc]

end

section
variable {s : State} (w : Write) (hu : s.store.inUse ≠ none)
include hu

theorem State.queued_inUse : (s.queued w).store.inUse ≠ none := by rwa [State.queued_store]

/-- A write handed with a page in use changes the queue and the saved offset alone. -/
theorem State.handWrite_onlyQueues : (s.queued w).OnlyQueues (s.handWrite w) :=
  State.takeNext_onlyQueues (s.queued_inUse w hu)

theorem State.handWrite_eq_store : s.handWrite w = { s with store := (s.handWrite w).store } :=
  (State.handWrite_onlyQueues w hu).eq_store

theorem State.handWrite_cal : (s.handWrite w).store.cal = s.store.cal :=
  (State.handWrite_onlyQueues w hu).cal.trans (by rw [State.queued_store])

theorem State.handWrite_inUse : (s.handWrite w).store.inUse = s.store.inUse :=
  (State.handWrite_onlyQueues w hu).inUse.trans (by rw [State.queued_store])

theorem State.handWrite_working : (s.handWrite w).store.working = s.store.working :=
  (State.handWrite_onlyQueues w hu).working.trans (by rw [State.queued_store])

theorem State.handWrite_saved {c : Clutch} {v : ClutchCal} (hw : w.record = .clutch c v) :
    (s.handWrite w).store.saved = s.store.saved.set c v.adapt :=
  (State.handWrite_onlyQueues w hu).saved.trans (by simp only [State.queued_store, hw])

/-- A write handed with one queued write per key is its key's latest payload. -/
theorem State.handWrite_latestPayload (hkeys : (s.store.queue.map (fun x => x.record.key)).Nodup) :
    (s.handWrite w).latestPayload w.record.key = some w.record := by
  have hqueued : ((s.queued w).store.queue.map (fun x => x.record.key)).Nodup := by
    rw [State.queued_store]
    exact enqueue_keys_nodup w hkeys
  rw [State.handWrite_eq, State.takeNext_latestPayload (s.queued_inUse w hu) hqueued, State.queued_latestPayload]

/-- A write handed leaves a payload for every key that has one. -/
theorem State.handWrite_latestPayload_ne_none {k : Key} (h : s.latestPayload k ≠ none) :
    (s.handWrite w).latestPayload k ≠ none := by
  refine State.takeNext_latestPayload_ne_none (s.queued_inUse w hu) ?_
  by_cases hk : w.record.key = k
  · subst hk
    simp [State.queued_latestPayload]
  · rwa [State.queued_latestPayload_other s w hk]

end

end Sys2Proof.Machine
end

section
/-! PROOFS. STORE_NOW and RESTART of the workshop tool (R93, R188). -/

open Sys2Proof Sys2Proof.Machine

namespace Sys2Proof.Machine

/-! ### The offsets that differ are handed (R93) -/

/-- The offset of a clutch is handed where it differs from the saved one. -/
def handIfChanged (s : State) (c : Clutch) : State :=
  if s.store.working.get c ≠ s.store.saved.get c then handOffset c s else s

theorem handOffsets_eq (s : State) : handOffsets s = allClutches.foldl handIfChanged s := rfl

theorem handOffset_of_none {s : State} {c : Clutch} (h : s.latestClutch c = none) : handOffset c s = s := by
  simp [handOffset, h]

theorem handOffset_of_some {s : State} {c : Clutch} {v : ClutchCal} (h : s.latestClutch c = some v) :
    handOffset c s = s.handWrite { record := .clutch c { v with adapt := s.store.working.get c }, fromRun := false } := by
  simp [handOffset, h]

/-- What a pass over offsets keeps with a page in use: the page, the working offsets, and that a clutch has a payload. -/
structure State.HandsOffsets (s t : State) : Prop where
  inUse : t.store.inUse = s.store.inUse
  working : t.store.working = s.store.working
  payload : ∀ c, s.latestClutch c ≠ none → t.latestClutch c ≠ none

theorem State.HandsOffsets.refl (s : State) : s.HandsOffsets s := ⟨rfl, rfl, fun _ => id⟩

theorem State.HandsOffsets.trans {s t u : State} (h : s.HandsOffsets t) (k : t.HandsOffsets u) : s.HandsOffsets u :=
  ⟨k.inUse.trans h.inUse, k.working.trans h.working, fun c hc => k.payload c (h.payload c hc)⟩

theorem State.latestClutch_ne_none_iff {s : State} {c : Clutch} :
    s.latestClutch c ≠ none ↔ s.latestPayload (.clutch c) ≠ none := by
  simp only [Option.ne_none_iff_exists']
  refine ⟨fun ⟨v, hv⟩ => ⟨_, State.latestClutch_eq_some_iff.mp hv⟩, fun ⟨r, hr⟩ => ?_⟩
  have hkey := State.latestPayload_key hr
  cases r with
  | clutch d x =>
    obtain rfl : d = c := by simpa [CalRecord.key] using hkey
    exact ⟨x, State.latestClutch_eq_some_iff.mpr hr⟩
  | _ => simp [CalRecord.key] at hkey

section
variable {s : State} (hu : s.store.inUse ≠ none)
include hu

theorem handIfChanged_handsOffsets (c : Clutch) : s.HandsOffsets (handIfChanged s c) := by
  unfold handIfChanged
  split
  · cases hlatest : s.latestClutch c with
    | none =>
      rw [handOffset_of_none hlatest]
      exact .refl s
    | some v =>
      rw [handOffset_of_some hlatest]
      refine ⟨State.handWrite_inUse _ hu, State.handWrite_working _ hu, fun d hd => ?_⟩
      rw [State.latestClutch_ne_none_iff] at hd ⊢
      exact State.handWrite_latestPayload_ne_none _ hu hd
  · exact .refl s

/-- The turn of a clutch with a payload leaves its saved offset at the working one. -/
theorem handIfChanged_saved {c : Clutch} (hc : s.latestClutch c ≠ none) :
    (handIfChanged s c).store.saved.get c = s.store.working.get c := by
  obtain ⟨v, hv⟩ := Option.ne_none_iff_exists'.mp hc
  unfold handIfChanged
  split
  next => rw [handOffset_of_some hv, State.handWrite_saved _ hu rfl, clutch_get_set]
  next h => exact (not_not.mp h).symm

/-- The turn of another clutch leaves the saved offset. -/
theorem handIfChanged_saved_other {c d : Clutch} (h : d ≠ c) :
    (handIfChanged s c).store.saved.get d = s.store.saved.get d := by
  unfold handIfChanged
  split
  · cases hlatest : s.latestClutch c with
    | none => rw [handOffset_of_none hlatest]
    | some v => rw [handOffset_of_some hlatest, State.handWrite_saved _ hu rfl, clutch_get_set_other _ _ _ _ h]
  · rfl

/-- After a pass the saved offset of each clutch that had a turn, or that followed before it, follows the working one. -/
theorem handPass_follows (l : List Clutch) : s.HandsOffsets (l.foldl handIfChanged s) ∧
    ∀ c, s.latestClutch c ≠ none → c ∈ l ∨ s.store.saved.get c = s.store.working.get c →
      (l.foldl handIfChanged s).store.saved.get c = s.store.working.get c := by
  induction l generalizing s with
  | nil => exact ⟨.refl s, fun c _ hc => hc.resolve_left (List.not_mem_nil)⟩
  | cons d rest ih =>
    have hturn := handIfChanged_handsOffsets hu d
    obtain ⟨hpass, hfollows⟩ := ih (s := handIfChanged s d) (hturn.inUse.symm ▸ hu)
    refine ⟨hturn.trans hpass, fun c hpayload hc => ?_⟩
    refine (hfollows c (hturn.payload c hpayload) ?_).trans (congrArg (·.get c) hturn.working)
    rw [hturn.working]
    by_cases hcd : c = d
    · subst hcd
      exact .inr (handIfChanged_saved hu hpayload)
    · exact (hc.imp_left fun hmem => (List.mem_cons.mp hmem).resolve_left hcd).imp_right
        (handIfChanged_saved_other hu hcd).trans

end

theorem mem_allClutches (c : Clutch) : c ∈ allClutches := by cases c <;> decide

/-! ### The two commands -/

section
variable {s : State} {dt : Nat} (hrun : s.running = true)
include hrun

theorem exec_storeNow_of_frame (h : s.svc.frame = some .storeNow) : exec (.storeNow dt) s =
    .next (unlockedOnly (s.advance dt) (fun u => (handOffsets u).answerResult none)) := by
  rw [exec_of_running rfl hrun, withFrame, State.advance_svc, h]; rfl

theorem exec_restart_of_frame (h : s.svc.frame = some .restart) :
    exec (.restart dt) s = .next (unlockedOnly (s.advance dt) judgeRestart) := by
  rw [exec_of_running rfl hrun, withFrame, State.advance_svc, h]; rfl

end

/-- RESTART is judged by v_ground first, then by the power state (log 59). -/
theorem judgeRestart_eq (s : State) : judgeRestart s =
    if 50 ≤ s.speed.set.vGround then s.answerRefused .inhibited
    else if s.power.power ≠ .run then s.answerRefused .notPermitted
    else (s.onSvc (fun v => { v with restartAfter := true })).answerResult none := rfl

/-- Whatever the judgement, RESTART changes the service line alone. -/
theorem unlockedOnly_judgeRestart_eq (s : State) :
    unlockedOnly s judgeRestart = { s with svc := (unlockedOnly s judgeRestart).svc } := by
  unfold unlockedOnly
  split
  · rw [judgeRestart_eq]
    split
    · rfl
    · split <;> rfl
  · rfl

end Sys2Proof.Machine

/-! ### The obligation -/

namespace Sys2Proof.Proofs

/-- Settles O60: STORE_NOW is one pass over the clutches, RESTART one judgement. -/
theorem storeNowAndRestart : Obligations.StoreNowAndRestart := by
  intro s dt hrun
  refine ⟨fun hframe => ?_, fun hframe => ?_⟩
  · refine ⟨_, exec_storeNow_of_frame hrun hframe, fun hlocked => ?_, fun hopen => ?_, ?_⟩
    · rw [unlockedOnly_of_not (s := s.advance dt) hlocked]
      exact ⟨State.answeredRefused_of_answerRefused _ _, rfl⟩
    · rw [unlockedOnly_of_unlocked (s := s.advance dt) hopen]
      refine ⟨State.answeredOk_of_answerResult _, by simp, fun hu => ?_⟩
      obtain ⟨hpass, hfollows⟩ := handPass_follows (s := s.advance dt) hu allClutches
      exact ⟨hpass.working, fun c hc => hfollows c hc (.inl (mem_allClutches c))⟩
    · by_cases hopen : s.svc.unlock = .unlocked
      · rw [unlockedOnly_of_unlocked (s := s.advance dt) hopen]
        simp
      · rw [unlockedOnly_of_not (s := s.advance dt) hopen]
        exact ⟨rfl, rfl, rfl⟩
  · refine ⟨_, exec_restart_of_frame hrun hframe, fun hlocked => ?_, fun hopen hfast => ?_, fun hopen hslow hpower => ?_,
      fun hopen hslow hpower => ?_, unlockedOnly_judgeRestart_eq _⟩
    · rw [unlockedOnly_of_not (s := s.advance dt) hlocked]
      exact State.answeredRefused_of_answerRefused _ _
    all_goals rw [unlockedOnly_of_unlocked (s := s.advance dt) hopen, judgeRestart_eq]
    · rw [if_pos (show 50 ≤ (s.advance dt).speed.set.vGround from hfast)]
      exact State.answeredRefused_of_answerRefused _ _
    · rw [if_neg (show ¬ 50 ≤ (s.advance dt).speed.set.vGround from Nat.not_le.mpr hslow),
        if_pos (show (s.advance dt).power.power ≠ .run from hpower)]
      exact State.answeredRefused_of_answerRefused _ _
    · rw [if_neg (show ¬ 50 ≤ (s.advance dt).speed.set.vGround from Nat.not_le.mpr hslow),
        if_neg (show ¬ (s.advance dt).power.power ≠ .run from not_not.mpr hpower)]
      exact ⟨State.answeredOk_of_answerResult _, rfl⟩

end Sys2Proof.Proofs
end

section
/-! PROOFS. The sixteen bytes of a record and what they decode to (R87, R99; log 7). -/

open Sys2Proof Sys2Proof.Machine

namespace Sys2Proof.Machine

/-! ### Numbers as bytes, low byte first -/

/-- The bytes of a number spell its value modulo their range. -/
@[simp] theorem leNat_leBytes (k n : Nat) : leNat (leBytes k n) = n % 256 ^ k := by
  induction k generalizing n with
  | zero => simp [leBytes, leNat, Nat.mod_one]
  | succ k ih => simp [leBytes, leNat, ih, Nat.pow_succ', Nat.mod_mul]

/-- Bytes one after another. -/
theorem leNat_append (a b : List Byte) : leNat (a ++ b) = leNat a + 256 ^ a.length * leNat b := by
  induction a with
  | nil => simp [leNat]
  | cons x rest ih => simp only [List.cons_append, leNat, ih, List.length_cons]; ring

/-- Each of five words one after another reads back. -/
theorem field_words {a b c d e : Nat} (ha : a < 65536) (hb : b < 65536) (hc : c < 65536) (hd : d < 65536) (he : e < 65536) :
    let n := leNat (leBytes 2 a ++ leBytes 2 b ++ leBytes 2 c ++ leBytes 2 d ++ leBytes 2 e)
    field n 0 16 = a ∧ field n 16 16 = b ∧ field n 32 16 = c ∧ field n 48 16 = d ∧ field n 64 16 = e := by
  simp only [leNat_append, leNat_leBytes, leBytes_length, List.length_append, field, Nat.reduceAdd, Nat.reducePow]
  omega

/-- Each field of a SPEED payload reads back. -/
theorem field_speedBytes {a b c d e f g : Nat} (ha : a < 65536) (hb : b < 65536) (hc : c < 256) (hd : d < 256) (he : e < 256)
    (hf : f < 65536) (hg : g < 256) :
    let n := leNat (leBytes 2 a ++ leBytes 2 b ++ leBytes 1 c ++ leBytes 1 d ++ leBytes 1 e ++ leBytes 2 f ++ leBytes 1 g)
    field n 0 16 = a ∧ field n 16 16 = b ∧ field n 32 8 = c ∧ field n 40 8 = d ∧ field n 48 8 = e ∧ field n 56 16 = f ∧
      field n 72 8 = g := by
  simp only [leNat_append, leNat_leBytes, leBytes_length, List.length_append, field, Nat.reduceAdd, Nat.reducePow]
  omega

/-- Two's complement of 16 bits spells every offset. -/
theorem ofTwos_twos {v : Int} (hlow : -40 ≤ v) (hhigh : v ≤ 40) : ofTwos 16 (twos 16 v) = v := by
  simp only [ofTwos, twos]
  omega

theorem twos_lt (v : Int) : twos 16 v < 65536 := by
  simp only [twos]
  omega

/-! ### The check byte -/

/-- Bytes with their check byte check. -/
theorem checks_withCheck (bs : List Byte) : checks (withCheck bs) = true := by
  simp only [checks, withCheck, List.foldl_append, List.foldl_cons, List.foldl_nil, checkByte, decide_eq_true_eq]
  generalize bs.foldl (· + ·) 0 = sum
  bv_omega

/-! ### The payload -/

/-- The range of every field of a payload fits its bytes; the words of SERVICE_KEY have none but their width. -/
def CalRecord.fits (r : CalRecord) : Prop :=
  r.inRange = true ∧ ∀ v, r = .serviceKey v → v.w0 < 65536 ∧ v.w1 < 65536 ∧ v.w2 < 65536 ∧ v.w3 < 65536 ∧ v.w4 < 65536

@[simp] theorem payloadBytes_length (r : CalRecord) : (payloadBytes r).length = 10 := by cases r <;> simp [payloadBytes]

/-- The ten bytes of a payload spell it. -/
theorem decodePayload_payloadBytes {r : CalRecord} (h : r.fits) : decodePayload r.key (payloadBytes r) = r := by
  obtain ⟨hrange, hwords⟩ := h
  cases r with
  | clutch c v =>
    simp only [CalRecord.inRange, within, Bool.and_eq_true, decide_eq_true_eq] at hrange
    obtain ⟨h0, h1, h2, h3, h4⟩ := field_words (a := v.tFill) (b := v.pKiss) (c := v.i0) (d := v.iFull) (e := twos 16 v.adapt)
      (by omega) (by omega) (by omega) (by omega) (twos_lt _)
    have hadapt : ofTwos 16 (twos 16 v.adapt) = v.adapt := ofTwos_twos (by omega) (by omega)
    simp only [CalRecord.key, decodePayload, payloadBytes, Nat.reduceMul, h0, h1, h2, h3, h4, hadapt]
  | hitch v =>
    simp only [CalRecord.inRange, within, Bool.and_eq_true, decide_eq_true_eq] at hrange
    obtain ⟨h0, h1, h2, h3, h4⟩ := field_words (a := v.adcLow) (b := v.adcHigh) (c := v.dFs) (d := v.iThr) (e := v.iMax)
      (by omega) (by omega) (by omega) (by omega) (by omega)
    simp only [CalRecord.key, decodePayload, payloadBytes, Nat.reduceMul, h0, h1, h2, h3, h4]
  | trailer v =>
    simp only [CalRecord.inRange, within, Bool.and_eq_true, decide_eq_true_eq] at hrange
    obtain ⟨h0, h1, h2, h3, h4⟩ := field_words (a := v.kTb) (b := v.pLead) (c := v.pAssist) (d := v.iLo) (e := v.iHi)
      (by omega) (by omega) (by omega) (by omega) (by omega)
    simp only [CalRecord.key, decodePayload, payloadBytes, Nat.reduceMul, h0, h1, h2, h3, h4]
  | speed v =>
    simp only [CalRecord.inRange, within, Bool.and_eq_true, decide_eq_true_eq] at hrange
    obtain ⟨h0, h1, h2, h3, h4, h5, h6⟩ := field_speedBytes (a := v.w) (b := v.ppm) (c := v.teethInput) (d := v.teethOutput)
      (e := v.teethFront) (f := v.kFr) (g := v.limitPct)
      (by omega) (by omega) (by omega) (by omega) (by omega) (by omega) (by omega)
    simp only [CalRecord.key, decodePayload, payloadBytes, Nat.reduceMul, h0, h1, h2, h3, h4, h5, h6]
  | serviceKey v =>
    obtain ⟨hw0, hw1, hw2, hw3, hw4⟩ := hwords v rfl
    obtain ⟨h0, h1, h2, h3, h4⟩ := field_words hw0 hw1 hw2 hw3 hw4
    simp only [CalRecord.key, decodePayload, payloadBytes, Nat.reduceMul, h0, h1, h2, h3, h4]

/-! ### The record -/

theorem find_key_of_code (k : Key) : allKeys.find? (fun x => decide (x.code = k.code)) = some k := by
  cases k with
  | clutch c => cases c <;> rfl
  | _ => rfl

theorem Key.code_lt (k : Key) : k.code < 256 := by
  cases k with
  | clutch c => cases c <;> decide
  | _ => decide

section
variable (r : CalRecord) (seq : Nat)

@[simp] theorem recordBytes_length : (recordBytes r seq).length = 16 := by simp [recordBytes, withCheck]

/-- Where the bytes of a record stand: the key, the sequence number, the payload, the check byte. -/
theorem recordBytes_parts : ∃ check : Byte,
    recordBytes r seq = leBytes 1 r.key.code ++ (leBytes 4 seq ++ (payloadBytes r ++ [check])) :=
  ⟨checkByte (leBytes 1 r.key.code ++ leBytes 4 seq ++ payloadBytes r), by
    simp only [recordBytes, withCheck, List.append_assoc]⟩

theorem recordBytes_key : leNat ((recordBytes r seq).take 1) = r.key.code := by
  obtain ⟨check, hparts⟩ := recordBytes_parts r seq
  rw [hparts, List.take_left' (leBytes_length 1 _), leNat_leBytes]
  exact Nat.mod_eq_of_lt (Key.code_lt _)

theorem recordBytes_seq : leNat (((recordBytes r seq).drop 1).take 4) = seq % 2 ^ 32 := by
  obtain ⟨check, hparts⟩ := recordBytes_parts r seq
  rw [hparts, List.drop_left' (leBytes_length 1 _), List.take_left' (leBytes_length 4 _), leNat_leBytes]
  norm_num

theorem recordBytes_payload : ((recordBytes r seq).drop 5).take 10 = payloadBytes r := by
  obtain ⟨check, hparts⟩ := recordBytes_parts r seq
  rw [hparts, ← List.append_assoc, List.drop_left' (by simp), List.take_left' (payloadBytes_length r)]

theorem checks_recordBytes : checks (recordBytes r seq) = true := checks_withCheck _

end

/-- A record whose fields fit reads back from its bytes. -/
theorem decodeRecord_recordBytes {r : CalRecord} {seq : Nat} (h : r.fits) (hseq : seq < 2 ^ 32) :
    decodeRecord (recordBytes r seq) = some (r, seq) := by
  simp only [decodeRecord, recordBytes_key, find_key_of_code, recordBytes_payload, decodePayload_payloadBytes h,
    checks_recordBytes, h.1, recordBytes_seq, Nat.mod_eq_of_lt hseq, Bool.and_self, if_true]

end Sys2Proof.Machine

/-! ### The obligation -/

namespace Sys2Proof.Proofs

/-- Settles O9: the key, the sequence number and the payload stand where the decoder takes them from. -/
theorem recordRoundTrip : Obligations.RecordRoundTrip := fun r seq hrange hseq hwords =>
  ⟨recordBytes_length r seq, checks_recordBytes r seq, decodeRecord_recordBytes ⟨hrange, hwords⟩ hseq⟩

end Sys2Proof.Proofs
end

section
/-! PROOFS. What a dropped write and a completed write leave (R102), and what the store keeps as it goes on to the next. -/

open Sys2Proof Sys2Proof.Machine

namespace Sys2Proof.Machine

/-! ### A dropped write (R102) -/

/-- What the drop of a write leaves: nothing in flight, fault 28, the waiting run failed, the offsets back at the latest
payload. -/
def State.WriteDropped (s t : State) (w : Write) : Prop :=
  t.store.inFlight = none ∧ t.active .storeWrite = true ∧
    (w.fromRun = true → s.run.phase = .write → t.run.phase = .failed ∧ t.run.reason = some .store) ∧
    (w.fromRun = false ∨ s.run.phase ≠ .write → t.run = s.run ∧ t.seq = s.seq) ∧
    (∀ c v, w.record = .clutch c v →
      let latest := { s with store := { s.store with inFlight := none } }.latestClutch c
      (latest = none → t.store.saved.get c = 0) ∧ (∀ x, latest = some x → t.store.saved.get c = x.adapt) ∧
      t.store.working.get c = if w.fromRun then t.store.saved.get c else s.store.working.get c)

section
variable {s : State} {w : Write} {b : Bool}

/-- The run that waits for a write ends with it. -/
theorem endRunOf_of_waiting {reason : Option RunReason} (hw : w.fromRun = true) (hp : s.run.phase = .write) :
    endRunOf w reason s = s.endRun reason := if_pos ⟨hw, hp⟩

/-- Any other run goes on. -/
theorem endRunOf_of_not_waiting {reason : Option RunReason} (h : w.fromRun = false ∨ s.run.phase ≠ .write) :
    endRunOf w reason s = s := by
  refine if_neg fun hwaits => ?_
  rcases h with h | h
  · simp [h] at hwaits
  · exact h hwaits.2

theorem dropWrite_of_none (h : s.store.inFlight = none) : dropWrite s = s := by simp [dropWrite, h]

theorem dropWrite_eq (h : s.store.inFlight = some (w, b)) : dropWrite s =
    endRunOf w (some .store) ((restoreOffsets w (s.onStore (fun t => { t with inFlight := none }))).raise .storeWrite none) := by
  simp [dropWrite, h]

/-- The offset that a clutch without the write in flight has. -/
def State.offsetBehind (s : State) (c : Clutch) : Int :=
  match (s.onStore (fun t => { t with inFlight := none })).latestClutch c with
  | some v => v.adapt
  | none => 0

/-- What a dropped write makes of the store: no write in flight, and the offsets of its clutch returned. -/
def State.storeDropped (s : State) (w : Write) : StoreState :=
  { s.store with
    inFlight := none
    saved := match w.record with
      | .clutch c _ => s.store.saved.set c (s.offsetBehind c)
      | _ => s.store.saved
    working := match w.record with
      | .clutch c _ => if w.fromRun then s.store.working.set c (s.offsetBehind c) else s.store.working
      | _ => s.store.working }

theorem restoreOffsets_store (s : State) (w : Write) :
    (restoreOffsets w (s.onStore (fun t => { t with inFlight := none }))).store = s.storeDropped w := by
  obtain ⟨r, run⟩ := w
  cases r <;> rfl

theorem dropWrite_store (h : s.store.inFlight = some (w, b)) : (dropWrite s).store = s.storeDropped w := by
  rw [dropWrite_eq h, ← restoreOffsets_store]
  simp

/-- The end of a run changes no active code. -/
theorem endRunOf_active (w : Write) (reason : Option RunReason) (s : State) (c : FaultCode) :
    (endRunOf w reason s).active c = s.active c := by simp [State.active]

theorem dropWrite_active (h : s.store.inFlight = some (w, b)) : (dropWrite s).active .storeWrite = true := by
  rw [dropWrite_eq h, endRunOf_active, State.raise_active]
  simp

theorem dropWrite_run_of_waiting (h : s.store.inFlight = some (w, b)) (hw : w.fromRun = true) (hp : s.run.phase = .write) :
    (dropWrite s).run.phase = .failed ∧ (dropWrite s).run.reason = some .store := by
  rw [dropWrite_eq h, endRunOf_of_waiting hw (by simpa using hp)]
  exact ⟨rfl, rfl⟩

theorem dropWrite_run_of_not_waiting (h : s.store.inFlight = some (w, b)) (hw : w.fromRun = false ∨ s.run.phase ≠ .write) :
    (dropWrite s).run = s.run ∧ (dropWrite s).seq = s.seq := by
  rw [dropWrite_eq h, endRunOf_of_not_waiting (by simpa using hw)]
  simp

/-- Whatever is in flight, a drop changes the write in flight and the offsets of the store. -/
theorem dropWrite_store_eq (s : State) : (dropWrite s).store =
    { s.store with
      inFlight := none, saved := (dropWrite s).store.saved, working := (dropWrite s).store.working } := by
  cases hf : s.store.inFlight with
  | none =>
    rw [dropWrite_of_none hf, ← hf]
  | some f =>
    rw [dropWrite_store hf]
    rfl

theorem dropWrite_dropped (h : s.store.inFlight = some (w, b)) : s.WriteDropped (dropWrite s) w := by
  refine ⟨by rw [dropWrite_store h, State.storeDropped], dropWrite_active h, dropWrite_run_of_waiting h,
    dropWrite_run_of_not_waiting h, fun c v hw => ?_⟩
  have hsaved : (dropWrite s).store.saved.get c = s.offsetBehind c := by simp [dropWrite_store h, State.storeDropped, hw]
  refine ⟨fun hnone => hsaved.trans ?_, fun x hx => hsaved.trans ?_, ?_⟩
  · simp only [State.offsetBehind, State.onStore, hnone]
  · simp only [State.offsetBehind, State.onStore, hx]
  · rw [hsaved, dropWrite_store h]
    simp only [State.storeDropped, hw]
    split
    · exact clutch_get_set _ _ _
    · rfl

/-! ### A completed write (R102) -/

/-- The end of the lack of a record changes no active code. -/
theorem endUncalibrated_active (s : State) (c : FaultCode) : (endUncalibrated s).active c = s.active c := by simp [State.active]

theorem endUncalibrated_run (s : State) : (endUncalibrated s).run = s.run := by simp

theorem completeWrite_eq (seq : Nat) (h : s.store.inFlight = some (w, b)) :
    completeWrite seq s =
      let u := endRunOf w none ((applyConversion w.record.key
        (s.onStore (fun t => { t with inFlight := none, cal := t.cal.put w.record seq }))).reportInactive .storeWrite)
      if s.uncalibrated && !u.uncalibrated then endUncalibrated u else u := by
  simp [completeWrite, h]

/-- Of the store a completed write changes the write in flight and the calibration in use. -/
theorem completeWrite_store (seq : Nat) (h : s.store.inFlight = some (w, b)) :
    (completeWrite seq s).store = { s.store with inFlight := none, cal := s.store.cal.put w.record seq } := by
  rw [completeWrite_eq seq h]
  dsimp only
  split <;> simp

theorem completeWrite_active (seq : Nat) (h : s.store.inFlight = some (w, b)) :
    (completeWrite seq s).active .storeWrite = false := by
  rw [completeWrite_eq seq h]
  dsimp only
  split
  · rw [endUncalibrated_active, endRunOf_active, State.reportInactive_active]
    simp
  · rw [endRunOf_active, State.reportInactive_active]
    simp

/-- The run that waits for a completed write is done. -/
theorem completeWrite_run_of_waiting (seq : Nat) (h : s.store.inFlight = some (w, b)) (hw : w.fromRun = true)
    (hp : s.run.phase = .write) : (completeWrite seq s).run.phase = .done := by
  rw [completeWrite_eq seq h, endRunOf_of_waiting hw (by simpa using hp)]
  dsimp only
  split
  · rw [endUncalibrated_run]
    rfl
  · rfl

end

/-! ### The store goes on -/

/-- What the store keeps as it drops writes and takes the next: the calibration in use, the page, an active fault 28, and a
run that does not wait in WRITE. -/
structure State.GoesOn (s t : State) : Prop where
  cal : t.store.cal = s.store.cal
  inUse : t.store.inUse = s.store.inUse
  active : s.active .storeWrite = true → t.active .storeWrite = true
  run : s.run.phase ≠ .write → t.run = s.run

theorem State.GoesOn.refl (s : State) : s.GoesOn s := ⟨rfl, rfl, id, fun _ => rfl⟩

section
variable {s t u : State}

theorem State.GoesOn.trans (h : s.GoesOn t) (k : t.GoesOn u) : s.GoesOn u :=
  ⟨k.cal.trans h.cal, k.inUse.trans h.inUse, k.active ∘ h.active, fun hp => (k.run ((h.run hp).symm ▸ hp)).trans (h.run hp)⟩

/-- A change of the queue, the write in flight and the operation keeps it. -/
theorem State.OnlyQueues.goesOn (h : s.OnlyQueues t) : s.GoesOn t :=
  ⟨h.cal, h.inUse, fun ha => by rw [h.eq_store]; exact ha, fun _ => by rw [h.eq_store]⟩

theorem dropWrite_goesOn (s : State) : s.GoesOn (dropWrite s) := by
  cases hf : s.store.inFlight with
  | none =>
    rw [dropWrite_of_none hf]
    exact .refl s
  | some f =>
    refine ⟨by rw [dropWrite_store hf, State.storeDropped], by rw [dropWrite_store hf, State.storeDropped],
      fun _ => dropWrite_active hf, fun hp => ?_⟩
    exact (dropWrite_run_of_not_waiting hf (.inr hp)).1

theorem startWrite_goesOn (s : State) : s.GoesOn (startWrite s) := by
  cases hu : s.store.inUse with
  | none =>
    rw [startWrite_of_no_page hu]
    exact dropWrite_goesOn s
  | some p => exact (startWrite_onlyQueues (by simp [hu])).goesOn

theorem takeNextUpTo_goesOn (n : Nat) (s : State) : s.GoesOn (takeNextUpTo n s) := by
  induction n generalizing s with
  | zero => exact .refl s
  | succ n ih =>
    unfold takeNextUpTo
    split
    next w rest _ _ _ =>
      have htaken : s.GoesOn (s.headTaken w rest) := ⟨rfl, rfl, id, fun _ => rfl⟩
      exact (htaken.trans (startWrite_goesOn _)).trans (ih _)
    · exact .refl s

theorem State.takeNext_goesOn (s : State) : s.GoesOn s.takeNext := takeNextUpTo_goesOn _ s

end

end Sys2Proof.Machine
end

section
/-! PROOFS. The ends of slot and void programs (R102, R103): what the memory holds, and what the store does next. -/

open Sys2Proof Sys2Proof.Machine

namespace Sys2Proof.Machine

/-! ### What a program leaves in the memory -/

/-- The state with some bytes in a slot. -/
def State.holding (s : State) (p : Page) (slot : Nat) (bs : List Byte) : State :=
  s.onStore (fun t => { t with mem := Memory.writeBytes t.mem (slotBase p slot) bs })

section
variable {s : State} {p : Page} {slot : Nat} {meant found : List Byte}

theorem programSlot_asMeant (p : Page) (slot : Nat) (meant : List Byte) (s : State) :
    programSlot p slot meant .asMeant s = (s.holding p slot meant, true) := by simp [programSlot, programmed, State.holding]

/-- A read-back that differs leaves what it found. -/
theorem programSlot_other (hlen : found.length = 16) (hne : found ≠ meant) :
    programSlot p slot meant (.other found) s = (s.holding p slot found, false) := by
  have hfound : programmed meant (.other found) = found := List.take_left' hlen
  simp [programSlot, hfound, hne, State.holding]

/-- The slot holds the bytes. -/
theorem State.holding_slotBytes (h : Memory.wf s.store.mem = true) {bs : List Byte} (hlen : bs.length = 16) :
    slotBytes (s.holding p slot bs).store.mem p slot = bs := by
  have hread := Memory.readBytes_writeBytes h (slotBase p slot) bs
  rwa [hlen] at hread

/-- No other byte changes. -/
theorem State.holding_sameOutside (h : Memory.wf s.store.mem = true) {bs : List Byte} (hlen : bs.length = 16) :
    Memory.SameOutside (slotBase p slot) 16 s.store.mem (s.holding p slot bs).store.mem :=
  fun a ha => Memory.read_writeBytes_outside h _ a bs (by rwa [hlen])

end

/-! ### The ends of slot programs -/

section
variable {s : State} {p : Page} {slot : Nat} {bytes found : List Byte} {second : Bool} {rest : List (CalRecord × Nat)}

theorem slotProgramEnds_write_asMeant (hop : s.store.op = some (.writeSlot p slot bytes second)) :
    slotProgramEnds .asMeant s = (completeWrite (recordSeq bytes) (s.holding p slot bytes).noOp).takeNext := by
  simp [slotProgramEnds, hop, programSlot_asMeant]

theorem slotProgramEnds_write_other (hop : s.store.op = some (.writeSlot p slot bytes second)) (hlen : found.length = 16)
    (hne : found ≠ bytes) : slotProgramEnds (.other found) s =
      if second then (dropWrite (s.holding p slot found)).startOp (.writeVoid p slot false)
      else ((s.holding p slot found).onStore (fun u => { u with inFlight := u.inFlight.map (fun w => (w.1, true)) })).startOp
        (.writeVoid p slot true) := by
  simp [slotProgramEnds, hop, programSlot_other hlen hne]

theorem slotProgramEnds_copy_asMeant (hop : s.store.op = some (.compactCopy p slot bytes rest second)) :
    slotProgramEnds .asMeant s = nextCopy p (slot + 1) rest (s.holding p slot bytes) := by
  simp [slotProgramEnds, hop, programSlot_asMeant]

theorem slotProgramEnds_copy_other (hop : s.store.op = some (.compactCopy p slot bytes rest second))
    (hlen : found.length = 16) (hne : found ≠ bytes) : slotProgramEnds (.other found) s =
      if second then (dropWrite (s.holding p slot found)).startOp (.compactVoid p slot none rest)
      else (s.holding p slot found).startOp (.compactVoid p slot (some bytes) rest) := by
  simp [slotProgramEnds, hop, programSlot_other hlen hne, abandon]

/-- The next operation of a compaction after a copy. -/
theorem nextCopy_nil (p : Page) (slot : Nat) (s : State) : nextCopy p slot [] s = s.startOp (.compactActive p slot false) := rfl

theorem nextCopy_cons (p : Page) (slot : Nat) (r : CalRecord × Nat) (more : List (CalRecord × Nat)) (s : State) :
    nextCopy p slot (r :: more) s = s.startOp (.compactCopy p slot (recordBytes r.1 r.2) more false) := rfl

end

/-! ### The ends of void programs -/

/-- The state with the key byte of a slot at 0, and no operation under way. -/
def State.voided (s : State) (p : Page) (slot : Nat) : State := (voidSlot p slot s).noOp

section
variable {s : State} {p : Page} {slot : Nat}

theorem voidProgramEnds_write {retry : Bool} (hop : s.store.op = some (.writeVoid p slot retry)) :
    voidProgramEnds s = if retry then startWrite (s.voided p slot) else (s.voided p slot).takeNext := by
  simp [voidProgramEnds, hop, State.voided]

theorem voidProgramEnds_copy_retry {bytes : List Byte} {rest : List (CalRecord × Nat)}
    (hop : s.store.op = some (.compactVoid p slot (some bytes) rest)) :
    voidProgramEnds s = (s.voided p slot).startOp (.compactCopy p (slot + 1) bytes rest true) := by
  simp [voidProgramEnds, hop, State.voided]

theorem voidProgramEnds_copy_none {rest : List (CalRecord × Nat)}
    (hop : s.store.op = some (.compactVoid p slot none rest)) : voidProgramEnds s = (s.voided p slot).takeNext := by
  simp [voidProgramEnds, hop, State.voided]

end

/-- Of the memory a void changed one byte, and of the calibration in use and of the other blocks nothing. -/
def State.LeavesVoid (s : State) (p : Page) (slot : Nat) (t : State) : Prop :=
  Memory.read t.store.mem (slotBase p slot) = 0 ∧
    (∀ a, a ≠ slotBase p slot → Memory.read t.store.mem a = Memory.read s.store.mem a) ∧
    t.store.cal = s.store.cal ∧ t.speed = s.speed ∧ t.power = s.power ∧ t.svc = s.svc

section
variable {s t : State} {p : Page} {slot : Nat}

/-- What follows a void leaves its byte. -/
theorem State.LeavesVoid.of_goesOn (h : Memory.wf s.store.mem = true) (hgoes : (s.voided p slot).GoesOn t)
    (hmem : t.store.mem = (s.voided p slot).store.mem) (hframe : t.speed = s.speed ∧ t.power = s.power ∧ t.svc = s.svc) :
    s.LeavesVoid p slot t := by
  have hread (a : Nat) : Memory.read t.store.mem a = if a = slotBase p slot then 0 else Memory.read s.store.mem a := by
    rw [hmem]
    exact Memory.read_write h _ _ _
  exact ⟨by rw [hread, if_pos rfl], fun a ha => by rw [hread, if_neg ha], hgoes.cal, hframe⟩

/-- What the store does next without a retry: nothing on an empty queue, and otherwise the head of the queue in the next free
slot, or a compaction for it. -/
def State.TakesNext (s t : State) (now : Nat) : Prop :=
  (s.store.queue = [] → t.store.op = none) ∧
    (∀ w q u, s.store.inFlight = none → s.store.queue = w :: q → s.store.inUse = some u →
      t.store.inFlight = some (w, false) ∧ t.store.queue = q ∧
      (s.store.nextFree ≤ 63 →
        t.store.op = some (.writeSlot u s.store.nextFree (recordBytes w.record s.store.nextSeq) false)) ∧
      (63 < s.store.nextFree →
        t.store.op = some (.compactErase u.other false) ∧ t.store.opEnd = now + 40))

theorem State.takeNext_takesNext (hop : s.store.op = none) : s.TakesNext s.takeNext s.now := by
  refine ⟨fun hq => by rw [State.takeNext_of_empty hq, hop], fun w q u hf hq hu => ?_⟩
  rw [State.takeNext_of_free ⟨hop, hf⟩ hq hu]
  refine ⟨startWrite_inFlight (s := s.headTaken w q) (by simp [State.headTaken, hu]), by simp [State.headTaken],
    fun hroom => ?_, fun hfull => ?_⟩
  · rw [startWrite_of_room (s := s.headTaken w q) rfl hu hroom]
    rfl
  · rw [startWrite_of_full (s := s.headTaken w q) rfl hu hfull]
    exact ⟨rfl, rfl⟩

end

/-! ### The commands -/

section
variable {s : State} {dt : Nat} (hrun : s.running = true) (hdue : s.store.opEnd ≤ s.now + dt)
include hrun hdue

theorem exec_slotProgramComplete (rb : ReadBack) :
    exec (.slotProgramComplete dt rb) s = .next (slotProgramEnds rb (s.advance dt)) :=
  (exec_of_running rfl hrun).trans (congrArg _ (if_pos (decide_eq_true hdue)))

theorem exec_voidProgramComplete : exec (.voidProgramComplete dt) s = .next (voidProgramEnds (s.advance dt)) :=
  (exec_of_running rfl hrun).trans (congrArg _ (if_pos (decide_eq_true hdue)))

theorem exec_pageEraseComplete (rb : ReadBack) :
    exec (.pageEraseComplete dt rb) s = .next (pageEraseEnds rb (s.advance dt)) :=
  (exec_of_running rfl hrun).trans (congrArg _ (if_pos (decide_eq_true hdue)))

theorem exec_headerProgramComplete (rb : ReadBack) :
    exec (.headerProgramComplete dt rb) s = .next (headerProgramEnds rb (s.advance dt)) :=
  (exec_of_running rfl hrun).trans (congrArg _ (if_pos (decide_eq_true hdue)))

end

end Sys2Proof.Machine

/-! ### The obligations -/

namespace Sys2Proof.Proofs

/-- Settles O28: the void leaves its byte, and the store then retries, copies on, or takes the next write. -/
theorem voidProgramEnds : Obligations.VoidProgramEnds := by
  intro s dt p slot hrun hwf hdue voided nextWrite
  have hwf' : Memory.wf (s.advance dt).store.mem = true := hwf
  have htakes : (s.advance dt).TakesNext ((s.advance dt).voided p slot).takeNext (s.now + dt) :=
    State.takeNext_takesNext (s := (s.advance dt).voided p slot) rfl
  have hnext : (s.advance dt).LeavesVoid p slot ((s.advance dt).voided p slot).takeNext :=
    .of_goesOn hwf' (State.takeNext_goesOn _) (by simp) (by simp [State.voided])
  have hexec := exec_voidProgramComplete hrun hdue
  refine ⟨fun retry hop => ⟨_, hexec, ?_⟩, fun retry rest hop => ⟨_, hexec, ?_⟩⟩
  · rw [voidProgramEnds_write (s := s.advance dt) hop]
    cases retry with
    | false => exact ⟨hnext, nofun, fun _ => htakes⟩
    | true =>
      have hretried : (s.advance dt).LeavesVoid p slot (startWrite ((s.advance dt).voided p slot)) :=
        .of_goesOn hwf' (startWrite_goesOn _) (by simp) (by simp [State.voided])
      rw [if_pos rfl]
      refine ⟨hretried, fun w b q _ hf hu => ?_, nofun⟩
      refine ⟨(startWrite_inFlight (by simp [State.voided, voidSlot, hu])).trans hf, fun hroom => ?_, fun hfull => ?_⟩
      · rw [startWrite_of_room (s := (s.advance dt).voided p slot) hf hu hroom]
        exact ⟨rfl, rfl, rfl, rfl⟩
      · rw [startWrite_of_full (s := (s.advance dt).voided p slot) hf hu hfull]
        exact ⟨rfl, rfl⟩
  · cases retry with
    | none =>
      rw [voidProgramEnds_copy_none (s := s.advance dt) hop]
      exact ⟨hnext, nofun, fun _ => ⟨(State.takeNext_goesOn _).inUse, htakes⟩⟩
    | some bytes =>
      rw [voidProgramEnds_copy_retry (s := s.advance dt) hop]
      refine ⟨State.LeavesVoid.of_goesOn hwf' ⟨rfl, rfl, id, fun _ => rfl⟩ rfl ⟨rfl, rfl, rfl⟩, fun bs hbs => ?_, nofun⟩
      obtain rfl := Option.some.inj hbs
      exact ⟨rfl, rfl⟩

/-- Settles O27: the program leaves what the read-back found, and the store completes, drops, tries once more or copies on. -/
theorem slotProgramEnds : Obligations.SlotProgramEnds := by
  intro s dt p slot bytes second hrun hwf hlen hdue leaves others follows dropped
  have hwf' : Memory.wf (s.advance dt).store.mem = true := hwf
  have hleaves {bs : List Byte} (hbs : bs.length = 16) {t : State}
      (hmem : t.store.mem = ((s.advance dt).holding p slot bs).store.mem) : leaves t bs := by
    show slotBytes t.store.mem p slot = bs ∧ Memory.SameOutside (slotBase p slot) 16 s.store.mem t.store.mem
    rw [hmem]
    exact ⟨State.holding_slotBytes hwf' hbs, State.holding_sameOutside hwf' hbs⟩
  have hdropped {found : List Byte} {w : Write} {b : Bool} (hf : s.store.inFlight = some (w, b)) :
      s.WriteDropped (dropWrite ((s.advance dt).holding p slot found)) w :=
    dropWrite_dropped (s := (s.advance dt).holding p slot found) hf
  have hexec (rb : ReadBack) := exec_slotProgramComplete hrun hdue rb
  refine ⟨fun w b hop hf => ⟨⟨_, hexec .asMeant, ?_⟩, fun found hfound hne => ⟨_, hexec (.other found), ?_⟩⟩,
    fun rest hop => ⟨⟨_, hexec .asMeant, ?_⟩, fun found hfound hne => ⟨_, hexec (.other found), ?_⟩⟩⟩
  · rw [slotProgramEnds_write_asMeant (s := s.advance dt) hop]
    have hf' : ((s.advance dt).holding p slot bytes).noOp.store.inFlight = some (w, b) := hf
    have hstore := completeWrite_store (recordSeq bytes) hf'
    have hgoes := State.takeNext_goesOn (completeWrite (recordSeq bytes) ((s.advance dt).holding p slot bytes).noOp)
    refine ⟨hleaves hlen (by simp), hgoes.cal.trans (congrArg StoreState.cal hstore), fun hq => ?_, fun hw hp => ?_,
      by simp [others, State.holding]⟩
    · rw [State.takeNext_of_empty (congrArg StoreState.queue hstore |>.trans hq), hstore]
      exact ⟨rfl, rfl, completeWrite_active _ hf'⟩
    · have hdone := completeWrite_run_of_waiting (recordSeq bytes) hf' hw hp
      rw [hgoes.run (by simp [hdone]), hdone]
  · rw [slotProgramEnds_write_other (s := s.advance dt) hop hfound hne]
    cases second with
    | false =>
      rw [if_neg Bool.false_ne_true]
      have hmarked : s.store.inFlight.map (fun x => (x.1, true)) = some (w, true) := by rw [hf]; rfl
      exact ⟨hleaves hfound rfl, rfl, rfl, rfl, rfl, fun _ => ⟨hmarked, rfl⟩, nofun⟩
    | true =>
      rw [if_pos rfl]
      refine ⟨hleaves hfound (by simp), (dropWrite_goesOn _).cal, by simp [State.holding], rfl,
        by simp [State.holding, StoreOp.length], nofun, fun _ => ⟨hdropped hf, by simp [others, State.holding]⟩⟩
  · rw [slotProgramEnds_copy_asMeant (s := s.advance dt) hop]
    refine ⟨hleaves hlen (by simp), fun hrest => ?_, fun r more hrest => ?_⟩
    · rw [hrest]
      exact ⟨rfl, rfl⟩
    · rw [hrest]
      exact ⟨rfl, rfl⟩
  · rw [slotProgramEnds_copy_other (s := s.advance dt) hop hfound hne]
    cases second with
    | false =>
      rw [if_neg Bool.false_ne_true]
      exact ⟨hleaves hfound rfl, fun _ => ⟨rfl, rfl⟩, nofun⟩
    | true =>
      rw [if_pos rfl]
      have hkept : (dropWrite ((s.advance dt).holding p slot found)).store.queue = s.store.queue ∧
          (dropWrite ((s.advance dt).holding p slot found)).store.nextFree = s.store.nextFree ∧
          (dropWrite ((s.advance dt).holding p slot found)).store.nextSeq = s.store.nextSeq := by
        rw [dropWrite_store_eq]
        exact ⟨rfl, rfl, rfl⟩
      obtain ⟨hqueue, hfree, hseq⟩ := hkept
      have hgoes := dropWrite_goesOn ((s.advance dt).holding p slot found)
      exact ⟨hleaves hfound (by simp), nofun, fun _ => ⟨rfl, by simp [State.holding, StoreOp.length], hgoes.inUse, hgoes.cal,
        hqueue, hfree, hseq, fun w b hf => hdropped hf, by simp [others, State.holding]⟩⟩

end Sys2Proof.Proofs
end

section
/-! PROOFS. The ends of page erases and header programs (R99, R100, R103): the marks they leave, and what the store does next. -/

open Sys2Proof Sys2Proof.Machine

namespace Sys2Proof.Machine

/-! ### Page erases -/

/-- The state with a page erased, but for the bytes that a read-back found. -/
def State.erasedBut (s : State) (p : Page) (bs : List Byte) : State :=
  s.onStore (fun t => { t with mem := Memory.writeBytes (Memory.erasePage t.mem p) (pageBase p) (bs.take 1024) })

section
variable {s : State} {p : Page} {bs : List Byte}

theorem eraseEnds_asMeant (p : Page) (s : State) : eraseEnds p .asMeant s = (s.erasedBut p [], true) := rfl

/-- A read-back with a byte that is not erased shows a failure. -/
theorem eraseEnds_other (h : ∃ b ∈ bs.take 1024, b ≠ erasedByte) :
    eraseEnds p (.other bs) s = (s.erasedBut p bs, false) := by
  have hfails : (bs.take 1024).all (fun b => decide (b = erasedByte)) = false := by
    rw [List.all_eq_false]
    obtain ⟨b, hb, hne⟩ := h
    exact ⟨b, hb, by simpa using hne⟩
  simp only [eraseEnds, hfails]
  rfl

theorem State.erasedBut_sameOutside (h : Memory.wf s.store.mem = true) (p : Page) (bs : List Byte) :
    Memory.SameOutside (pageBase p) 1024 s.store.mem (s.erasedBut p bs).store.mem := by
  intro a ha
  refine (Memory.read_writeBytes_outside (Memory.wf_erasePage h p) _ _ _ ?_).trans
    ((Memory.read_erasePage h p a).trans (if_pos ha))
  have hshort : (bs.take 1024).length ≤ 1024 := List.length_take_le _ _
  omega

theorem State.erasedBut_nil_read (h : Memory.wf s.store.mem = true) {a : Nat} (hlow : pageBase p ≤ a)
    (hhigh : a < pageBase p + 1024) : Memory.read (s.erasedBut p []).store.mem a = erasedByte :=
  (Memory.read_erasePage h p a).trans (if_neg (by omega))

theorem pageEraseEnds_compact_asMeant {second : Bool} (hop : s.store.op = some (.compactErase p second)) :
    pageEraseEnds .asMeant s = (s.erasedBut p []).startOp (.compactReceiving p false) := by
  simp [pageEraseEnds, hop, eraseEnds_asMeant]

theorem pageEraseEnds_format_asMeant {second : Bool} (hop : s.store.op = some (.formatErase second)) :
    pageEraseEnds .asMeant s = (s.erasedBut .p0 []).startOp (.formatReceiving false) := by
  simp [pageEraseEnds, hop, eraseEnds_asMeant]

variable (hbad : ∃ b ∈ bs.take 1024, b ≠ erasedByte)
include hbad

theorem pageEraseEnds_compact_other {second : Bool} (hop : s.store.op = some (.compactErase p second)) :
    pageEraseEnds (.other bs) s =
      if second then abandon none (s.erasedBut p bs) else (s.erasedBut p bs).startOp (.compactErase p true) := by
  simp [pageEraseEnds, hop, eraseEnds_other hbad]

theorem pageEraseEnds_format_other {second : Bool} (hop : s.store.op = some (.formatErase second)) :
    pageEraseEnds (.other bs) s =
      if second then formatFails (s.erasedBut .p0 bs) else (s.erasedBut .p0 bs).startOp (.formatErase true) := by
  simp [pageEraseEnds, hop, eraseEnds_other hbad]

end

/-! ### Second failures -/

/-- An abandoned compaction: the page and the calibration in use stay, fault 28 is active where a write was dropped, and with
an empty queue the store is idle (R103). -/
def State.Abandoned (s t : State) : Prop :=
  t.store.inUse = s.store.inUse ∧ t.store.cal = s.store.cal ∧ (s.store.inFlight ≠ none → t.active .storeWrite = true) ∧
    (s.store.queue = [] → t.store.op = none ∧ t.store.inFlight = none)

/-- A failed format: no page in use, fault 28, and with an empty queue no operation (R103). -/
def State.FormatFailed (s t : State) : Prop :=
  t.store.inUse = none ∧ t.active .storeWrite = true ∧ t.store.cal = s.store.cal ∧ (s.store.queue = [] → t.store.op = none)

theorem abandon_none_abandoned (s : State) : s.Abandoned (abandon none s) := by
  have hgoes := State.takeNext_goesOn (dropWrite s.noOp)
  have hdrop := dropWrite_goesOn s.noOp
  refine ⟨hgoes.inUse.trans hdrop.inUse, hgoes.cal.trans hdrop.cal, fun hf => hgoes.active ?_, fun hq => ?_⟩
  · obtain ⟨f, hf⟩ := Option.ne_none_iff_exists'.mp hf
    exact dropWrite_active (s := s.noOp) hf
  · have hempty : (dropWrite s.noOp).store.queue = [] := by simpa using hq
    rw [abandon, State.takeNext_of_empty hempty, dropWrite_store_eq]
    exact ⟨rfl, rfl⟩

theorem formatFails_formatFailed (s : State) : s.FormatFailed (formatFails s) := by
  have hgoes := State.takeNext_goesOn ((s.noOp.onStore (fun t => { t with inUse := none })).raise .storeWrite none)
  refine ⟨hgoes.inUse.trans (by simp), hgoes.active (by simp), hgoes.cal.trans (by simp), fun hq => ?_⟩
  rw [formatFails, State.takeNext_of_empty (by simpa using hq)]
  simp

/-! ### The marks of a header (log 7) -/

section
variable (m : List Host.Cell) (p : Page)

/-- The RECEIVING mark stands first. -/
theorem receivingHeader_mark : (receivingHeader m p).headD 1 = 0 := rfl

/-- The SPENT mark stands in byte 7. -/
theorem spentHeader_mark : (spentHeader m p).getD 7 1 = 0 := by
  have hlen : ((slotBytes m p 0).take 7).length = 7 := by simp
  simp [spentHeader, headerWith, List.getD_eq_getElem?_getD, hlen]

/-- What the bytes of a header with the ACTIVE mark are: the RECEIVING mark, the ACTIVE mark, the page sequence, the check byte
of these, and the rest. -/
theorem activeHeader_parts (seq : Nat) : ∃ (first : Byte) (rest : List Byte),
    activeHeader m p seq = first :: (withCheck (0 :: leBytes 4 seq) ++ rest) := by
  obtain ⟨first, hfirst⟩ := List.length_eq_one_iff.mp (show ((slotBytes m p 0).take 1).length = 1 by simp)
  refine ⟨first, (slotBytes m p 0).drop (1 + (withCheck (0 :: leBytes 4 seq)).length), ?_⟩
  simp only [activeHeader, headerWith, hfirst, List.cons_append, List.nil_append]

/-- A header with the ACTIVE mark, a page sequence within its bytes and no SPENT mark is one of an active page. -/
theorem headerState_activeHeader {seq : Nat} (hspent : (activeHeader m p seq).getD 7 0 = erasedByte) (hseq : seq < 2 ^ 32) :
    headerState (activeHeader m p seq) = .active seq := by
  have hmark : (activeHeader m p seq).getD 7 erasedByte = erasedByte := by
    rw [← hspent, List.getD_eq_getElem _ _ (by simp), List.getD_eq_getElem _ _ (by simp)]
  obtain ⟨first, rest, hparts⟩ := activeHeader_parts m p seq
  have hcheck : (((activeHeader m p seq).drop 1).take 6) = withCheck (0 :: leBytes 4 seq) := by
    rw [hparts]
    exact List.take_left' (by simp [withCheck])
  have hsequence : leNat (((activeHeader m p seq).drop 2).take 4) = seq := by
    rw [hparts]
    simp only [withCheck, List.cons_append, List.append_assoc, List.drop_succ_cons, List.drop_zero]
    rw [List.take_left' (leBytes_length 4 seq), leNat_leBytes]
    exact Nat.mod_eq_of_lt hseq
  have hactive : (activeHeader m p seq).getD 1 erasedByte = 0 := by
    rw [hparts]
    rfl
  simp only [headerState, hmark, hactive, hcheck, checks_withCheck, hsequence, ne_eq, not_true_eq_false, if_false, and_self,
    if_true]

end

/-! ### Header programs -/

/-- The bytes that a header program means to leave in slot 0 of its page, and whether it is the second try. -/
def HeaderMeans (m : List Host.Cell) (o : StoreOp) (p : Page) (second : Bool) (meant : List Byte) : Prop :=
  (o = .compactReceiving p second ∧ meant = receivingHeader m p) ∨
    (∃ k, o = .compactActive p k second ∧ meant = activeHeader m p (pageSequence m p.other + 1)) ∨
    ((o = .compactSpent p second ∨ o = .prepareSpent p second) ∧ meant = spentHeader m p) ∨
    (p = .p0 ∧ o = .formatReceiving second ∧ meant = receivingHeader m .p0) ∨
    (p = .p0 ∧ o = .formatActive second ∧ meant = activeHeader m .p0 1)

/-- What follows a header program that reads back as meant. -/
def headerGoesOn (o : StoreOp) (t : State) : State :=
  match o with
  | .compactReceiving p _ => nextCopy p 1 (recordsInUse t) t
  | .compactActive p next _ =>
    (t.onStore (fun u => { u with inUse := some p, nextFree := next })).startOp (.compactSpent p.other false)
  | .compactSpent _ _ => startWrite t.noOp
  | .prepareSpent _ _ => t.noOp.takeNext
  | .formatReceiving _ => t.startOp (.formatActive false)
  | .formatActive _ => (t.noOp.onStore (fun u => { u with inUse := some .p0, nextFree := 1 })).takeNext
  | _ => t

/-- What follows one that does not: one more try, or after it the end of the compaction or of the format. -/
def headerFails (o : StoreOp) (t : State) : State :=
  match o with
  | .compactReceiving p second => if second then abandon none t else t.startOp (.compactReceiving p true)
  | .compactActive p next second => if second then abandon none t else t.startOp (.compactActive p next true)
  | .compactSpent p second =>
    if second then startWrite (t.noOp.raise .storeWrite none) else t.startOp (.compactSpent p true)
  | .prepareSpent p second => if second then (t.noOp.raise .storeWrite none).takeNext else t.startOp (.prepareSpent p true)
  | .formatReceiving second => if second then formatFails t else t.startOp (.formatReceiving true)
  | .formatActive second => if second then formatFails t else t.startOp (.formatActive true)
  | _ => t

section
variable {s : State} {o : StoreOp} {p : Page} {second : Bool} {meant found : List Byte}
  (h : HeaderMeans s.store.mem o p second meant)
include h

theorem HeaderMeans.length : meant.length = 16 := by
  rcases h with ⟨-, rfl⟩ | ⟨k, -, rfl⟩ | ⟨-, rfl⟩ | ⟨-, -, rfl⟩ | ⟨-, -, rfl⟩ <;> simp

theorem headerProgramEnds_asMeant (hop : s.store.op = some o) :
    headerProgramEnds .asMeant s = headerGoesOn o (s.holding p 0 meant) := by
  rcases h with ⟨rfl, rfl⟩ | ⟨k, rfl, rfl⟩ | ⟨rfl | rfl, rfl⟩ | ⟨rfl, rfl, rfl⟩ | ⟨rfl, rfl, rfl⟩ <;>
    simp [headerProgramEnds, hop, programSlot_asMeant, headerGoesOn]

theorem headerProgramEnds_other (hop : s.store.op = some o) (hlen : found.length = 16) (hne : found ≠ meant) :
    headerProgramEnds (.other found) s = headerFails o (s.holding p 0 found) := by
  rcases h with ⟨rfl, rfl⟩ | ⟨k, rfl, rfl⟩ | ⟨rfl | rfl, rfl⟩ | ⟨rfl, rfl, rfl⟩ | ⟨rfl, rfl, rfl⟩ <;>
    simp [headerProgramEnds, hop, programSlot_other hlen hne, headerFails]

end

section
variable (o : StoreOp) (t : State)

theorem headerGoesOn_mem : (headerGoesOn o t).store.mem = t.store.mem := by
  cases o <;> simp [headerGoesOn]

theorem headerFails_mem : (headerFails o t).store.mem = t.store.mem := by
  unfold headerFails
  split
  case h_7 => rfl
  all_goals split <;> simp

theorem headerGoesOn_cal : (headerGoesOn o t).store.cal = t.store.cal := by
  cases o with
  | compactReceiving p second =>
    show (nextCopy p 1 (recordsInUse t) t).store.cal = t.store.cal
    cases recordsInUse t <;> rfl
  | compactSpent p second => exact (startWrite_goesOn t.noOp).cal
  | prepareSpent p second => exact (State.takeNext_goesOn t.noOp).cal
  | formatActive second => exact (State.takeNext_goesOn _).cal
  | _ => rfl

/-- A second failed SPENT mark leaves fault 28 active and the page in use. -/
theorem raise_storeWrite_goesOn : t.GoesOn (t.noOp.raise .storeWrite none) :=
  ⟨by simp, by simp, fun _ => by simp, fun _ => by simp⟩

theorem headerFails_cal : (headerFails o t).store.cal = t.store.cal := by
  have hraised := raise_storeWrite_goesOn t
  obtain ⟨-, habandoned, -⟩ := abandon_none_abandoned t
  obtain ⟨-, -, hformat, -⟩ := formatFails_formatFailed t
  unfold headerFails
  split
  case h_7 => rfl
  all_goals split
  any_goals rfl
  · exact habandoned
  · exact habandoned
  · exact (hraised.trans (startWrite_goesOn _)).cal
  · exact (hraised.trans (State.takeNext_goesOn _)).cal
  · exact hformat
  · exact hformat

end

/-! ### What each mark is followed by -/

section
variable {m : List Host.Cell} {p : Page} {second : Bool} {meant : List Byte}

theorem HeaderMeans.of_formatReceiving (h : HeaderMeans m (.formatReceiving second) p second meant) :
    p = .p0 ∧ meant = receivingHeader m .p0 := by simpa [HeaderMeans] using h

theorem HeaderMeans.of_formatActive (h : HeaderMeans m (.formatActive second) p second meant) :
    p = .p0 ∧ meant = activeHeader m .p0 1 := by simpa [HeaderMeans] using h

theorem HeaderMeans.of_compactReceiving (h : HeaderMeans m (.compactReceiving p second) p second meant) :
    meant = receivingHeader m p := by simpa [HeaderMeans] using h

theorem HeaderMeans.of_compactActive {k : Nat} (h : HeaderMeans m (.compactActive p k second) p second meant) :
    meant = activeHeader m p (pageSequence m p.other + 1) := by simpa [HeaderMeans] using h

theorem HeaderMeans.of_compactSpent (h : HeaderMeans m (.compactSpent p second) p second meant) : meant = spentHeader m p := by
  simpa [HeaderMeans] using h

theorem HeaderMeans.of_prepareSpent (h : HeaderMeans m (.prepareSpent p second) p second meant) : meant = spentHeader m p := by
  simpa [HeaderMeans] using h

end

/-- The store goes on with an operation, and nothing but its memory and its operation changed. -/
def State.FollowedBy (s t : State) (o : StoreOp) : Prop :=
  t.store = { s.store with mem := t.store.mem, op := some o, opEnd := s.now + o.length } ∧ t = { s with store := t.store }

section
variable (t : State) (p : Page) (second : Bool)

theorem State.holding_startOp_followedBy (s : State) (p : Page) (bs : List Byte) (o : StoreOp) :
    s.FollowedBy ((s.holding p 0 bs).startOp o) o := ⟨rfl, rfl⟩

/-- The RECEIVING mark of a compaction is followed by the ACTIVE mark where no record is in use. -/
theorem compactReceiving_goesOn_nil (h : recordsInUse t = []) :
    headerGoesOn (.compactReceiving p second) t = t.startOp (.compactActive p 1 false) := by
  rw [headerGoesOn, h, nextCopy_nil]

/-- Otherwise by the first copy. -/
theorem compactReceiving_goesOn_cons {r : CalRecord × Nat} {more : List (CalRecord × Nat)} (h : recordsInUse t = r :: more) :
    headerGoesOn (.compactReceiving p second) t = t.startOp (.compactCopy p 1 (recordBytes r.1 r.2) more false) := by
  rw [headerGoesOn, h, nextCopy_cons]

/-- The ACTIVE mark of a compaction puts its page in use and is followed by the SPENT mark of the other. -/
theorem compactActive_goesOn (k : Nat) : (headerGoesOn (.compactActive p k second) t).store.inUse = some p ∧
    (headerGoesOn (.compactActive p k second) t).store.nextFree = k ∧
    (headerGoesOn (.compactActive p k second) t).store.op = some (.compactSpent p.other false) ∧
    (headerGoesOn (.compactActive p k second) t).store.opEnd = t.now + 3 ∧
    (headerGoesOn (.compactActive p k second) t).store.nextSeq = t.store.nextSeq ∧
    (headerGoesOn (.compactActive p k second) t).store.inFlight = t.store.inFlight := ⟨rfl, rfl, rfl, rfl, rfl, rfl⟩

/-- The SPENT mark of a compaction is followed by the write that called for it. -/
theorem compactSpent_goesOn_room {w : Write} {b : Bool} {q : Page} (hf : t.store.inFlight = some (w, b))
    (hu : t.store.inUse = some q) (hroom : t.store.nextFree ≤ 63) :
    (headerGoesOn (.compactSpent p second) t).store.op =
        some (.writeSlot q t.store.nextFree (recordBytes w.record t.store.nextSeq) b) ∧
      (headerGoesOn (.compactSpent p second) t).store.opEnd = t.now + 3 := by
  rw [headerGoesOn, startWrite_of_room (s := t.noOp) hf hu hroom]
  exact ⟨rfl, rfl⟩

/-- With an empty queue a preparing SPENT mark leaves the store idle. -/
theorem prepareSpent_goesOn_empty (hq : t.store.queue = []) : (headerGoesOn (.prepareSpent p second) t).store.op = none := by
  rw [headerGoesOn, State.takeNext_of_empty (s := t.noOp) hq]
  rfl

/-- The ACTIVE mark of a format puts page 0 in use. -/
theorem formatActive_goesOn : (headerGoesOn (.formatActive second) t).store.inUse = some .p0 ∧
    (t.store.queue = [] → (headerGoesOn (.formatActive second) t).store.op = none ∧
      (headerGoesOn (.formatActive second) t).store.nextFree = 1) := by
  refine ⟨(State.takeNext_goesOn _).inUse, fun hq => ?_⟩
  rw [headerGoesOn, State.takeNext_of_empty (by simpa using hq)]
  exact ⟨rfl, rfl⟩

/-- A second failed SPENT mark raises fault 28 and leaves the page in use. -/
theorem spent_fails_again {o : StoreOp} (ho : o = .compactSpent p true ∨ o = .prepareSpent p true) :
    (headerFails o t).active .storeWrite = true ∧ (headerFails o t).store.inUse = t.store.inUse := by
  have hactive : (t.noOp.raise .storeWrite none).active .storeWrite = true := by simp
  have hinUse := (raise_storeWrite_goesOn t).inUse
  rcases ho with rfl | rfl
  · have hgoes := startWrite_goesOn (t.noOp.raise .storeWrite none)
    exact ⟨hgoes.active hactive, hgoes.inUse.trans hinUse⟩
  · have hgoes := State.takeNext_goesOn (t.noOp.raise .storeWrite none)
    exact ⟨hgoes.active hactive, hgoes.inUse.trans hinUse⟩

end

section
variable {s : State} {p : Page} {second : Bool} {meant : List Byte}

theorem formatReceiving_ends (h : HeaderMeans s.store.mem (.formatReceiving second) p second meant) : meant.headD 1 = 0 ∧
    s.FollowedBy (headerGoesOn (.formatReceiving second) (s.holding p 0 meant)) (.formatActive false) := by
  obtain ⟨-, hmeant⟩ := h.of_formatReceiving
  exact ⟨hmeant ▸ receivingHeader_mark s.store.mem .p0, s.holding_startOp_followedBy _ _ _⟩

/-- A page whose slot 0 holds a header with the ACTIVE mark is active. -/
theorem pageState_of_active {m : List Host.Cell} {t : State} {seq : Nat} (hslot : slotBytes t.store.mem p 0 = meant)
    (hmeant : meant = activeHeader m p seq) (hseq : seq < 2 ^ 32) (hspent : meant.getD 7 0 = erasedByte) :
    pageState t.store.mem p = .active seq := by
  rw [pageState, hslot, hmeant]
  exact headerState_activeHeader m p (hmeant ▸ hspent) hseq

theorem compactReceiving_ends (h : HeaderMeans s.store.mem (.compactReceiving p second) p second meant) : meant.headD 1 = 0 ∧
    (recordsInUse s = [] →
      s.FollowedBy (headerGoesOn (.compactReceiving p second) (s.holding p 0 meant)) (.compactActive p 1 false)) ∧
    (∀ r more, recordsInUse s = r :: more → s.FollowedBy (headerGoesOn (.compactReceiving p second) (s.holding p 0 meant))
      (.compactCopy p 1 (recordBytes r.1 r.2) more false)) := by
  refine ⟨h.of_compactReceiving ▸ receivingHeader_mark s.store.mem p, fun hrecords => ?_, fun r more hrecords => ?_⟩
  · rw [compactReceiving_goesOn_nil (s.holding p 0 _) p second hrecords]
    exact s.holding_startOp_followedBy _ _ _
  · rw [compactReceiving_goesOn_cons (s.holding p 0 _) p second hrecords]
    exact s.holding_startOp_followedBy _ _ _

end

end Sys2Proof.Machine

/-! ### The obligation -/

namespace Sys2Proof.Proofs

/-- Settles O29: each program leaves its bytes, and each operation has its own continuation and its own second failure. -/
theorem eraseAndHeaderPrograms : Obligations.EraseAndHeaderPrograms := by
  intro s dt o hrun hwf hop hdue now m keeps follows formatFailed abandoned
  have hwf' : Memory.wf (s.advance dt).store.mem = true := hwf
  have hop' : (s.advance dt).store.op = some o := hop
  refine ⟨fun p hpage => ⟨⟨_, exec_pageEraseComplete hrun hdue .asMeant, ?_⟩,
    fun bs hbad => ⟨_, exec_pageEraseComplete hrun hdue (.other bs), ?_⟩⟩, fun p second meant hmeans => ?_⟩
  · have hkeeps : keeps ((s.advance dt).erasedBut p []) (pageBase p) 1024 := State.erasedBut_sameOutside hwf' p []
    have hread (a : Nat) (hlow : pageBase p ≤ a) (hhigh : a < pageBase p + 1024) :
        Memory.read ((s.advance dt).erasedBut p []).store.mem a = erasedByte := State.erasedBut_nil_read hwf' hlow hhigh
    rcases hpage with ⟨second, rfl⟩ | ⟨rfl, second, rfl⟩
    · rw [pageEraseEnds_compact_asMeant hop']
      exact ⟨hread, hkeeps, rfl, rfl⟩
    · rw [pageEraseEnds_format_asMeant hop']
      exact ⟨hread, hkeeps, rfl, rfl⟩
  · have hkeeps : keeps ((s.advance dt).erasedBut p bs) (pageBase p) 1024 := State.erasedBut_sameOutside hwf' p bs
    have hkept {t : State} (hmem : t.store.mem = ((s.advance dt).erasedBut p bs).store.mem) : keeps t (pageBase p) 1024 :=
      fun a ha => hmem ▸ hkeeps a ha
    rcases hpage with ⟨second, rfl⟩ | ⟨rfl, second, rfl⟩
    · rw [pageEraseEnds_compact_other hbad hop']
      cases second with
      | false => exact ⟨hkeeps, fun _ => ⟨rfl, rfl⟩, nofun, nofun, nofun⟩
      | true => exact ⟨hkept (by simp), nofun, nofun, fun _ => abandon_none_abandoned ((s.advance dt).erasedBut p bs), nofun⟩
    · rw [pageEraseEnds_format_other hbad hop']
      cases second with
      | false => exact ⟨hkeeps, nofun, fun _ => ⟨rfl, rfl⟩, nofun, nofun⟩
      | true => exact ⟨hkept (by simp), nofun, nofun, nofun, fun _ => formatFails_formatFailed ((s.advance dt).erasedBut .p0 bs)⟩
  · have hmeans' : HeaderMeans (s.advance dt).store.mem o p second meant := hmeans
    have hleaves {bs : List Byte} (hbs : bs.length = 16) {t : State}
        (hmem : t.store.mem = ((s.advance dt).holding p 0 bs).store.mem) :
        slotBytes t.store.mem p 0 = bs ∧ keeps t (pageBase p) 16 := by
      show slotBytes t.store.mem p 0 = bs ∧ Memory.SameOutside (slotBase p 0) 16 s.store.mem t.store.mem
      rw [hmem]
      exact ⟨State.holding_slotBytes hwf' hbs, State.holding_sameOutside hwf' hbs⟩
    have hexec (rb : ReadBack) := exec_headerProgramComplete hrun hdue rb
    refine ⟨⟨_, (hexec .asMeant).trans (congrArg _ (headerProgramEnds_asMeant hmeans' hop')), ?_⟩, fun found hfound hne =>
      ⟨_, (hexec (.other found)).trans (congrArg _ (headerProgramEnds_other hmeans' hop' hfound hne)), ?_⟩⟩
    · obtain ⟨hslot, hkeeps⟩ := hleaves hmeans'.length (headerGoesOn_mem o ((s.advance dt).holding p 0 meant))
      refine ⟨hslot, hkeeps, headerGoesOn_cal _ _, ?_, ?_, ?_, fun k => ?_, ?_, ?_⟩
      · rintro rfl
        exact formatReceiving_ends hmeans'
      · rintro rfl
        obtain ⟨hinUse, hidle⟩ := formatActive_goesOn ((s.advance dt).holding p 0 meant) second
        obtain ⟨rfl, hmeant⟩ := hmeans'.of_formatActive
        exact ⟨pageState_of_active hslot hmeant (by norm_num), hinUse, hidle⟩
      · rintro rfl
        exact compactReceiving_ends hmeans'
      · rintro rfl
        have hnext := compactActive_goesOn ((s.advance dt).holding p 0 meant) p second k
        exact ⟨fun hspent hseq => pageState_of_active hslot hmeans'.of_compactActive hseq hspent, hnext⟩
      · rintro rfl
        have hmark : meant.getD 7 1 = 0 := hmeans'.of_compactSpent ▸ spentHeader_mark m p
        exact ⟨hmark, (startWrite_goesOn _).inUse, fun w b q hf hu hroom =>
          compactSpent_goesOn_room ((s.advance dt).holding p 0 meant) p second hf hu hroom⟩
      · rintro rfl
        have hmark : meant.getD 7 1 = 0 := hmeans'.of_prepareSpent ▸ spentHeader_mark m p
        have hidle := prepareSpent_goesOn_empty ((s.advance dt).holding p 0 meant) p second
        exact ⟨hmark, (State.takeNext_goesOn _).inUse, hidle⟩
    · obtain ⟨hslot, hkeeps⟩ := hleaves hfound (headerFails_mem o ((s.advance dt).holding p 0 found))
      have hagain (again : StoreOp) := State.holding_startOp_followedBy (s.advance dt) p found again
      refine ⟨hslot, hkeeps, headerFails_cal _ _, ?_, fun k => ?_, ?_, ?_, ?_, ?_, fun _ => ⟨?_, spent_fails_again _ p, ?_⟩⟩
      any_goals
        rintro rfl
        exact hagain _
      · rintro (rfl | ⟨k, rfl⟩) <;> exact abandon_none_abandoned ((s.advance dt).holding p 0 found)
      · rintro (rfl | rfl) <;> exact formatFails_formatFailed ((s.advance dt).holding p 0 found)

end Sys2Proof.Proofs
end

section
/-! PROOFS. The items of the service line (R183, R184): which a command reads and writes, and what a taken write leaves. -/

open Sys2Proof Sys2Proof.Machine

namespace Sys2Proof.Machine

/-! ### Item numbers and values -/

section
variable {s : State} {item : Nat}

/-- Only the items of the Service Port depend on the time. -/
theorem recordItems_advance (dt : Nat) {n : Nat} (h : n ≠ 0) : recordItems (s.advance dt) n = recordItems s n := by
  unfold recordItems
  split <;> first | rfl | exact absurd rfl h

theorem itemValue_advance (dt : Nat) (h : item / 256 ≠ 0) : itemValue (s.advance dt) item = itemValue s item := by
  simp only [itemValue, recordItems_advance dt h]

/-- The time changes no item's presence. -/
theorem itemValue_advance_eq_none_iff (dt : Nat) : itemValue (s.advance dt) item = none ↔ itemValue s item = none := by
  by_cases h : item / 256 = 0
  · simp [itemValue, h, recordItems, portItems]
  · rw [itemValue_advance dt h]

theorem keyOfRecord_of_code (k : Key) : keyOfRecord (0x40 + k.code) = some k := by
  cases k with
  | clutch c => cases c <;> rfl
  | _ => rfl

/-- The record numbers of the calibration keys. -/
theorem Key.code_bounds (k : Key) : 1 ≤ k.code ∧ k.code ≤ 13 := by
  cases k with
  | clutch c => cases c <;> decide
  | _ => decide

theorem recordItems_of_key (s : State) (k : Key) : recordItems s (0x40 + k.code) = some (calItems s k) := by
  obtain ⟨hlow, hhigh⟩ := k.code_bounds
  unfold recordItems
  rw [keyOfRecord_of_code]
  split
  case h_11 =>
    rw [if_neg (by omega), if_neg (by omega), if_neg (by omega)]
    rfl
  all_goals omega

theorem fieldCount_le (k : Key) : fieldCount k ≤ 7 := by cases k <;> simp [fieldCount]

theorem calFields_length (r : CalRecord) : (calFields r).length = fieldCount r.key := by cases r <;> rfl

@[simp] theorem numberItem_length (n : Option Int) : (numberItem n).length = 2 := by cases n <;> rfl

/-- Every field of a key is an item of two bytes. -/
theorem calItems_getElem (s : State) {k : Key} {i : Nat} (h : i < fieldCount k) :
    ∃ old, (calItems s k)[i]? = some old ∧ old.length = 2 := by
  unfold calItems
  split
  next r hr =>
    have hi : i < (calFields r).length := by rwa [calFields_length, State.calEntry_key hr]
    exact ⟨numberItem (some (calFields r)[i]), by simp [hi], numberItem_length _⟩
  next => exact ⟨numberItem none, by simp [h], numberItem_length _⟩

end

/-! ### The writable items -/

section
variable (s : State)

theorem itemValue_gain : itemValue s 0x040A = some (natItem s.hitch.gain) := rfl
theorem itemValue_deadband : itemValue s 0x040B = some (natItem s.hitch.deadband) := rfl

theorem itemValue_offset {i : Nat} {c : Clutch} (h : allClutches[i]? = some c) :
    itemValue s (0x3200 + i) = some (numberItem (some (s.store.working.get c))) := by
  have hi : i < 9 := (List.getElem?_eq_some_iff.mp h).1
  rw [itemValue, show (0x3200 + i) / 256 = 0x32 by omega, show (0x3200 + i) % 256 = i by omega]
  simp [recordItems, offsetItems, h]

/-- The record and the field of a calibration item. -/
theorem calItem_parts {k : Key} {i : Nat} (h : i < fieldCount k) :
    ((0x40 + k.code) * 256 + i) / 256 = 0x40 + k.code ∧ ((0x40 + k.code) * 256 + i) % 256 = i := by
  have := fieldCount_le k
  omega

theorem itemValue_cal {k : Key} {i : Nat} (h : i < fieldCount k) :
    ∃ old, itemValue s ((0x40 + k.code) * 256 + i) = some old ∧ old.length = 2 := by
  obtain ⟨hrecord, hfield⟩ := calItem_parts h
  rw [itemValue, hrecord, hfield, recordItems_of_key]
  exact calItems_getElem s h

end

/-! ### A payload with one field replaced -/

theorem clampField_eq (lo hi : Nat) (v : Int) : ((clampField lo hi v : Nat) : Int) = clampZ lo hi v := by
  refine Int.toNat_of_nonneg ?_
  unfold clampZ
  split
  · omega
  · split <;> omega

/-- The value that a write puts in a field with a range: a multiple of 4 in an offset, a word of SERVICE_KEY, and any other
clamped. -/
def valueWithin (r : CalRecord) (i : Nat) (v lo hi : Int) : Int :=
  match r with
  | .clutch _ _ => if i = 4 then clampOffset v else clampZ lo hi v
  | .serviceKey _ => v % 65536
  | _ => clampZ lo hi v

/-- The value that a write of a field puts there. -/
def putValue (r : CalRecord) (i : Nat) (v : Int) : Int :=
  valueWithin r i v ((fieldRange r).getD i (0, 0)).1 ((fieldRange r).getD i (0, 0)).2

theorem putValue_of_range {r : CalRecord} {i : Nat} {lo hi : Int} (v : Int) (h : (fieldRange r)[i]? = some (lo, hi)) :
    putValue r i v = valueWithin r i v lo hi := by
  have hrange : (fieldRange r).getD i (0, 0) = (lo, hi) := by rw [List.getD_eq_getElem?_getD, h]; rfl
  rw [putValue, hrange]

@[simp] theorem putField_key (r : CalRecord) (i : Nat) (v : Int) : (putField r i v).key = r.key := by cases r <;> rfl

/-- A write of a field replaces it and leaves the others. -/
theorem calFields_putField {r : CalRecord} {i : Nat} (h : i < fieldCount r.key) (v : Int) :
    calFields (putField r i v) = (calFields r).set i (putValue r i v) := by
  cases r with
  | clutch c p =>
    simp only [CalRecord.key, fieldCount] at h
    interval_cases i <;> simp [putField, calFields, putValue, valueWithin, fieldRange, clampField_eq]
  | hitch p =>
    simp only [CalRecord.key, fieldCount] at h
    interval_cases i <;> simp [putField, calFields, putValue, valueWithin, fieldRange, clampField_eq]
  | trailer p =>
    simp only [CalRecord.key, fieldCount] at h
    interval_cases i <;> simp [putField, calFields, putValue, valueWithin, fieldRange, clampField_eq]
  | speed p =>
    simp only [CalRecord.key, fieldCount] at h
    interval_cases i <;> simp [putField, calFields, putValue, valueWithin, fieldRange, clampField_eq]
  | serviceKey p =>
    simp only [CalRecord.key, fieldCount] at h
    have hnonneg : 0 ≤ v % 65536 := Int.emod_nonneg v (by decide)
    interval_cases i <;> simp [putField, calFields, putValue, valueWithin, hnonneg]

/-- The field written. -/
theorem calFields_putField_self {r : CalRecord} {i : Nat} (h : i < fieldCount r.key) (v : Int) :
    (calFields (putField r i v))[i]? = some (putValue r i v) := by
  rw [calFields_putField h, List.getElem?_set_self (by rwa [calFields_length])]

/-- The other fields. -/
theorem calFields_putField_other {r : CalRecord} {i j : Nat} (h : i < fieldCount r.key) (v : Int) (hj : j ≠ i) :
    (calFields (putField r i v))[j]? = (calFields r)[j]? := by
  rw [calFields_putField h, List.getElem?_set_ne hj.symm]

/-! ### The value of two bytes -/

/-- Two bytes as an unsigned number. -/
theorem leNat_pair (a b : Byte) : leNat [a, b] = a.toNat + 256 * b.toNat := by simp [leNat]

/-- Two bytes in two's complement. -/
theorem ofTwos_pair (a b : Byte) : ofTwos 16 (leNat [a, b]) =
    if b.toNat < 128 then (a.toNat : Int) + 256 * b.toNat else (a.toNat : Int) + 256 * b.toNat - 65536 := by
  have ha := a.isLt
  rw [leNat_pair]
  simp only [ofTwos]
  split <;> split <;> omega

/-- Modulo 2 ^ 16 they are the unsigned number again. -/
theorem ofTwos_pair_mod (a b : Byte) : ofTwos 16 (leNat [a, b]) % 65536 = (a.toNat : Int) + 256 * b.toNat := by
  have ha := a.isLt
  have hb := b.isLt
  rw [ofTwos_pair]
  split <;> omega

/-! ### READ_ITEM (R183) -/

section
variable {s : State} {item : Nat}

theorem takeRead_of_none (h : itemValue s item = none) : takeRead item s = s.answerRefused .unknown := by
  simp [takeRead, judgeRead, h]

theorem takeRead_of_secret {v : List Byte} (h : itemValue s item = some v) (hsecret : item / 256 = 0x4D) :
    takeRead item s = s.answerRefused .notPermitted := by simp [takeRead, judgeRead, h, secretItem, hsecret]

/-- The Service Port's items alone are open. -/
theorem itemClass_eq_open_iff : itemClass item = .open_ ↔ item / 256 = 0 := by
  unfold itemClass
  split
  next h => simp [h]
  next h =>
    simp only [h, iff_false]
    repeat' split
    all_goals simp

theorem takeRead_of_locked {v : List Byte} (h : itemValue s item = some v) (hsecret : item / 256 ≠ 0x4D)
    (hopen : item / 256 ≠ 0) (hlocked : s.svc.unlock ≠ .unlocked) : takeRead item s = s.answerRefused .locked := by
  simp [takeRead, judgeRead, h, secretItem, hsecret, itemClass_eq_open_iff, hopen, hlocked]

theorem takeRead_of_readable {v : List Byte} (h : itemValue s item = some v) (hsecret : item / 256 ≠ 0x4D)
    (hopen : item / 256 = 0 ∨ s.svc.unlock = .unlocked) : takeRead item s = s.answer 0x84 (leBytes 2 item ++ v) := by
  have hclass : itemClass item = .open_ ∨ s.svc.unlock = .unlocked := hopen.imp_left itemClass_eq_open_iff.mpr
  simp [takeRead, judgeRead, h, secretItem, hsecret, hclass]

/-- A read changes the service line alone. -/
theorem takeRead_eq (item : Nat) (s : State) : takeRead item s = { s with svc := (takeRead item s).svc } := by
  unfold takeRead
  split <;> rfl

/-! ### WRITE_ITEM judged (R183, R184) -/

theorem judgeWrite_of_none {value : List Byte} (h : itemValue s item = none) :
    judgeWrite item value s = (s, some .unknown) := by simp [judgeWrite, h]

theorem judgeWrite_of_denied {value : List Byte} {r : Reason} (h : itemValue s item ≠ none)
    (hdenied : writeDenied item s = some r) :
    judgeWrite item value s = (s, some r) := by
  obtain ⟨old, hold⟩ := Option.ne_none_iff_exists'.mp h
  simp [judgeWrite, hold, hdenied]

theorem judgeWrite_of_width {value old : List Byte} (h : itemValue s item = some old) (hpass : writeDenied item s = none)
    (hlen : value.length ≠ old.length) : judgeWrite item value s = (s, some .unknown) := by
  simp [judgeWrite, h, hpass, hlen]

theorem judgeWrite_of_taken {value old : List Byte} (h : itemValue s item = some old) (hpass : writeDenied item s = none)
    (hlen : value.length = old.length) : judgeWrite item value s = putItem item (ofTwos 16 (leNat value)) s := by
  simp [judgeWrite, h, hpass, hlen]

/-- An OPEN or an RO item is not written. -/
theorem writeDenied_of_read_only (h : itemClass item = .open_ ∨ itemClass item = .ro) :
    writeDenied item s = some .notPermitted := by
  rcases h with h | h <;> simp [writeDenied, h]

theorem writeDenied_of_svc_locked (h : itemClass item = .svc) (hlocked : s.svc.unlock ≠ .unlocked) :
    writeDenied item s = some .locked := by simp [writeDenied, h, hlocked]

theorem writeDenied_of_prot_locked (h : itemClass item = .prot)
    (hlocked : s.svc.unlock ≠ .unlocked ∨ 50 ≤ s.speed.set.vGround ∨ s.brake.demand.parkApplied = false) :
    writeDenied item s = some .locked := by
  rcases hlocked with hlocked | hmoving | hpark
  · simp [writeDenied, h, hlocked]
  · simp [writeDenied, h, hmoving]
  · simp [writeDenied, h, hpark]

/-- A write that its access class lets pass. -/
def State.maysWrite (s : State) (item : Nat) : Prop :=
  s.svc.unlock = .unlocked ∧ (itemClass item = .svc ∨
    (itemClass item = .prot ∧ s.speed.set.vGround < 50 ∧ s.brake.demand.parkApplied = true))

theorem writeDenied_of_maysWrite (h : s.maysWrite item) : writeDenied item s = none := by
  obtain ⟨hopen, hsvc | ⟨hprot, hslow, hpark⟩⟩ := h
  · simp [writeDenied, hsvc, hopen]
  · simp [writeDenied, hprot, hopen, hslow, hpark]

/-- What may be written is no item of the Service Port. -/
theorem State.maysWrite.record_ne_zero (h : s.maysWrite item) : item / 256 ≠ 0 := by
  intro hzero
  have hclass := itemClass_eq_open_iff.mpr hzero
  obtain ⟨-, h | ⟨h, -⟩⟩ := h <;> simp [hclass] at h

end

/-! ### The items written -/

section
variable (s : State) (v : Int)

theorem putItem_gain : putItem 0x040A v s = (s.onHitch (fun h => { h with gain := clampField 1 255 v }), none) := rfl

theorem putItem_deadband : putItem 0x040B v s = (s.onHitch (fun h => { h with deadband := clampField 0 50 v }), none) := rfl

theorem putItem_offset {i : Nat} (h : i < 9) : putItem (0x3200 + i) v s = writeOffset i v s := by
  have hrecord : (0x3200 + i) / 256 = 0x32 := by omega
  have hfield : (0x3200 + i) % 256 = i := by omega
  rw [putItem, if_neg (by omega), if_neg (by omega), if_pos hrecord, hfield]

theorem putItem_cal {k : Key} {i : Nat} (h : i < fieldCount k) :
    putItem ((0x40 + k.code) * 256 + i) v s = writeCalField k i v s := by
  obtain ⟨hrecord, hfield⟩ := calItem_parts h
  obtain ⟨hlow, hhigh⟩ := k.code_bounds
  rw [putItem, if_neg (by omega), if_neg (by omega), if_neg (by omega), hrecord, hfield, keyOfRecord_of_code]

end

/-! ### A working offset written (R88, R93) -/

section
variable {s : State} {c : Clutch} {i : Nat} (hc : allClutches[i]? = some c)
include hc

theorem writeOffset_of_none (v : Int) (h : s.latestClutch c = none) : writeOffset i v s = (s, some .uncalibrated) := by
  simp [writeOffset, hc, h]

theorem writeOffset_of_some (v : Int) {x : ClutchCal} (h : s.latestClutch c = some x) :
    writeOffset i v s = (changeWorking c (clampOffset v) s, none) := by simp [writeOffset, hc, h]

end

/-- The state with another working offset. -/
def State.offsetAt (s : State) (c : Clutch) (v : Int) : State := s.onStore (fun t => { t with working := t.working.set c v })

section
variable {s : State} {c : Clutch} {v : Int}

/-- An offset that stands, or that is near the saved one, is not handed. -/
theorem changeWorking_of_near (h : v = s.store.working.get c ∨ (v - s.store.saved.get c).natAbs < 12) :
    changeWorking c v s = s.offsetAt c v := by
  refine if_neg fun hfar => ?_
  simp only [State.onStore_store, clutch_get_set] at hfar
  rcases h with h | h
  · exact hfar.1 h
  · omega

/-- An offset at 12 ms or more from the saved one is handed with the latest payload. -/
theorem changeWorking_of_far {x : ClutchCal} (hlatest : s.latestClutch c = some x) (hne : v ≠ s.store.working.get c)
    (hfar : 12 ≤ (v - s.store.saved.get c).natAbs) :
    changeWorking c v s = (s.offsetAt c v).handWrite { record := .clutch c { x with adapt := v }, fromRun := false } := by
  have hhanded : changeWorking c v s = handOffset c (s.offsetAt c v) := if_pos (by simpa using ⟨hne, hfar⟩)
  have hlatest' : (s.offsetAt c v).latestClutch c = some x := hlatest
  rw [hhanded, handOffset_of_some hlatest']
  simp [State.offsetAt]

/-- With a page in use an offset written is the working one; it is handed, and saved, where it is far from the saved one. -/
theorem changeWorking_ends {x : ClutchCal} (hu : s.store.inUse ≠ none) (hbounded : s.Bounded)
    (hlatest : s.latestClutch c = some x) :
    (changeWorking c v s).store.working = s.store.working.set c v ∧
      (v = s.store.working.get c ∨ (v - s.store.saved.get c).natAbs < 12 →
        (changeWorking c v s).store.queue = s.store.queue ∧ (changeWorking c v s).store.saved = s.store.saved) ∧
      (v ≠ s.store.working.get c → 12 ≤ (v - s.store.saved.get c).natAbs →
        (changeWorking c v s).latestClutch c = some { x with adapt := v } ∧
          (changeWorking c v s).store.saved = s.store.saved.set c v) ∧
      changeWorking c v s = { s with store := (changeWorking c v s).store } := by
  have hu' : (s.offsetAt c v).store.inUse ≠ none := hu
  have hkeys := (s.bounded_iff.mp hbounded).2
  by_cases hnear : v = s.store.working.get c ∨ (v - s.store.saved.get c).natAbs < 12
  · rw [changeWorking_of_near hnear]
    exact ⟨rfl, fun _ => ⟨rfl, rfl⟩, fun hne hfar => absurd hnear (by omega), rfl⟩
  · have hfar : v ≠ s.store.working.get c ∧ 12 ≤ (v - s.store.saved.get c).natAbs := by omega
    have hsaved := State.handWrite_saved { record := .clutch c { x with adapt := v }, fromRun := false } hu' rfl
    rw [changeWorking_of_far hlatest hfar.1 hfar.2]
    refine ⟨State.handWrite_working _ hu', fun h => absurd h hnear, fun _ _ => ⟨?_, hsaved⟩, State.handWrite_eq_store _ hu'⟩
    exact State.latestClutch_eq_some_iff.mpr (State.handWrite_latestPayload _ hu' hkeys)

end

/-! ### A calibration field written (R101) -/

section
variable {s : State} {k : Key}

theorem basePayload_of_some {r : CalRecord} (h : s.latestPayload k = some r) : basePayload s k = some r := by
  simp [basePayload, h]

/-- The payload a write of HITCH builds on before there is one. -/
theorem basePayload_of_none (h : s.latestPayload k = none) : basePayload s k =
    if k = .hitch then some (.hitch { adcLow := 0, adcHigh := 4095, dFs := 4095, iThr := 200, iMax := 1500 }) else none := by
  cases k <;> simp [basePayload, h]

theorem basePayload_key {r : CalRecord} (h : basePayload s k = some r) : r.key = k := by
  cases hlatest : s.latestPayload k with
  | some x => exact State.latestPayload_key (hlatest.trans ((basePayload_of_some hlatest).symm.trans h))
  | none =>
    rw [basePayload_of_none hlatest] at h
    split at h
    next hk =>
      obtain rfl := Option.some.inj h
      exact hk.symm
    next => cases h

theorem writeCalField_of_none {i : Nat} (v : Int) (h : basePayload s k = none) :
    writeCalField k i v s = (s, some .uncalibrated) := by simp [writeCalField, h]

theorem writeCalField_of_some {i : Nat} (v : Int) {r : CalRecord} (h : basePayload s k = some r) :
    writeCalField k i v s = (s.handWrite { record := putField r i v, fromRun := false }, none) := by simp [writeCalField, h]

/-- With a page in use the payload with the field replaced is the key's latest, and the calibration in use and the working
offsets stand. -/
theorem putField_handed {i : Nat} (v : Int) {r : CalRecord} (hu : s.store.inUse ≠ none) (hbounded : s.Bounded)
    (h : basePayload s k = some r) :
    let t := s.handWrite { record := putField r i v, fromRun := false }
    t.latestPayload k = some (putField r i v) ∧ t.store.cal = s.store.cal ∧ t.store.working = s.store.working ∧
      t = { s with store := t.store } := by
  have hlatest := State.handWrite_latestPayload { record := putField r i v, fromRun := false } hu (s.bounded_iff.mp hbounded).2
  have hkey : (putField r i v).key = k := (putField_key r i v).trans (basePayload_key h)
  rw [hkey] at hlatest
  exact ⟨hlatest, State.handWrite_cal _ hu, State.handWrite_working _ hu, State.handWrite_eq_store _ hu⟩

end

/-! ### The commands -/

section
variable {s : State} {dt item : Nat} (hrun : s.running = true)
include hrun

theorem exec_readItem_of_frame (h : s.svc.frame = some (.readItem item)) :
    exec (.readItem dt) s = .next (takeRead item (s.advance dt)) := by
  rw [exec_of_running rfl hrun, withFrame, State.advance_svc, h]; rfl

theorem exec_writeItem_of_frame {value : List Byte} (h : s.svc.frame = some (.writeItem item value)) :
    exec (.writeItem dt) s = .next (answered (judgeWrite item value (s.advance dt))) := by
  rw [exec_of_running rfl hrun, withFrame, State.advance_svc, h]; rfl

end

/-- A refusal that changed nothing else. -/
theorem answered_of_refused (s : State) (r : Reason) : (answered (s, some r)).answeredRefused r ∧
    answered (s, some r) = { s with svc := (answered (s, some r)).svc } := ⟨⟨rfl, rfl⟩, rfl⟩

theorem answered_of_done (s : State) : (answered (s, none)).answeredOk := State.answeredOk_of_answerResult s

/-- An answer to a command that changed the store. -/
theorem answered_eq_of_store {s t : State} (h : t = { s with store := t.store }) :
    answered (t, none) = { s with svc := (answered (t, none)).svc, store := t.store } := by
  refine (answered_eq (t, none)).trans ?_
  exact congrArg (fun u : State => { u with svc := (answered (t, none)).svc }) h

end Sys2Proof.Machine

/-! ### The obligation -/

namespace Sys2Proof.Proofs

/-- Settles O58: a read and a write are judged by presence, class and width, and a taken write is the write of its item. -/
theorem itemAccess : Obligations.ItemAccess := by
  intro s dt item hrun
  refine ⟨fun hframe => ⟨_, exec_readItem_of_frame hrun hframe, fun hnone => ?_, fun v hv => ?_, takeRead_eq _ _⟩, ?_⟩
  · rw [takeRead_of_none ((itemValue_advance_eq_none_iff dt).mpr hnone)]
    exact State.answeredRefused_of_answerRefused _ _
  · obtain ⟨w, hw⟩ := Option.ne_none_iff_exists'.mp
      (mt (itemValue_advance_eq_none_iff dt).mp (Option.ne_none_iff_exists'.mpr ⟨v, hv⟩))
    refine ⟨fun hsecret => ?_, fun hsecret hopen hlocked => ?_, fun hreadable => ?_⟩
    · rw [takeRead_of_secret hw hsecret]
      exact State.answeredRefused_of_answerRefused _ _
    · rw [takeRead_of_locked hw hsecret hopen hlocked]
      exact State.answeredRefused_of_answerRefused _ _
    · rw [takeRead_of_readable hw (by omega) (hreadable.imp_right And.right), hw]
      rfl
  · intro value hframe taken refusedOnly
    refine ⟨_, exec_writeItem_of_frame hrun hframe, ?_⟩
    have hrefused {r : Reason} (h : judgeWrite item value (s.advance dt) = (s.advance dt, some r)) :
        refusedOnly (answered (judgeWrite item value (s.advance dt))) r := by
      rw [h]
      exact answered_of_refused _ r
    have hpresent (h : itemValue s item ≠ none) : itemValue (s.advance dt) item ≠ none :=
      mt (itemValue_advance_eq_none_iff dt).mp h
    refine ⟨fun hnone => ?_, fun hv hclass => ?_, fun hv hclass hlocked => ?_, fun hv hclass hlocked => ?_,
      fun old hold htaken hlen => ?_, fun a b hvalue htaken => ?_, by simp [answered]⟩
    · exact hrefused (judgeWrite_of_none ((itemValue_advance_eq_none_iff dt).mpr hnone))
    · exact hrefused (judgeWrite_of_denied (hpresent hv) (writeDenied_of_read_only hclass))
    · exact hrefused (judgeWrite_of_denied (hpresent hv) (writeDenied_of_svc_locked hclass hlocked))
    · exact hrefused (judgeWrite_of_denied (hpresent hv) (writeDenied_of_prot_locked hclass hlocked))
    · have hmay : (s.advance dt).maysWrite item := htaken
      exact hrefused (judgeWrite_of_width ((itemValue_advance dt hmay.record_ne_zero).trans hold)
        (writeDenied_of_maysWrite hmay) hlen)
    · subst hvalue
      intro n v offset
      have hmay : (s.advance dt).maysWrite item := htaken
      have hwritten {old : List Byte} (hold : itemValue (s.advance dt) item = some old) (hlen : old.length = 2) :
          judgeWrite item [a, b] (s.advance dt) = putItem item v (s.advance dt) := by
        rw [judgeWrite_of_taken hold (writeDenied_of_maysWrite hmay) (by simp [hlen]), ofTwos_pair]
      refine ⟨?_, ?_, ?_, ?_⟩
      · rintro rfl
        rw [hwritten (itemValue_gain _) (numberItem_length _), putItem_gain]
        exact ⟨answered_of_done _, rfl, rfl⟩
      · rintro rfl
        rw [hwritten (itemValue_deadband _) (numberItem_length _), putItem_deadband]
        exact ⟨answered_of_done _, rfl, rfl⟩
      · rintro i c rfl hc
        have hput := (hwritten (itemValue_offset _ hc) (numberItem_length _)).trans
          (putItem_offset (s.advance dt) v (List.getElem?_eq_some_iff.mp hc).1)
        refine ⟨fun hnone => hrefused (hput.trans (writeOffset_of_none hc v hnone)), fun x hx => ?_⟩
        rw [hput, writeOffset_of_some (s := s.advance dt) hc v hx]
        refine ⟨answered_of_done _, fun hu hbounded => ?_⟩
        obtain ⟨hworking, hnear, hfar, heq⟩ := changeWorking_ends (s := s.advance dt) (v := clampOffset v) hu hbounded hx
        exact ⟨hworking, hnear, hfar, answered_eq_of_store heq⟩
      · rintro k i rfl hi base
        have hbase : basePayload (s.advance dt) k = base := by
          cases hlatest : s.latestPayload k with
          | some r => simp only [base, hlatest, basePayload_of_some (s := s.advance dt) hlatest]
          | none => simp only [base, hlatest, basePayload_of_none (s := s.advance dt) hlatest]
        obtain ⟨old, hold, hlen⟩ := itemValue_cal (s.advance dt) hi
        have hput := (hwritten hold hlen).trans (putItem_cal (s.advance dt) v hi)
        refine ⟨fun hnone => hrefused (hput.trans (writeCalField_of_none v (hbase.trans hnone))), fun r hr => ?_⟩
        have hr' := hbase.trans hr
        rw [hput, writeCalField_of_some v hr']
        refine ⟨answered_of_done _, fun hu hbounded => ?_⟩
        obtain ⟨hlatest, hcal, hworking, heq⟩ := putField_handed (s := s.advance dt) (i := i) v hu hbounded hr'
        obtain rfl := basePayload_key hr'
        refine ⟨⟨putField r i v, hlatest, putField_key r i v, fun j hj => calFields_putField_other hi v hj,
          fun lo hi' hrange => ?_⟩, hcal, hworking, answered_eq_of_store heq⟩
        rw [calFields_putField_self hi v, putValue_of_range v hrange]
        cases r with
        | serviceKey p =>
          have hword : v % 65536 = n := (congrArg (· % 65536) (ofTwos_pair a b)).symm.trans (ofTwos_pair_mod a b)
          exact congrArg some hword
        | _ => rfl

end Sys2Proof.Proofs
end

section
/-! PROOFS. The axle step (R107): the demand it applies under an override (R110 to R115), the AUTO condition (R111), and the
drop of the differential lock (R117, R118). -/

open Sys2Proof Sys2Proof.Machine

namespace Sys2Proof.Machine

/-! ### Faults that reach no block, and the supply monitor -/

/-- A verdict on a fault that closes no gate and that no block reacts to at once leaves the records of the blocks (R157). -/
theorem State.report_quiet (s : State) {c : FaultCode} (v : Verdict) (hg : gatesOf c none = [])
    (h3 : c ≠ .vehicleLinkLost) (h4 : c ≠ .trailerSupplyLost) : (s.report c v).auth = s.auth ∧
      (s.report c v).axle = s.axle ∧ (s.report c v).hitch = s.hitch ∧ (s.report c v).brake = s.brake := by
  cases v with
  | quiet => exact ⟨rfl, rfl, rfl, rfl⟩
  | raise =>
    obtain ⟨hauth, -, haxle, hhitch, hbrake⟩ := s.raise_quiet c none hg h3 h4
    exact ⟨hauth, haxle, hhitch, hbrake⟩
  | clear => simp [State.report]

/-- Where the output rule alone has moved the channels, the valve supply is judged as before (R82). -/
theorem State.Redrives.valveSupplyOk {s t : State} (h : s.Redrives t) : t.valveSupplyOk = s.valveSupplyOk := by
  rw [State.valveSupplyOk, h.monitor, State.valveSupplyOk]

/-! ### Stage 2: the modes in use (R108) -/

section
variable (s : State)

theorem modesStage_axle : (modesStage s).axle = { s.axle with own := (modesStage s).axle.own } := by
  unfold modesStage
  cases sourceModes s <;> rfl

theorem modesStage_releaseBlock : (modesStage s).axle.own.releaseBlock = s.axle.own.releaseBlock := by
  unfold modesStage
  cases sourceModes s <;> rfl

/-! ### Stage 3: the engagements (R110, R114) -/

/-- The brake engagement as it is judged at a step (R110). -/
theorem State.judgeBrakeEngagement_brakeEngagement : s.judgeBrakeEngagement.axle.brakeEngagement =
    (s.axle.brakeEngagement || (s.brake.demand.brakeActive && decide (200 ≤ s.speed.set.vGround))) := by
  unfold State.judgeBrakeEngagement
  split
  next h => simp_all [State.engageAxle]
  next h => cases hb : s.axle.brakeEngagement <;> simp_all

/-- The judgement of the brake engagement leaves the rest of what stage 3 reads of the axle's records. -/
theorem State.judgeBrakeEngagement_axle : s.judgeBrakeEngagement.axle.faultEngagement = s.axle.faultEngagement ∧
    s.judgeBrakeEngagement.axle.ackSeen = s.axle.ackSeen ∧ s.judgeBrakeEngagement.axle.autoCond = s.axle.autoCond ∧
    s.judgeBrakeEngagement.axle.own.releaseBlock = s.axle.own.releaseBlock := by
  unfold State.judgeBrakeEngagement
  split
  · simp only [State.engageAxle, State.publishAxle_axle, State.demand_frame, true_and, applyFwd]
    split <;> rfl
  · exact ⟨rfl, rfl, rfl, rfl⟩

theorem engagementStage_autoCond : (engagementStage s).axle.autoCond = s.axle.autoCond := by
  obtain ⟨-, -, hcond, -⟩ := s.judgeBrakeEngagement_axle
  exact hcond

/-- While brake_active holds, a brake engagement that stands goes on, and one begins at v_ground 200 or more (R110). -/
theorem engagementStage_brakeEngagement (hactive : s.brake.demand.brakeActive = true)
    (h : s.axle.brakeEngagement = true ∨ 200 ≤ s.speed.set.vGround) :
    (engagementStage s).axle.brakeEngagement = true := by
  have hjudged := s.judgeBrakeEngagement_brakeEngagement
  have hkept : (engagementStage s).axle.brakeEngagement = s.judgeBrakeEngagement.axle.brakeEngagement := by
    simp [engagementStage, hactive]
  rcases h with h | h <;> simp [hkept, hjudged, hactive, h]

/-- A fault engagement goes on while fault 3 or 4 is active (R110). -/
theorem engagementStage_faultEngagement : (engagementStage s).axle.faultEngagement =
    (s.axle.faultEngagement && (s.active .vehicleLinkLost || s.active .trailerSupplyLost)) := by
  simp [engagementStage, s.judgeBrakeEngagement_axle.1, State.active]

/-- A release stays blocked until fault 20 is acknowledged and inactive (R114). -/
theorem engagementStage_releaseBlock : (engagementStage s).axle.own.releaseBlock =
    (s.axle.own.releaseBlock && !(s.axle.ackSeen && !s.active .axleReleaseFailed)) := by
  obtain ⟨-, hack, -, hblock⟩ := s.judgeBrakeEngagement_axle
  simp [engagementStage, hack, hblock, State.active]

/-! ### Stage 4: the AUTO condition and the applied demand (R111, R112) -/

/-- Lines 1 to 5 of R112: the demand is engaged whatever the mode in use. -/
def State.Overridden : Prop :=
  s.axle.brakeEngagement = true ∨ s.axle.faultEngagement = true ∨ s.gateOpen .axle = false ∨ s.valveSupplyOk = false ∨
    s.axle.own.releaseBlock = true

/-- The table of R111. -/
theorem autoCondition_table :
    (s.speed.set.vGround ≤ 1300 → (autoCondition s = true ↔
        s.hitch.lift = .work ∨ (s.speed.set.slipValid = true ∧ 150 ≤ s.speed.set.slipF))) ∧
      (1300 < s.speed.set.vGround → s.speed.set.vGround < 1500 → autoCondition s = s.axle.autoCond) ∧
      (1500 ≤ s.speed.set.vGround → autoCondition s = false) := by
  unfold autoCondition
  refine ⟨fun hlow => ?_, fun hlow hhigh => ?_, fun hhigh => ?_⟩
  · simp [hlow]
  · rw [if_neg (by omega), if_pos hhigh]
  · rw [if_neg (by omega), if_neg (by omega)]

theorem appliedStage_autoCond : (appliedStage s).axle.autoCond = autoCondition s := by
  unfold appliedStage
  extract_lets t w waited
  split <;> rfl

/-- An override asks for the engaged demand. -/
theorem wantedDemand_of_overridden (h : s.Overridden) : wantedDemand s = (true, false) := by
  unfold wantedDemand
  refine if_pos ?_
  rcases h with h | h | h | h | h <;> simp [h]

/-- The demand of an override is applied at once, without the dwell (R112). -/
theorem appliedStage_of_overridden (h : s.Overridden) : (appliedStage s).axle.appliedEngaged = true := by
  unfold appliedStage
  extract_lets t w waited
  have hwanted : w = (true, false) := wantedDemand_of_overridden t h
  rw [hwanted]
  split
  next => rfl
  next hsame => simpa using hsame

end

/-! ### Stages 5 to 8: what they leave of the demand -/

/-- Between two states of an axle step the records of other blocks and the AUTO condition stand, and a demand that is engaged
stays engaged. -/
structure State.StaysEngaged (s t : State) : Prop where
  others : t.auth = s.auth ∧ t.hitch = s.hitch ∧ t.brake = s.brake
  autoCond : t.axle.autoCond = s.axle.autoCond
  engaged : s.axle.appliedEngaged = true → t.axle.appliedEngaged = true

section
variable {s t u : State}

theorem State.StaysEngaged.trans (h : s.StaysEngaged t) (k : t.StaysEngaged u) : s.StaysEngaged u := by
  obtain ⟨hauth, hhitch, hbrake⟩ := h.others
  obtain ⟨kauth, khitch, kbrake⟩ := k.others
  exact ⟨⟨kauth.trans hauth, khitch.trans hhitch, kbrake.trans hbrake⟩, k.autoCond.trans h.autoCond, k.engaged ∘ h.engaged⟩

theorem State.StaysEngaged.ite {p : Prop} [Decidable p] (ht : s.StaysEngaged t) (hu : s.StaysEngaged u) :
    s.StaysEngaged (if p then t else u) := by split <;> assumption

end

section
variable (s : State)

theorem State.onOwn_staysEngaged (f : AxleRec → AxleRec) : s.StaysEngaged (s.onOwn f) := ⟨⟨rfl, rfl, rfl⟩, rfl, id⟩

theorem State.reportInactive_staysEngaged (c : FaultCode) : s.StaysEngaged (s.reportInactive c) :=
  ⟨by simp, by simp, by simp⟩

/-- A failed release asks for the engaged demand (R114). -/
theorem failedRelease_staysEngaged : s.StaysEngaged (failedRelease s) := by
  obtain ⟨hauth, -, haxle, hhitch, hbrake⟩ := State.raise_quiet
    ((s.onAxle (fun a => { a with appliedEngaged := true, lastChange := some s.now, ackSeen := false })).onOwn
      (fun a => { enterFwd s.now .applying a with releaseBlock := true }))
    .axleReleaseFailed none rfl (by decide) (by decide)
  have hcond := congrArg AxleState.autoCond haxle
  have hengaged := congrArg AxleState.appliedEngaged haxle
  exact ⟨⟨hauth, hhitch, hbrake⟩, hcond, fun _ => hengaged⟩

theorem moveFwd_staysEngaged (closed : Bool) : s.StaysEngaged (moveFwd closed s) := by
  unfold moveFwd
  extract_lets a waited openSince t
  have ht : s.StaysEngaged t := ⟨⟨rfl, rfl, rfl⟩, rfl, id⟩
  have hmove (f : AxleRec → AxleRec) : s.StaysEngaged (t.onOwn f) := ht.trans (t.onOwn_staysEngaged f)
  have hfailed : s.StaysEngaged (failedRelease t) := ht.trans (failedRelease_staysEngaged t)
  split
  case h_1 => exact .ite ht (hmove _)
  case h_2 => exact .ite (hmove _) (.ite hfailed ht)
  case h_3 => exact .ite (hmove _) (.ite hfailed ht)
  case h_4 => exact .ite ((hmove _).trans (State.reportInactive_staysEngaged _ _)) ht

/-! ### The differential lock (R117, R118) -/

/-- The drop of the diff lock changes the Axle State alone (R117). -/
theorem State.judgeDrop_axle :
    s.judgeDrop.axle = { s.axle with own := s.judgeDrop.axle.own, published := s.judgeDrop.axle.published } := by
  by_cases hcause : s.dropCause = true
  · by_cases hmode : s.axle.own.dlMode = some .on <;> by_cases hengaged : s.axle.own.dlEngaged = true <;>
      simp [State.judgeDrop, hcause, hmode, hengaged]
  · simp [State.judgeDrop, hcause]

/-- A drop cause leaves the diff lock DISENGAGED, and in mode ON it sets dl_cancel (R117). -/
theorem State.judgeDrop_own_of_cause (h : s.dropCause = true) : s.judgeDrop.axle.own.dlEngaged = false ∧
    s.judgeDrop.axle.own.dlMode = s.axle.own.dlMode ∧
    s.judgeDrop.axle.own.dlCancel = (s.axle.own.dlCancel || decide (s.axle.own.dlMode = some .on)) := by
  by_cases hmode : s.axle.own.dlMode = some .on <;> by_cases hengaged : s.axle.own.dlEngaged = true <;>
    simp [State.judgeDrop, h, hmode, hengaged]

theorem State.dropCause_iff : s.dropCause = true ↔ s.brake.demand.pedalLeft = true ∨ s.brake.demand.pedalRight = true ∨
    1500 < s.speed.set.vGround := by simp [State.dropCause, or_assoc]

/-- What R118 keeps the lock out by, on the AXLE gate as the step read it. -/
def State.LockBarred (gateOpen : Bool) : Prop :=
  s.dropCause = true ∨ s.build.diffLockFitted = false ∨ gateOpen = false ∨ s.valveSupplyOk = false

theorem lockWanted_of_barred {gateOpen : Bool} (h : s.LockBarred gateOpen) : lockWanted gateOpen s = false := by
  unfold lockWanted
  refine if_pos ?_
  rcases h with h | h | h | h <;> simp [h]

theorem State.LockBarred.of_same {s t : State} {gateOpen : Bool} (h : s.LockBarred gateOpen) (hbrake : t.brake = s.brake)
    (hspeed : t.speed = s.speed) (hbuild : t.build = s.build) (hsupply : t.valveSupplyOk = s.valveSupplyOk) :
    t.LockBarred gateOpen := by
  simpa only [State.LockBarred, State.dropCause, hbrake, hspeed, hbuild, hsupply] using h

theorem lockStage_staysEngaged (gateOpen : Bool) : s.StaysEngaged (lockStage gateOpen s) := by
  have hdrop : s.StaysEngaged s.judgeDrop := ⟨by simp, by rw [s.judgeDrop_axle], by rw [s.judgeDrop_axle]; exact id⟩
  unfold lockStage
  exact hdrop.trans (State.onOwn_staysEngaged _ _)

/-- A lock that is barred is left DISENGAGED (R118). -/
theorem lockStage_of_barred {gateOpen : Bool} (h : s.LockBarred gateOpen) :
    (lockStage gateOpen s).axle.own.dlEngaged = false :=
  lockWanted_of_barred _ (h.of_same (by simp) (by simp) (by simp) s.judgeDrop_redrives.valveSupplyOk)

/-- A drop cause in mode ON sets dl_cancel (R117). -/
theorem lockStage_of_cause (gateOpen : Bool) (h : s.dropCause = true)
    (hmode : (lockStage gateOpen s).axle.own.dlMode = some .on) : (lockStage gateOpen s).axle.own.dlCancel = true := by
  obtain ⟨-, hkept, hcancel⟩ := s.judgeDrop_own_of_cause h
  have hmode' : s.axle.own.dlMode = some .on := hkept.symm.trans hmode
  exact hcancel.trans (by simp [hmode'])

/-! ### Stages 7 and 8: the transmission check and the outputs (R107, R116) -/

/-- The transmission check changes its own counts, and of the rest faults alone (R116). -/
theorem transmissionStage_axle :
    (transmissionStage s).axle = { s.axle with deviation := (transmissionStage s).axle.deviation } := by
  have hquiet (t : State) (v : Verdict) : (t.report .axleNotTransmitting v).axle = t.axle := by
    obtain ⟨-, haxle, -⟩ := t.report_quiet (c := .axleNotTransmitting) v rfl (by decide) (by decide)
    exact haxle
  unfold transmissionStage
  extract_lets
  rw [hquiet]
  rfl

theorem transmissionStage_staysEngaged : s.StaysEngaged (transmissionStage s) := by
  obtain ⟨hauth, -, hhitch, hbrake⟩ := State.report_quiet (c := .axleNotTransmitting) (s.onAxle _) _ rfl (by decide) (by decide)
  exact ⟨⟨hauth, hhitch, hbrake⟩, by rw [transmissionStage_axle], by rw [transmissionStage_axle]; exact id⟩

theorem axleOutputs_axle : (axleOutputs s).axle = { s.axle with published := s.axle.own } := by simp [axleOutputs]

/-- Channels 9 and 10 follow fwd_state and dl_state (R107). -/
theorem axleOutputs_demand :
    (axleOutputs s).chan.channels.fwdRelease.demand =
        (if s.axle.own.fwd = .releasing ∨ s.axle.own.fwd = .released then 1 else 0) ∧
      (axleOutputs s).chan.channels.diffLock.demand = bit s.axle.own.dlEngaged := by
  refine ⟨?_, State.demand_get _ (i := .diffLock) _ (by decide)⟩
  have hother := State.demand_get_other (s.demand .fwdRelease (bit (decide (s.axle.own.fwd = .releasing) ||
    decide (s.axle.own.fwd = .released)))) (bit s.axle.own.dlEngaged) (i := .diffLock) (j := .fwdRelease) (by decide)
  exact (congrArg Channel.demand hother).trans ((State.demand_get _ _ (by decide)).trans (by simp [bit]))

theorem axleOutputs_staysEngaged : s.StaysEngaged (axleOutputs s) :=
  ⟨by simp, by rw [axleOutputs_axle], by rw [axleOutputs_axle]; exact id⟩

/-! ### The axle step (R107) -/

/-- Stages 2 to 4: the demand of the four-wheel-drive clutch. -/
def axleDemanded : State := appliedStage (engagementStage (modesStage s))

/-- Stages 2 to 5: the clutch has moved. -/
def axleMoved (closed : Bool) : State := (moveFwd closed (axleDemanded s)).onOwn (endTransition s.now)

/-- Stages 2 to 7: the diff lock and the transmission check have been judged. -/
def axleJudged (closed : Bool) : State := transmissionStage (lockStage (s.gateOpen .axle) (axleMoved s closed))

theorem axleStep_eq (closed : Bool) : axleStep closed s = axleOutputs (axleJudged s closed) := rfl

theorem axleDemanded_redrives : s.Redrives (axleDemanded s) := by
  have hmodes : s.Redrives (modesStage s) := .of_same (by simp) (by simp)
  exact (hmodes.trans (engagementStage_redrives _)).trans (.of_same (by simp [axleDemanded]) (by simp [axleDemanded]))

theorem axleMoved_redrives (closed : Bool) : s.Redrives (axleMoved s closed) :=
  ((axleDemanded_redrives s).trans (moveFwd_redrives _ closed)).trans (.of_same rfl rfl)

theorem axleMoved_staysEngaged (closed : Bool) : (axleDemanded s).StaysEngaged (axleMoved s closed) :=
  (moveFwd_staysEngaged _ closed).trans (State.onOwn_staysEngaged _ _)

theorem axleStep_staysEngaged (closed : Bool) : (axleDemanded s).StaysEngaged (axleStep closed s) :=
  (((axleMoved_staysEngaged s closed).trans (lockStage_staysEngaged _ _)).trans (transmissionStage_staysEngaged _)).trans
    (axleOutputs_staysEngaged _)

theorem axleDemanded_others :
    (axleDemanded s).auth = s.auth ∧ (axleDemanded s).hitch = s.hitch ∧ (axleDemanded s).brake = s.brake := by
  simp [axleDemanded]

/-- An axle step leaves the Arbiter's, the hitch's and the brake's records. -/
theorem axleStep_others (closed : Bool) : (axleStep closed s).auth = s.auth ∧ (axleStep closed s).hitch = s.hitch ∧
    (axleStep closed s).brake = s.brake := by
  obtain ⟨hauth, hhitch, hbrake⟩ := axleDemanded_others s
  obtain ⟨kauth, khitch, kbrake⟩ := (axleStep_staysEngaged s closed).others
  exact ⟨kauth.trans hauth, khitch.trans hhitch, kbrake.trans hbrake⟩

/-- The AUTO condition that a step leaves is the one of its start (R111). -/
theorem axleStep_autoCond (closed : Bool) : (axleStep closed s).axle.autoCond = autoCondition s := by
  have hkept : (engagementStage (modesStage s)).axle.autoCond = s.axle.autoCond := by
    rw [engagementStage_autoCond, modesStage_axle]
  rw [(axleStep_staysEngaged s closed).autoCond, axleDemanded, appliedStage_autoCond]
  simp [autoCondition, hkept]

/-! ### The overrides of a step (R110 to R115) -/

/-- An override that stands after stage 3 leaves the demand engaged (R112). -/
theorem axleStep_of_overridden (closed : Bool) (h : (engagementStage (modesStage s)).Overridden) :
    (axleStep closed s).axle.appliedEngaged = true :=
  (axleStep_staysEngaged s closed).engaged (appliedStage_of_overridden _ h)

theorem overridden_of_braking (hactive : s.brake.demand.brakeActive = true)
    (h : s.axle.brakeEngagement = true ∨ 200 ≤ s.speed.set.vGround) : (engagementStage (modesStage s)).Overridden := by
  refine .inl (engagementStage_brakeEngagement _ (by simpa using hactive) ?_)
  rw [modesStage_axle]
  simpa using h

theorem overridden_of_fault (hengaged : s.axle.faultEngagement = true)
    (h : s.active .vehicleLinkLost = true ∨ s.active .trailerSupplyLost = true) :
    (engagementStage (modesStage s)).Overridden := by
  refine .inr (.inl ?_)
  rw [engagementStage_faultEngagement, modesStage_axle]
  simpa [State.active, hengaged] using h

theorem overridden_of_unsupplied (h : s.gateOpen .axle = false ∨ s.valveSupplyOk = false) :
    (engagementStage (modesStage s)).Overridden := by
  have hmodes : s.Redrives (modesStage s) := .of_same (by simp) (by simp)
  have hsupply := (hmodes.trans (engagementStage_redrives _)).valveSupplyOk
  have hgate : (engagementStage (modesStage s)).gateOpen .axle = s.gateOpen .axle := by simp [State.gateOpen]
  rw [State.Overridden, hsupply, hgate]
  exact .inr (.inr (h.elim .inl (.inr ∘ .inl)))

theorem overridden_of_blocked (hblocked : s.axle.own.releaseBlock = true)
    (h : s.axle.ackSeen = false ∨ s.active .axleReleaseFailed = true) : (engagementStage (modesStage s)).Overridden := by
  refine .inr (.inr (.inr (.inr ?_)))
  rw [engagementStage_releaseBlock, modesStage_releaseBlock, modesStage_axle, hblocked]
  rcases h with h | h
  · simp [h]
  · have hactive : (modesStage s).active .axleReleaseFailed = true := by simpa [State.active] using h
    simp [hactive]

/-! ### What a step publishes, and the drop of the diff lock -/

/-- The Axle State is published, and channels 9 and 10 follow it (R107, R113). -/
theorem axleStep_publishes (closed : Bool) :
    (axleStep closed s).axle.published = (axleStep closed s).axle.own ∧
      (axleStep closed s).chan.channels.fwdRelease.demand =
        (if (axleStep closed s).axle.own.fwd = .releasing ∨ (axleStep closed s).axle.own.fwd = .released then 1 else 0) ∧
      (axleStep closed s).chan.channels.diffLock.demand = bit (axleStep closed s).axle.own.dlEngaged := by
  rw [axleStep_eq, axleOutputs_axle]
  exact ⟨rfl, axleOutputs_demand _⟩

/-- The Axle State that a step leaves is the one of its stage 6. -/
theorem axleStep_own (closed : Bool) :
    (axleStep closed s).axle.own = (lockStage (s.gateOpen .axle) (axleMoved s closed)).axle.own := by
  rw [axleStep_eq, axleOutputs_axle, axleJudged, transmissionStage_axle]

/-- What bars the lock, and what drops it, is the same at stage 6 as at the start of the step. -/
theorem axleMoved_others (closed : Bool) : (axleMoved s closed).brake = s.brake ∧ (axleMoved s closed).speed = s.speed ∧
    (axleMoved s closed).build = s.build := by
  obtain ⟨-, -, hdemanded⟩ := axleDemanded_others s
  obtain ⟨-, -, hmoved⟩ := (axleMoved_staysEngaged s closed).others
  exact ⟨hmoved.trans hdemanded, by simp [axleMoved, axleDemanded], by simp [axleMoved, axleDemanded]⟩

/-- A lock barred at the start of a step is DISENGAGED at its end (R118). -/
theorem axleStep_dlEngaged (closed : Bool) (h : s.LockBarred (s.gateOpen .axle)) :
    (axleStep closed s).axle.own.dlEngaged = false := by
  obtain ⟨hbrake, hspeed, hbuild⟩ := axleMoved_others s closed
  rw [axleStep_own]
  exact lockStage_of_barred _ (h.of_same hbrake hspeed hbuild (axleMoved_redrives s closed).valveSupplyOk)

/-- A drop cause at a step in mode ON sets dl_cancel (R117). -/
theorem axleStep_dlCancel (closed : Bool) (h : s.dropCause = true)
    (hmode : (axleStep closed s).axle.own.dlMode = some .on) : (axleStep closed s).axle.own.dlCancel = true := by
  obtain ⟨hbrake, hspeed, -⟩ := axleMoved_others s closed
  rw [axleStep_own] at hmode ⊢
  exact lockStage_of_cause _ _ (by simpa only [State.dropCause, hbrake, hspeed] using h) hmode

end

end Sys2Proof.Machine

/-! ### The obligations -/

namespace Sys2Proof.Proofs

/-- Settles O34: a step leaves the condition that its start asks for (`axleStep_autoCond`), which `autoCondition_table` reads
off; a restart leaves it false. -/
theorem autoCondition : Obligations.AutoCondition := by
  refine ⟨fun s dt closed hrun => ⟨_, exec_of_running rfl hrun, ?_⟩, fun _ _ _ _ _ _ _ => rfl⟩
  rw [axleStep_autoCond]
  exact autoCondition_table (s.advance dt)

/-- Settles O35: each override stands after stage 3, and from there an engaged demand stays engaged. -/
theorem axleStepEngages : Obligations.AxleStepEngages := by
  intro s dt closed hrun
  have hover := axleStep_of_overridden (s.advance dt) closed
  obtain ⟨hauth, hhitch, hbrake⟩ := axleStep_others (s.advance dt) closed
  obtain ⟨hpublished, hdemand, -⟩ := axleStep_publishes (s.advance dt) closed
  refine ⟨_, exec_of_running rfl hrun, fun hstands hactive => ?_, fun hactive hfast => ?_, fun hstands hfault => ?_,
    fun hclosed => ?_, fun hblocked hfault => ?_, hdemand, hpublished, by simp, by simp, hauth, hhitch, hbrake, by simp,
    by simp, by simp⟩
  · exact hover (overridden_of_braking _ hactive (.inl hstands))
  · exact hover (overridden_of_braking _ hactive (.inr hfast))
  · exact hover (overridden_of_fault _ hstands hfault)
  · exact hover (overridden_of_unsupplied _ hclosed)
  · exact hover (overridden_of_blocked _ hblocked hfault)

/-- Settles O36: what the statement names bars the lock at stage 6, and channel 10 follows the state that is published. -/
theorem diffLockDrops : Obligations.DiffLockDrops := by
  intro s dt closed hrun h
  have hcause (h : s.brake.demand.pedalLeft = true ∨ s.brake.demand.pedalRight = true ∨ 1500 < s.speed.set.vGround) :
      (s.advance dt).dropCause = true := (s.advance dt).dropCause_iff.mpr h
  have hbarred : (s.advance dt).LockBarred (s.gateOpen .axle) := by
    rcases h with h | h | h | h
    · exact .inl (hcause (.inl h))
    · exact .inl (hcause (.inr (.inl h)))
    · exact .inl (hcause (.inr (.inr h)))
    · exact .inr h
  have hoff := axleStep_dlEngaged (s.advance dt) closed hbarred
  obtain ⟨hpublished, -, hdemand⟩ := axleStep_publishes (s.advance dt) closed
  refine ⟨_, exec_of_running rfl hrun, hoff, by rw [hpublished, hoff], by rw [hdemand, hoff]; rfl, fun hc hmode => ?_⟩
  exact axleStep_dlCancel _ closed (hcause hc) hmode

end Sys2Proof.Proofs
end

section
/-! PROOFS. The brake step that finds a breakaway (R150): what stages 1 to 4 leave of the supply count, and what the raise of
fault 4 and the stages after it leave of the latch and of the fault engagement (R110). -/

open Sys2Proof Sys2Proof.Machine

namespace Sys2Proof.Machine

/-! ### Gates that stay open (R164, R165) -/

section
variable (s : State) (c : FaultCode) {g : Group}

/-- A raise of a code that closes no gate leaves every gate. -/
theorem State.raise_gateOpen {named : Option Group} (hg : gatesOf c named = []) :
    (s.raise c named).gateOpen g = s.gateOpen g := by
  rw [State.gateOpen, State.raise_gates, hg]
  rfl

/-- A report of inactivity closes no gate. -/
theorem State.reportInactive_gateOpen (h : s.gateOpen g = true) : (s.reportInactive c).gateOpen g = true := by
  have hupdate (t : State) (f : Closing → Closing) (k : Group) (ht : t.gateOpen g = true) :
      (t.updateGate f k).gateOpen g = true := by
    by_cases hk : g = k
    · subst hk
      have hnil : t.fault.gates.get g = [] := by simpa [State.gateOpen] using ht
      simp [State.gateOpen, hnil]
    · simpa [State.gateOpen, group_get_set_other _ _ _ _ hk] using ht
  unfold State.reportInactive
  split
  · unfold State.inactive
    rw [State.gateOpen, (State.offerNotices_keeps _).2]
    exact foldl_keeps (fun t : State => t.gateOpen g = true) _ allGroups _ h fun t k _ ht => hupdate t _ k ht
  · exact h

theorem State.report_gateOpen (v : Verdict) (hg : gatesOf c none = []) (h : s.gateOpen g = true) :
    (s.report c v).gateOpen g = true := by
  cases v with
  | quiet => exact h
  | raise => exact (s.raise_gateOpen c hg).trans h
  | clear => exact s.reportInactive_gateOpen c h

end

/-! ### Stages 1 to 4 of a brake step -/

section
variable (s : State) {g : Group}

theorem transducerStage_gateOpen (raw : Nat) (h : s.gateOpen g = true) : (transducerStage raw s).gateOpen g = true := by
  unfold transducerStage
  extract_lets bad good
  split
  · split
    · exact State.reportInactive_gateOpen _ _ h
    · exact h
  · split
    · split
      · exact (State.raise_gateOpen _ _ rfl).trans h
      · exact h
    · exact h

theorem inputChecks_gateOpen (h : s.gateOpen g = true) : (inputChecks s).gateOpen g = true := by
  unfold inputChecks
  extract_lets d disagree r t park u
  have hu : u.gateOpen g = true :=
    State.report_gateOpen (s.onBrake (fun b => { b with switchCheck := r.1 })) .brakeSwitchDisagree r.2 rfl h
  split
  · split
    · exact hu
    · exact (u.raise_gateOpen _ rfl).trans hu
  · exact u.reportInactive_gateOpen _ hu

theorem lineStage_openSince (raw : Nat) (closed : Bool) :
    (lineStage raw closed s).brake.trailer.openSince = s.brake.trailer.openSince := by
  unfold lineStage
  split <;> rfl

variable (inp : BrakeInputs)

theorem brakeReadings_openSince : (brakeReadings inp s).brake.trailer.openSince = s.brake.trailer.openSince := by
  simp only [brakeReadings, inputChecks_trailer, demandStage_trailer, transducerStage_trailer, lineStage_openSince]
  rfl

theorem brakeReadings_gateOpen (h : s.gateOpen g = true) : (brakeReadings inp s).gateOpen g = true := by
  have hread : (lineStage (clamp 0 4095 inp.rawLine) inp.supplyClosed
      (s.onBrake (fun b => { b with rawBrake := clamp 0 4095 inp.rawBrake }))).gateOpen g = true := by
    simpa [State.gateOpen] using h
  have htransduced := transducerStage_gateOpen _ (clamp 0 4095 inp.rawBrake) hread
  exact inputChecks_gateOpen _ (by simpa [State.gateOpen] using htransduced)

theorem brakeReadings_redrives : s.Redrives (brakeReadings inp s) := by
  have hread : s.Redrives (lineStage (clamp 0 4095 inp.rawLine) inp.supplyClosed
      (s.onBrake (fun b => { b with rawBrake := clamp 0 4095 inp.rawBrake }))) := .of_same (by simp) (by simp)
  exact ((hread.trans (transducerStage_redrives _ _)).trans (demandStage_redrives _ _ _ _)).trans (inputChecks_redrives _)

/-- A usable supply is usable after the readings (R149). -/
theorem brakeReadings_supplyUsable (h : s.supplyUsable = true) : (brakeReadings inp s).supplyUsable = true := by
  obtain ⟨hgate, hsupply⟩ := Bool.and_eq_true_iff.mp h
  exact Bool.and_eq_true_iff.mpr
    ⟨brakeReadings_gateOpen s inp hgate, (brakeReadings_redrives s inp).valveSupplyOk.trans hsupply⟩

/-! ### The breakaway (R150) -/

theorem breakaway_trailer : (breakaway s).brake.trailer =
    { enterLine s.now .lost s.brake.trailer with ackSeen := false, closedSince := none } :=
  congrArg BrakeState.trailer (State.raise_brake _ rfl)

theorem breakaway_active : (breakaway s).active .trailerSupplyLost = true := by simp [breakaway]

/-- The raise of fault 4 leaves the fault engagement in force (R110). -/
theorem breakaway_faultEngagement : (breakaway s).axle.faultEngagement = true := by
  simp only [breakaway, State.raise, State.offerNotices_frame]
  exact State.faultEngage_faultEngagement _

/-- READY with a usable supply whose switch has been open for 200 ms breaks away. -/
theorem supplyStage_of_breakaway {u : Nat} (hready : s.brake.trailer.line = .ready) (husable : s.supplyUsable = true)
    (hsince : s.brake.trailer.openSince = some u) (hlong : u + 200 ≤ s.now) :
    supplyStage false false s = breakaway (s.onTrailer (fun t => { t with openSince := some u })) := by
  simp [supplyStage, hready, readyStep, husable, hsince, holdSince, passed, hlong]

/-! ### Stages 6 and 7, and the step -/

/-- The deviation check changes its own counts, and of the rest fault 23 alone (R153). -/
theorem deviationStage_axle : (deviationStage s).axle = s.axle := by
  obtain ⟨-, haxle, -⟩ := State.report_quiet (c := .trailerPressureDeviation) (s.onBrake _) _ rfl (by decide) (by decide)
  exact haxle

theorem deviationStage_trailerSupplyLost : (deviationStage s).active .trailerSupplyLost = s.active .trailerSupplyLost :=
  State.report_active_other (c := .trailerPressureDeviation) (s.onBrake _) _ (by decide)

/-- Channel 14 is on in the states of the line that R149 names. -/
theorem trailerOutputs_supply :
    (trailerOutputs s).chan.channels.trailerSupply.demand = bit (supplyOn s.brake.trailer.line) :=
  State.demand_get _ (i := .trailerSupply) _ (by decide)

/-- The step with a trailer fitted, from its stage 5 on. -/
theorem brakeStep_of_fitted (h : s.brake.trailer.line ≠ .notFitted) : brakeStep inp s =
    (trailerOutputs (deviationStage (lineCommand (supplyStage inp.parkApplied inp.supplyClosed
      (brakeReadings inp s))))).onBrake (fun b => { b with report := b.trailer }) := by
  have hread : (brakeReadings inp s).brake.trailer.line ≠ .notFitted := by rwa [brakeReadings_line]
  simp [brakeStep_eq, State.fitted, hread]

/-- The command of stage 6 after a breakaway (R148, R150). -/
theorem lineCommand_breakaway :
    (lineCommand (breakaway s)).brake.trailer.line = .lost ∧ (lineCommand (breakaway s)).brake.trailer.ackSeen = false ∧
      (lineCommand (breakaway s)).brake.trailer.closedSince = none ∧
      (lineCommand (breakaway s)).brake.trailer.pTc = 1500 := by
  simp [lineCommand, State.onTrailer, State.onBrake, breakaway_trailer, enterLine, commandOf]

/-- A step whose stage 5 is a breakaway leaves LOST with its command, fault 4 active and the fault engagement in force. -/
theorem brakeStep_of_breakaway {u : State} (hline : s.brake.trailer.line ≠ .notFitted) (hpark : inp.parkApplied = false)
    (hopen : inp.supplyClosed = false) (h : supplyStage false false (brakeReadings inp s) = breakaway u) :
    (brakeStep inp s).brake.trailer = (lineCommand (breakaway u)).brake.trailer ∧
      (brakeStep inp s).chan.channels.trailerSupply.demand = 1 ∧ (brakeStep inp s).active .trailerSupplyLost = true ∧
      (brakeStep inp s).axle.faultEngagement = true := by
  rw [brakeStep_of_fitted s inp hline, hpark, hopen, h]
  refine ⟨by simp [State.onBrake, deviationStage_trailer], (trailerOutputs_supply _).trans ?_, ?_, ?_⟩
  · rw [deviationStage_trailer, (lineCommand_breakaway u).1]
    rfl
  · have hactive := deviationStage_trailerSupplyLost (lineCommand (breakaway u))
    have hraised := breakaway_active u
    simp only [State.active, State.onBrake_fault, trailerOutputs_frame, lineCommand_frame] at hactive hraised ⊢
    exact hactive.trans hraised
  · simpa [deviationStage_axle] using breakaway_faultEngagement u

end

end Sys2Proof.Machine

/-! ### The obligation -/

namespace Sys2Proof.Proofs

/-- Settles O43: the readings leave the count and the supply to stage 5, which breaks away (`supplyStage_of_breakaway`). -/
theorem breakaway : Obligations.Breakaway := by
  intro s dt u inp hrun hready hpark hopen hgate hsupply hsince hlong
  have husable : (s.advance dt).supplyUsable = true := Bool.and_eq_true_iff.mpr ⟨hgate, hsupply⟩
  have hnow : (brakeReadings inp (s.advance dt)).now = s.now + dt := by simp [brakeReadings]
  have hstage := supplyStage_of_breakaway (brakeReadings inp (s.advance dt))
    ((brakeReadings_line _ _).trans hready) (brakeReadings_supplyUsable _ inp husable)
    ((brakeReadings_openSince _ _).trans hsince) (hnow ▸ hlong)
  obtain ⟨htrailer, hchannel, hactive, hengaged⟩ :=
    brakeStep_of_breakaway (s.advance dt) inp (by simp [hready]) hpark hopen hstage
  obtain ⟨hlost, hack, hclosed, hcommand⟩ := lineCommand_breakaway
    ((brakeReadings inp (s.advance dt)).onTrailer (fun t => { t with openSince := some u }))
  rw [← htrailer] at hlost hack hclosed hcommand
  refine ⟨_, exec_of_running rfl hrun, hlost, hack, hclosed, hcommand, hchannel, hactive, hengaged, ?_⟩
  rw [State.upshiftInhibit, hlost]
  simp

end Sys2Proof.Proofs
end

section
/-! PROOFS. The hitch step (R120): what each stage leaves of the setpoint in use (R126), of the Hitch Lift State (R131) and of
the holders (R137), the flow of a state (R127 to R129), and the demands on the two pilots (R128). -/

open Sys2Proof Sys2Proof.Machine

namespace Sys2Proof.Machine

/-! ### The lift state and HITCH_LIFT (R129, R131, R137) -/

section
variable (s : State)

theorem State.enterLift_hitch (l : LiftState) : (s.enterLift l).hitch =
    { s.hitch with lift := l, entered := if s.hitch.lift = l then s.hitch.entered else s.now } := by
  unfold State.enterLift
  split
  next h => subst h; rfl
  · rfl

@[simp] theorem State.enterLift_lift (l : LiftState) : (s.enterLift l).hitch.lift = l := by rw [State.enterLift_hitch]

/-- No record of the hitch falls with a change of the holder of HITCH_LIFT. -/
@[simp] theorem State.setHolder_hitchLift_hitch (h : Holder) : (s.setHolder .hitchLift h).hitch = s.hitch := by
  unfold State.setHolder
  dsimp only
  split <;> rfl

@[simp] theorem State.seize_hitchLift_hitch (h : Holder) : (s.seize .hitchLift h).hitch = s.hitch := by
  unfold State.seize State.moveAway
  split <;> simp

@[simp] theorem State.setHolder_holder (f : Func) (h : Holder) : (s.setHolder f h).holder f = h := by
  simp [State.holder]

theorem State.setHolder_holder_other {f g : Func} (h : Holder) (hg : g ≠ f) : (s.setHolder f h).holder g = s.holder g :=
  congrArg AuthEntry.holder ((s.setHolder_actsOn f h).entry hg)

@[simp] theorem State.enterLift_holder (l : LiftState) (f : Func) : (s.enterLift l).holder f = s.holder f := by
  simp [State.holder]

end

/-! ### A hitch that is stopped at most (R131) -/

/-- HITCH_LIFT is with PART, or the FENDER that is to give it to PART stands (R137). -/
def State.FenderInHand (s : State) : Prop := s.hitch.lift = .fender ∨ s.holder .hitchLift = .part

/-- HITCH_SET stays with its holder; where a FENDER stood or PART held HITCH_LIFT, one of the two still does (R137). -/
structure State.HoldsOn (s t : State) : Prop where
  setter : t.holder .hitchSet = s.holder .hitchSet
  fender : s.FenderInHand → t.FenderInHand

/-- The hitch has at most been stopped: of its records only the lift state and its time of entry may differ. -/
structure State.StopsAtMost (s t : State) : Prop extends s.HoldsOn t where
  hitch : t.hitch = { s.hitch with lift := t.hitch.lift, entered := t.hitch.entered }
  lift : t.hitch.lift = s.hitch.lift ∨ t.hitch.lift = .stopped

section
variable {s t u : State}

theorem State.HoldsOn.of_same (ha : t.auth = s.auth) (hl : t.hitch.lift = s.hitch.lift) : s.HoldsOn t := by
  have hh (f : Func) : t.holder f = s.holder f := by rw [State.holder, ha, State.holder]
  refine ⟨hh _, fun h => ?_⟩
  rwa [State.FenderInHand, hl, hh]

theorem State.HoldsOn.trans (h : s.HoldsOn t) (k : t.HoldsOn u) : s.HoldsOn u :=
  ⟨k.setter.trans h.setter, k.fender ∘ h.fender⟩

theorem State.StopsAtMost.of_same (ha : t.auth = s.auth) (hh : t.hitch = s.hitch) : s.StopsAtMost t :=
  ⟨.of_same ha (congrArg HitchState.lift hh), by rw [hh], .inl (congrArg HitchState.lift hh)⟩

theorem State.StopsAtMost.refl (s : State) : s.StopsAtMost s := .of_same rfl rfl

theorem State.StopsAtMost.trans (h : s.StopsAtMost t) (k : t.StopsAtMost u) : s.StopsAtMost u where
  toHoldsOn := h.toHoldsOn.trans k.toHoldsOn
  hitch := by rw [k.hitch, h.hitch]
  lift := k.lift.elim (fun hk => hk ▸ h.lift) .inr

end

section
variable (s : State)

@[simp] theorem State.stopLift_lift : s.stopLift.hitch.lift = .stopped := State.enterLift_lift _ _

theorem State.stopLift_hitch : s.stopLift.hitch = { s.hitch with
    lift := .stopped, entered := if s.hitch.lift = .stopped then s.hitch.entered else s.now } := by
  unfold State.stopLift
  dsimp only
  split <;> simp [State.enterLift_hitch]

/-- A FENDER that is stopped gives HITCH_LIFT to PART (R137). -/
theorem State.stopLift_hitchLift (h : s.FenderInHand) : s.stopLift.holder .hitchLift = .part := by
  unfold State.stopLift
  dsimp only
  split
  · simp
  next hne => simpa using h.resolve_left hne

theorem State.stopLift_stopsAtMost : s.StopsAtMost s.stopLift where
  setter := by
    unfold State.stopLift
    dsimp only
    split
    · simpa using s.setHolder_holder_other .part (by decide)
    · simp
  fender h := .inr (s.stopLift_hitchLift h)
  hitch := by rw [State.stopLift_hitch]
  lift := .inr s.stopLift_lift

theorem State.hitchStop_stopsAtMost : s.StopsAtMost s.hitchStop :=
  s.stopLift_stopsAtMost.trans (.of_same (by simp [State.hitchStop]) (by simp [State.hitchStop]))

theorem State.closeGate_hitch_stopsAtMost (c : FaultCode) : s.StopsAtMost (s.closeGate c .hitch) := by
  unfold State.closeGate
  dsimp only
  split
  · exact .trans (.of_same (by simp) (by simp)) (State.hitchStop_stopsAtMost _)
  · exact .of_same rfl rfl

/-- A raise by the Hitch Controller stops the hitch at most (R157, R164). -/
theorem State.raise_stopsAtMost {c : FaultCode} (hc : sourceOf c = .hitchController) : s.StopsAtMost (s.raise c none) := by
  have htell (t : State) : t.tellRaised c = t := by cases c <;> first | rfl | cases hc
  have hgates : ∀ g ∈ gatesOf c none, g = .hitch := by cases c <;> first | decide | cases hc
  have hclosed (t : State) : t.StopsAtMost ((gatesOf c none).foldl (fun u g => u.closeGate c g) t) :=
    foldl_keeps t.StopsAtMost _ _ t (.refl t) fun u g hg hu => hgates g hg ▸ hu.trans (u.closeGate_hitch_stopsAtMost c)
  have hoffer (t : State) : t.StopsAtMost t.offerNotices := .of_same (by simp) (by simp)
  unfold State.raise
  dsimp only
  rw [htell]
  refine .trans (.trans ?_ (hclosed _)) (hoffer _)
  exact .of_same rfl rfl

theorem State.reportInactive_stopsAtMost (c : FaultCode) : s.StopsAtMost (s.reportInactive c) :=
  .of_same (by simp) (by simp)

theorem State.report_stopsAtMost {c : FaultCode} (hc : sourceOf c = .hitchController) (v : Verdict) :
    s.StopsAtMost (s.report c v) := by
  cases v with
  | quiet => exact .refl s
  | raise => exact s.raise_stopsAtMost hc
  | clear => exact s.reportInactive_stopsAtMost c

end

/-! ### Stages 1 to 3: sensors and setpoints (R121 to R126) -/

section
variable (s : State)

theorem State.HoldsOn.raise {s t : State} (h : s.HoldsOn t) {c : FaultCode} (hc : sourceOf c = .hitchController) :
    s.HoldsOn (t.raise c none) := h.trans (t.raise_stopsAtMost hc).toHoldsOn

theorem State.HoldsOn.reportInactive {s t : State} (h : s.HoldsOn t) (c : FaultCode) : s.HoldsOn (t.reportInactive c) :=
  h.trans (t.reportInactive_stopsAtMost c).toHoldsOn

theorem positionStage_holdsOn (adc : Nat) : s.HoldsOn (positionStage adc s) := by
  unfold positionStage
  split
  · exact .of_same rfl rfl
  · dsimp only
    repeat' split
    · refine State.HoldsOn.reportInactive ?_ _
      exact .of_same rfl rfl
    · exact .of_same rfl rfl
    · refine State.HoldsOn.raise ?_ rfl
      exact .of_same rfl rfl
    · exact .of_same rfl rfl
    · exact .of_same rfl rfl

theorem pinStage_holdsOn (l r : Int) : s.HoldsOn (pinStage l r s) := by
  unfold pinStage
  dsimp only
  repeat' split
  · refine State.HoldsOn.reportInactive ?_ _
    exact .of_same rfl rfl
  · exact .of_same rfl rfl
  · refine State.HoldsOn.raise ?_ rfl
    exact .of_same rfl rfl
  · exact .of_same rfl rfl
  · exact .of_same rfl rfl
  · exact .of_same rfl rfl

theorem cabStage_lift : (cabStage s).hitch.lift = s.hitch.lift := by
  unfold cabStage
  repeat' split
  all_goals rfl

theorem shadowStage_lift : (shadowStage s).hitch.lift = s.hitch.lift := by
  unfold shadowStage
  split <;> rfl

theorem freezeStage_lift : (freezeStage s).hitch.lift = s.hitch.lift := by
  unfold freezeStage
  repeat' split
  all_goals rfl

theorem setpointStage_lift : (setpointStage s).hitch.lift = s.hitch.lift := rfl

/-- CAB's setpoint is the lever with the cab values (R126). -/
theorem setpointStage_inUse_of_cab {p : Nat} (h : (setpointStage s).holder .hitchSet = .cab)
    (hp : (setpointStage s).hitch.cab.pLever = some p) : (setpointStage s).hitch.inUse =
      some { p := p, d := (setpointStage s).hitch.cab.dSet, m := (setpointStage s).hitch.cab.mix } := by
  change s.holder .hitchSet = .cab at h
  change s.hitch.cab.pLever = some p at hp
  change (setpointOf s).1 = some { p := p, d := s.hitch.cab.dSet, m := s.hitch.cab.mix }
  simp [setpointOf, h, hp]

/-- IMPL's setpoint is the implement setpoint (R126). -/
theorem setpointStage_inUse_of_impl (h : (setpointStage s).holder .hitchSet = .impl) :
    (setpointStage s).hitch.inUse = (setpointStage s).hitch.impl := by
  change s.holder .hitchSet = .impl at h
  change (setpointOf s).1 = s.hitch.impl
  simp [setpointOf, h]

/-- What a step uses of the setpoint in use (R126, R127). -/
theorem setpointStage_report {x : Setpoint} (h : (setpointStage s).hitch.inUse = some x) :
    (setpointStage s).hitch.report.pSetUsed =
        clamp (setpointStage s).hitch.cab.lLim (setpointStage s).hitch.cab.uLim x.p ∧
      (setpointStage s).hitch.report.dSet = x.d ∧
      (setpointStage s).hitch.report.mUsed =
        if !(setpointStage s).build.draftFitted || (setpointStage s).active .draftSensor then 0 else x.m := by
  have hx : (setpointOf s).1.getD (freeSetpoint s.free) = x := by
    rw [show (setpointOf s).1 = some x from h, Option.getD_some]
  subst hx
  exact ⟨rfl, rfl, rfl⟩

theorem setpointStage_dUsed : (setpointStage s).hitch.report.dUsed = (setpointStage s).hitch.dUsed := rfl

end

/-! ### Stage 4: what the Hitch Lift State's moves leave (R130 to R137) -/

/-- The records of the hitch but those that stages 4 to 7 of a hitch step write (R120). -/
def HitchState.settled (h : HitchState) : HitchState :=
  { h with
    lift := .unmatched, entered := 0, storedRocker := .hold, pendingLift := none, fenderArm := false, fenderHeld := false
    history := [], runaway := { bad := none }, prevHolder := .part
    report := { h.report with lift := .unmatched, q := 0, eSlip := 0, rawAdc := 0 } }

/-- A reading of the settled records is the same where they are. -/
theorem settled_congr {α : Type} {h k : HitchState} (f : HitchState → α) (e : h.settled = k.settled)
    (hf : ∀ x : HitchState, f x.settled = f x := by exact fun _ => rfl) : f h = f k :=
  (hf h).symm.trans ((congrArg f e).trans (hf k))

theorem State.StopsAtMost.settled {s t : State} (h : s.StopsAtMost t) : t.hitch.settled = s.hitch.settled := by
  rw [h.hitch]; rfl

section
variable (s : State)

@[simp] theorem State.enterLift_settled (l : LiftState) : (s.enterLift l).hitch.settled = s.hitch.settled := by
  rw [State.enterLift_hitch]; rfl

@[simp] theorem stopStage_settled (gateOpen : Bool) : (stopStage gateOpen s).hitch.settled = s.hitch.settled := by
  unfold stopStage
  split
  · exact s.stopLift_stopsAtMost.settled
  · split <;> simp

@[simp] theorem fenderStage_settled (d : FenderDemand) (pedal : Nat) :
    (fenderStage d pedal s).hitch.settled = s.hitch.settled := by
  unfold fenderStage
  extract_lets t
  have ht : t.hitch.settled = s.hitch.settled := rfl
  have hend : (endFender t).hitch.settled = t.hitch.settled := by simp [endFender]
  have hbegin : (beginFender t).hitch.settled = t.hitch.settled := calc
    (beginFender t).hitch.settled = ((t.seize .hitchLift .fender).enterLift .fender).hitch.settled := rfl
    _ = t.hitch.settled := by simp
  rw [← ht]
  split
  · rfl
  all_goals split <;> first | rfl | assumption

@[simp] theorem lockTurn_settled : (lockTurn s).hitch.settled = s.hitch.settled := by
  unfold lockTurn
  split <;> simp

@[simp] theorem handback_settled : (handback s).hitch.settled = s.hitch.settled := by
  unfold handback
  split <;> simp

@[simp] theorem applyLift_settled (c : LiftCmd) : (applyLift c s).hitch.settled = s.hitch.settled := by
  unfold applyLift
  repeat' split
  all_goals simp

@[simp] theorem liftStage_settled : (liftStage s).hitch.settled = s.hitch.settled := by
  unfold liftStage
  dsimp only
  repeat' split
  all_goals first | exact applyLift_settled _ _ | rfl

@[simp] theorem endStage_settled : (endStage s).hitch.settled = s.hitch.settled := by
  unfold endStage
  dsimp only
  repeat' split
  all_goals simp

@[simp] theorem liftStateStage_settled (gateOpen : Bool) (d : FenderDemand) (pedal : Nat) :
    (liftStateStage gateOpen d pedal s).hitch.settled = s.hitch.settled := by simp [liftStateStage]

/-! ### Stage 4 in STOPPED (R130, R131, R137) -/

section
variable {s}

/-- A cause of STOPPED stops the hitch, and HITCH_LIFT passes from a FENDER to PART (R131, R137). -/
theorem stopStage_of_cause {gateOpen : Bool} (h : stopCause gateOpen s = true) :
    (stopStage gateOpen s).hitch.lift = .stopped ∧
      (s.FenderInHand → (stopStage gateOpen s).holder .hitchLift = .part) := by
  rw [stopStage, if_pos h]
  exact ⟨s.stopLift_lift, s.stopLift_hitchLift⟩

theorem fenderStage_of_stopped (d : FenderDemand) (pedal : Nat) (h : s.hitch.lift = .stopped) :
    (fenderStage d pedal s).hitch.lift = .stopped ∧ (fenderStage d pedal s).auth = s.auth := by
  simp [fenderStage, h]

theorem lockTurn_of_stopped (h : s.hitch.lift = .stopped) : lockTurn s = s := by simp [lockTurn, h]

theorem handback_of_stopped (h : s.hitch.lift = .stopped) : handback s = s := by simp [handback, h]

theorem applyLift_of_stopped (c : LiftCmd) (h : s.hitch.lift = .stopped) : applyLift c s = s := by
  cases c <;> simp [applyLift, h]

theorem liftStage_of_stopped (h : s.hitch.lift = .stopped) : (liftStage s).hitch.lift = .stopped := by
  unfold liftStage
  dsimp only
  repeat' split
  all_goals simp [applyLift_of_stopped, h]

theorem endStage_of_stopped (h : s.hitch.lift = .stopped) : endStage s = s := by simp [endStage, h]

/-- With a cause of STOPPED, stage 4 leaves STOPPED, and HITCH_LIFT has passed from a FENDER to PART (R131, R137). -/
theorem liftStateStage_of_cause {gateOpen : Bool} (d : FenderDemand) (pedal : Nat) (h : stopCause gateOpen s = true) :
    (liftStateStage gateOpen d pedal s).hitch.lift = .stopped ∧
      (s.FenderInHand → (liftStateStage gateOpen d pedal s).holder .hitchLift = .part) := by
  obtain ⟨hstopped, hpart⟩ := stopStage_of_cause h
  obtain ⟨hlift, hauth⟩ := fenderStage_of_stopped d pedal hstopped
  unfold liftStateStage
  rw [lockTurn_of_stopped hlift, handback_of_stopped hlift, endStage_of_stopped (liftStage_of_stopped hlift)]
  refine ⟨liftStage_of_stopped hlift, fun hf => ?_⟩
  simpa [State.holder, hauth] using hpart hf

end

/-- No lift command is left pending by a hitch step (R130). -/
theorem liftStateStage_pendingLift (gateOpen : Bool) (d : FenderDemand) (pedal : Nat) :
    (liftStateStage gateOpen d pedal s).hitch.pendingLift = none := by
  have henter (t : State) (l : LiftState) : (t.enterLift l).hitch.pendingLift = t.hitch.pendingLift := by
    rw [State.enterLift_hitch]
  have happly (c : LiftCmd) (t : State) : (applyLift c t).hitch.pendingLift = t.hitch.pendingLift := by
    unfold applyLift
    repeat' split
    all_goals simp [henter]
  have hlift (t : State) : (liftStage t).hitch.pendingLift = none := by
    unfold liftStage
    dsimp only
    repeat' split
    all_goals simp [happly]
  have hend (t : State) : (endStage t).hitch.pendingLift = t.hitch.pendingLift := by
    unfold endStage
    dsimp only
    repeat' split
    all_goals simp [henter]
  exact (hend _).trans (hlift _)

end

/-! ### Stage 5: the flow (R127 to R129, R137) -/

section
variable {s t : State}

theorem slipTerm_eq (s : State) : slipTerm s =
    if s.hitch.lift = .work ∧ s.hitch.cab.sLim ≠ 0 ∧ s.speed.set.slipValid = true ∧
        s.hitch.cab.sLim < s.speed.set.slipF then
      min 1000 (((s.speed.set.slipF - s.hitch.cab.sLim) * s.hitch.cab.gS / 8 : Nat) : Int)
    else 0 := by
  simp [slipTerm, and_assoc]

theorem limitFlow_eq (c : CabValues) (p : Nat) (x : Int) : limitFlow c p x =
    if (x < 0 ∧ c.uLim ≤ p) ∨ (0 < x ∧ (p ≤ c.lLim ∨ c.lock = true)) then 0 else x := by
  unfold limitFlow
  by_cases hup : x < 0 ∧ c.uLim ≤ p <;> simp [hup]

/-- The flow never raises at U_lim or above (R128). -/
theorem limitFlow_nonneg {c : CabValues} {p : Nat} (x : Int) (h : c.uLim ≤ p) : 0 ≤ limitFlow c p x := by
  rw [limitFlow_eq]
  split <;> omega

/-- The flow never lowers at L_lim or below, or with the transport lock on (R128). -/
theorem limitFlow_nonpos {c : CabValues} {p : Nat} (x : Int) (h : p ≤ c.lLim ∨ c.lock = true) : limitFlow c p x ≤ 0 := by
  rw [limitFlow_eq]
  split
  · exact le_rfl
  next hx => exact not_lt.mp fun hpos => hx (.inr ⟨hpos, h⟩)

theorem flowNow_of_present (d : FenderDemand) {p : Nat} (h : s.hitch.pAct = some p) :
    flowNow d s = limitFlow s.hitch.cab p (stateFlow d p s) := by simp [flowNow, h]

theorem flowNow_of_absent (d : FenderDemand) (h : s.hitch.pAct = none) : flowNow d s = 0 := by simp [flowNow, h]

/-- The flow follows from the lift state, the speeds and the settled records. -/
theorem flowNow_congr (d : FenderDemand) (hset : t.hitch.settled = s.hitch.settled) (hlift : t.hitch.lift = s.hitch.lift)
    (hspeed : t.speed = s.speed) : flowNow d t = flowNow d s := by
  have hcab := settled_congr HitchState.cab hset
  have hslip : slipTerm t = slipTerm s := by rw [slipTerm_eq, slipTerm_eq, hlift, hcab, hspeed]
  have hflow (p : Nat) : stateFlow d p t = stateFlow d p s := by
    have hp := settled_congr (fun h => h.report.pSetUsed) hset
    have hd := settled_congr (fun h => h.report.dSet) hset
    have hm := settled_congr (fun h => h.report.mUsed) hset
    have hb := settled_congr HitchState.deadband hset
    have hg := settled_congr HitchState.gain hset
    have hu := settled_congr HitchState.dUsed hset
    simp only [stateFlow, hlift, hcab, hslip, hp, hd, hm, hb, hg, hu]
  simp only [flowNow, settled_congr HitchState.pAct hset, hcab, hflow]

theorem stateFlow_of_loop (d : FenderDemand) (p : Nat) (h : s.hitch.lift = .work ∨ s.hitch.lift = .lowering) :
    stateFlow d p s = loopFlow p s.hitch.report.pSetUsed s.hitch.report.dSet s.hitch.report.mUsed s.hitch.deadband
      s.hitch.gain s.hitch.cab.qDrop s.hitch.dUsed (slipTerm s) := by
  rcases h with h | h <;> simp [stateFlow, h]

/-- RAISED holds U_lim by the same computation, without the draft and the slip (R134). -/
theorem stateFlow_of_raised (d : FenderDemand) (p : Nat) (h : s.hitch.lift = .raised) :
    stateFlow d p s = loopFlow p s.hitch.cab.uLim s.hitch.report.dSet 0 s.hitch.deadband
      s.hitch.gain s.hitch.cab.qDrop s.hitch.dUsed (slipTerm s) := by
  simp [stateFlow, slipTerm, h]

theorem stateFlow_of_raising (d : FenderDemand) (p : Nat) (h : s.hitch.lift = .raising) : stateFlow d p s = -1000 := by
  simp [stateFlow, h]

theorem stateFlow_of_unmatched (d : FenderDemand) (p : Nat) (h : s.hitch.lift = .unmatched) : stateFlow d p s = 0 := by
  simp [stateFlow, h]

theorem stateFlow_of_fender (p : Nat) (h : s.hitch.lift = .fender) : stateFlow .up p s = -300 ∧
    stateFlow .down p s = min 300 (s.hitch.cab.qDrop : Int) ∧ stateFlow .conflicting p s = 0 := by
  simp [stateFlow, h]

theorem fenderDemand_up {l r : FenderSwitch} (h : l = .up ∨ r = .up) (hl : l ≠ .down) (hr : r ≠ .down) :
    fenderDemand l r = .up := by
  cases l <;> cases r <;> simp_all [fenderDemand]

theorem fenderDemand_down {l r : FenderSwitch} (h : l = .down ∨ r = .down) (hl : l ≠ .up) (hr : r ≠ .up) :
    fenderDemand l r = .down := by
  cases l <;> cases r <;> simp_all [fenderDemand]

theorem fenderDemand_conflicting {l r : FenderSwitch} (h : (l = .up ∧ r = .down) ∨ (l = .down ∧ r = .up)) :
    fenderDemand l r = .conflicting := by
  rcases h with ⟨rfl, rfl⟩ | ⟨rfl, rfl⟩ <;> rfl

end

/-! ### Stages 6 and 7: the runaway check and the pilots (R128, R138) -/

section
variable (q : Int) (s : State)

/-- The runaway check writes its history and its count, and stops the hitch at most (R138). -/
theorem runawayStage_stopsAtMost : ∃ (history : List (Nat × Int)) (runaway : HoldCheck),
    (s.onHitch (fun h => { h with history := history, runaway := runaway })).StopsAtMost (runawayStage q s) := by
  unfold runawayStage
  extract_lets history cond full r t
  refine ⟨history, r.1, ?_⟩
  have ht : (s.onHitch (fun h => { h with history := history, runaway := r.1 })).StopsAtMost t :=
    State.report_stopsAtMost _ rfl r.2
  split
  · exact ht.trans t.stopLift_stopsAtMost
  · exact ht

theorem runawayStage_settled : (runawayStage q s).hitch.settled = s.hitch.settled := by
  obtain ⟨history, runaway, h⟩ := runawayStage_stopsAtMost q s
  exact h.settled

theorem runawayStage_report : (runawayStage q s).hitch.report = s.hitch.report := by
  obtain ⟨history, runaway, h⟩ := runawayStage_stopsAtMost q s
  rw [h.hitch]
  rfl

theorem runawayStage_pendingLift : (runawayStage q s).hitch.pendingLift = s.hitch.pendingLift := by
  obtain ⟨history, runaway, h⟩ := runawayStage_stopsAtMost q s
  rw [h.hitch]
  rfl

theorem runawayStage_lift :
    (runawayStage q s).hitch.lift = s.hitch.lift ∨ (runawayStage q s).hitch.lift = .stopped := by
  obtain ⟨history, runaway, h⟩ := runawayStage_stopsAtMost q s
  exact h.lift

theorem runawayStage_holdsOn : s.HoldsOn (runawayStage q s) := by
  obtain ⟨history, runaway, h⟩ := runawayStage_stopsAtMost q s
  refine .trans ?_ h.toHoldsOn
  exact .of_same rfl rfl

theorem runawayStage_draftSensor : (runawayStage q s).active .draftSensor = s.active .draftSensor := by
  unfold runawayStage
  extract_lets history cond full r t
  have ht : t.active .draftSensor = s.active .draftSensor := State.report_active_other _ r.2 (by decide)
  split
  · simpa [State.active] using ht
  · exact ht

/-- A hitch demand is clamped to 0 to 1600 (R73). -/
theorem State.demand_pilot {i : Chan} (d : Nat) (hi : i = .hitchRaise ∨ i = .hitchLower) :
    ((s.demand i d).chan.channels.get i).demand = clamp 0 1600 d := by
  unfold State.demand
  rw [if_pos hi]
  dsimp only
  split
  next h => exact h
  · simp [State.onChan, applyRule]

theorem State.demand_hitchRaise (d : Nat) :
    (s.demand .hitchRaise d).chan.channels.hitchRaise.demand = clamp 0 1600 d := s.demand_pilot d (.inl rfl)

theorem State.demand_hitchLower (d : Nat) :
    (s.demand .hitchLower d).chan.channels.hitchLower.demand = clamp 0 1600 d := s.demand_pilot d (.inr rfl)

theorem State.demand_hitchLower_raise (d : Nat) :
    (s.demand .hitchLower d).chan.channels.hitchRaise = s.chan.channels.hitchRaise :=
  s.demand_get_other d (i := .hitchLower) (j := .hitchRaise) (by decide)

theorem pilotStage_raise : (pilotStage q s).chan.channels.hitchRaise.demand =
    if s.hitch.lift ≠ .stopped ∧ q < 0 then clamp 0 1600 (pilotCurrent s.hitchCal q) else 0 := by
  rw [pilotStage, State.demand_hitchLower_raise, State.demand_hitchRaise]
  by_cases hl : s.hitch.lift = .stopped
  · simp [hl, clamp]
  · by_cases hq : q < 0 <;> simp [hl, hq, clamp]

theorem pilotStage_lower : (pilotStage q s).chan.channels.hitchLower.demand =
    if s.hitch.lift ≠ .stopped ∧ 0 < q then clamp 0 1600 (pilotCurrent s.hitchCal q) else 0 := by
  rw [pilotStage, State.demand_hitchLower]
  by_cases hl : s.hitch.lift = .stopped
  · simp [hl, clamp]
  · by_cases hq : 0 < q <;> simp [hl, hq, clamp]

theorem clamp_pilotCurrent {c : Option HitchCal} {v : HitchCal} {q : Int} (hc : c = some v) (hq : q ≠ 0) :
    clamp 0 1600 (pilotCurrent c q) = min 1600 (v.iThr + q.natAbs * (v.iMax - v.iThr) / 1000) := by
  subst hc
  simp only [pilotCurrent, hq, if_false, clamp, Nat.not_lt_zero]
  split <;> omega

end

/-! ### The hitch step (R120) -/

section
variable (inp : HitchInputs) (s : State)

/-- The records after stage 2: sensors read and the draft latched. -/
def hitchSensed : State :=
  latchStage (pinStage (clampZ (-2048) 2047 inp.pinLeft) (clampZ (-2048) 2047 inp.pinRight)
    (positionStage (clamp 0 4095 inp.adc) s))

/-- The records after stage 3: the setpoint in use chosen. -/
def hitchSet : State := setpointStage (freezeStage (shadowStage (cabStage (hitchSensed inp s))))

/-- The records after stage 4: the Hitch Lift State moved. -/
def hitchMoved : State :=
  liftStateStage (s.gateOpen .hitch) (fenderDemand inp.fenderLeft inp.fenderRight) inp.pedal (hitchSet inp s)

/-- The flow of stage 5. -/
def hitchFlow : Int := flowNow (fenderDemand inp.fenderLeft inp.fenderRight) (hitchMoved inp s)

/-- The flow of a step is put in its report (R139). -/
def reportFlow (q : Int) : State :=
  s.onHitch (fun h => { h with report := { h.report with q := q, eSlip := slipTerm s, rawAdc := clamp 0 4095 inp.adc } })

theorem reportFlow_settled (q : Int) : (reportFlow inp s q).hitch.settled = s.hitch.settled := rfl

/-- The records after stage 6: the flow reported and judged. -/
def hitchJudged : State := runawayStage (hitchFlow inp s) (reportFlow inp (hitchMoved inp s) (hitchFlow inp s))

theorem hitchStep_eq : hitchStep inp s = (pilotStage (hitchFlow inp s) (hitchJudged inp s)).onHitch (fun h =>
    { h with
      prevHolder := (pilotStage (hitchFlow inp s) (hitchJudged inp s)).holder .hitchSet
      report := { h.report with lift := h.lift } }) := rfl

theorem hitchSensed_holdsOn : s.HoldsOn (hitchSensed inp s) :=
  ((positionStage_holdsOn s _).trans (pinStage_holdsOn _ _ _)).trans (.of_same rfl rfl)

theorem hitchSensed_redrives : s.Redrives (hitchSensed inp s) :=
  ((positionStage_redrives s _).trans (pinStage_redrives _ _ _)).trans (.of_same rfl rfl)

theorem hitchSet_holdsOn : s.HoldsOn (hitchSet inp s) := by
  refine (hitchSensed_holdsOn inp s).trans (.of_same (by simp [hitchSet]) ?_)
  rw [hitchSet, setpointStage_lift, freezeStage_lift, shadowStage_lift, cabStage_lift]

theorem hitchSet_redrives : s.Redrives (hitchSet inp s) :=
  (hitchSensed_redrives inp s).trans (.of_same (by simp [hitchSet]) (by simp [hitchSet]))

theorem hitchSet_frame : (hitchSet inp s).store = s.store ∧ (hitchSet inp s).build = s.build ∧
    (hitchSet inp s).speed = s.speed := by simp [hitchSet, hitchSensed]

theorem hitchMoved_settled : (hitchMoved inp s).hitch.settled = (hitchSet inp s).hitch.settled :=
  liftStateStage_settled _ _ _ _

theorem hitchJudged_settled : (hitchJudged inp s).hitch.settled = (hitchSet inp s).hitch.settled := by
  rw [hitchJudged, runawayStage_settled, reportFlow_settled, hitchMoved_settled]

theorem hitchJudged_lift :
    (hitchJudged inp s).hitch.lift = (hitchMoved inp s).hitch.lift ∨ (hitchJudged inp s).hitch.lift = .stopped :=
  runawayStage_lift (hitchFlow inp s) (reportFlow inp (hitchMoved inp s) (hitchFlow inp s))

/-- The step leaves the hitch of stage 6, publishing its lift state (R120). -/
theorem hitchStep_hitch : (hitchStep inp s).hitch = { (hitchJudged inp s).hitch with
    prevHolder := (hitchJudged inp s).holder .hitchSet
    report := { (hitchJudged inp s).hitch.report with lift := (hitchJudged inp s).hitch.lift } } := by
  rw [hitchStep_eq]
  simp [State.holder]

theorem hitchStep_holder (f : Func) : (hitchStep inp s).holder f = (hitchJudged inp s).holder f := by
  rw [hitchStep_eq]
  simp [State.holder]

theorem hitchStep_lift : (hitchStep inp s).hitch.lift = (hitchJudged inp s).hitch.lift := by rw [hitchStep_hitch]

theorem hitchStep_reports_lift : (hitchStep inp s).hitch.report.lift = (hitchStep inp s).hitch.lift := by
  rw [hitchStep_hitch]

theorem hitchStep_settled : (hitchStep inp s).hitch.settled = (hitchSet inp s).hitch.settled := by
  rw [← hitchJudged_settled, hitchStep_hitch]
  rfl

theorem hitchStep_q : (hitchStep inp s).hitch.report.q = hitchFlow inp s := by
  rw [hitchStep_hitch]
  exact congrArg HitchReport.q (runawayStage_report _ _)

/-- Unless the hitch has been stopped, the flow is that of the state that the step leaves (R127, R129). -/
theorem hitchStep_q_of_not_stopped (h : (hitchStep inp s).hitch.lift ≠ .stopped) : (hitchStep inp s).hitch.report.q =
    flowNow (fenderDemand inp.fenderLeft inp.fenderRight) (hitchStep inp s) := by
  have hset := (hitchStep_settled inp s).trans (hitchMoved_settled inp s).symm
  have hlift := (hitchStep_lift inp s).trans ((hitchJudged_lift inp s).resolve_right (hitchStep_lift inp s ▸ h))
  rw [hitchStep_q]
  exact (flowNow_congr _ hset hlift (by simp [hitchMoved, hitchSet_frame])).symm

theorem hitchJudged_hitchCal : (hitchJudged inp s).hitchCal = s.hitchCal := by
  simp [State.hitchCal, hitchJudged, reportFlow, hitchMoved, hitchSet_frame]

theorem hitchStep_chan : (hitchStep inp s).chan = (pilotStage (hitchFlow inp s) (hitchJudged inp s)).chan := by
  rw [hitchStep_eq, State.onHitch_chan]

theorem hitchStep_raise : (hitchStep inp s).chan.channels.hitchRaise.demand =
    if (hitchStep inp s).hitch.lift ≠ .stopped ∧ (hitchStep inp s).hitch.report.q < 0 then
      clamp 0 1600 (pilotCurrent s.hitchCal (hitchStep inp s).hitch.report.q)
    else 0 := by
  rw [hitchStep_chan, pilotStage_raise, hitchStep_lift, hitchStep_q, hitchJudged_hitchCal]

theorem hitchStep_lower : (hitchStep inp s).chan.channels.hitchLower.demand =
    if (hitchStep inp s).hitch.lift ≠ .stopped ∧ 0 < (hitchStep inp s).hitch.report.q then
      clamp 0 1600 (pilotCurrent s.hitchCal (hitchStep inp s).hitch.report.q)
    else 0 := by
  rw [hitchStep_chan, pilotStage_lower, hitchStep_lift, hitchStep_q, hitchJudged_hitchCal]

theorem hitchStep_draftSensor :
    (hitchStep inp s).active .draftSensor = (hitchSet inp s).active .draftSensor := by
  have hpilot : (hitchStep inp s).active .draftSensor = (hitchJudged inp s).active .draftSensor := by
    rw [hitchStep_eq]
    simp [State.active]
  rw [hpilot, hitchJudged, runawayStage_draftSensor]
  simp [State.active, reportFlow, hitchMoved]

end

/-! ### The setpoint and the flow of a step (R126 to R128) -/

section
variable {inp : HitchInputs} {s : State}

theorem hitchStep_inUse_of_cab {p : Nat} (h : s.holder .hitchSet = .cab)
    (hp : (hitchStep inp s).hitch.cab.pLever = some p) :
    (hitchStep inp s).hitch.inUse =
      some { p := p, d := (hitchStep inp s).hitch.cab.dSet, m := (hitchStep inp s).hitch.cab.mix } := by
  have hset := hitchStep_settled inp s
  rw [settled_congr HitchState.cab hset] at hp ⊢
  rw [settled_congr HitchState.inUse hset]
  exact setpointStage_inUse_of_cab _ ((hitchSet_holdsOn inp s).setter.trans h) hp

theorem hitchStep_inUse_of_impl (h : s.holder .hitchSet = .impl) :
    (hitchStep inp s).hitch.inUse = (hitchStep inp s).hitch.impl := by
  have hset := hitchStep_settled inp s
  rw [settled_congr HitchState.impl hset, settled_congr HitchState.inUse hset]
  exact setpointStage_inUse_of_impl _ ((hitchSet_holdsOn inp s).setter.trans h)

theorem hitchStep_report {x : Setpoint} (h : (hitchStep inp s).hitch.inUse = some x) :
    (hitchStep inp s).hitch.report.pSetUsed =
        clamp (hitchStep inp s).hitch.cab.lLim (hitchStep inp s).hitch.cab.uLim x.p ∧
      (hitchStep inp s).hitch.report.dSet = x.d ∧
      (hitchStep inp s).hitch.report.mUsed =
        if !s.build.draftFitted || (hitchStep inp s).active .draftSensor then 0 else x.m := by
  have hset := hitchStep_settled inp s
  obtain ⟨-, hbuild, -⟩ := hitchSet_frame inp s
  rw [settled_congr HitchState.inUse hset] at h
  rw [settled_congr HitchState.cab hset, settled_congr (fun h => h.report.pSetUsed) hset,
    settled_congr (fun h => h.report.dSet) hset, settled_congr (fun h => h.report.mUsed) hset, hitchStep_draftSensor,
    ← hbuild]
  exact setpointStage_report _ h

theorem hitchStep_dUsed : (hitchStep inp s).hitch.report.dUsed = (hitchStep inp s).hitch.dUsed := by
  have hset := hitchStep_settled inp s
  rw [settled_congr (fun h => h.report.dUsed) hset, settled_congr HitchState.dUsed hset]
  exact setpointStage_dUsed _

theorem hitchStep_q_of_absent (h : (hitchStep inp s).hitch.pAct = none) : (hitchStep inp s).hitch.report.q = 0 := by
  rw [settled_congr HitchState.pAct ((hitchStep_settled inp s).trans (hitchMoved_settled inp s).symm)] at h
  rw [hitchStep_q]
  exact flowNow_of_absent _ h

theorem hitchStep_q_of_present {p : Nat} (hp : (hitchStep inp s).hitch.pAct = some p)
    (h : (hitchStep inp s).hitch.lift ≠ .stopped) : (hitchStep inp s).hitch.report.q =
      limitFlow (hitchStep inp s).hitch.cab p
        (stateFlow (fenderDemand inp.fenderLeft inp.fenderRight) p (hitchStep inp s)) := by
  rw [hitchStep_q_of_not_stopped inp s h, flowNow_of_present _ hp]

/-- No raise at U_lim or above, no lowering at L_lim or below or with the transport lock on (R128). -/
theorem hitchStep_limits {p : Nat} (hp : (hitchStep inp s).hitch.pAct = some p) :
    ((hitchStep inp s).hitch.cab.uLim ≤ p → (hitchStep inp s).chan.channels.hitchRaise.demand = 0) ∧
      (p ≤ (hitchStep inp s).hitch.cab.lLim ∨ (hitchStep inp s).hitch.cab.lock = true →
        (hitchStep inp s).chan.channels.hitchLower.demand = 0) := by
  rw [hitchStep_raise, hitchStep_lower]
  refine ⟨fun h => if_neg ?_, fun h => if_neg ?_⟩ <;> rintro ⟨hl, hq⟩ <;> rw [hitchStep_q_of_present hp hl] at hq
  · exact (limitFlow_nonneg _ h).not_gt hq
  · exact (limitFlow_nonpos _ h).not_gt hq

/-- Never both pilots (R128). -/
theorem hitchStep_one_pilot : (hitchStep inp s).chan.channels.hitchRaise.demand = 0 ∨
    (hitchStep inp s).chan.channels.hitchLower.demand = 0 := by
  rw [hitchStep_raise, hitchStep_lower]
  rcases le_total 0 (hitchStep inp s).hitch.report.q with hq | hq
  · exact .inl (if_neg fun h => hq.not_gt h.2)
  · exact .inr (if_neg fun h => hq.not_gt h.2)

/-- No pilot in STOPPED, without P_act, or at flow 0 (R128, R137). -/
theorem hitchStep_no_pilot (h : (hitchStep inp s).hitch.lift = .stopped ∨ (hitchStep inp s).hitch.pAct = none ∨
      (hitchStep inp s).hitch.report.q = 0) : (hitchStep inp s).chan.channels.hitchRaise.demand = 0 ∧
    (hitchStep inp s).chan.channels.hitchLower.demand = 0 := by
  have hzero := h.imp_right (·.elim hitchStep_q_of_absent id)
  rw [hitchStep_raise, hitchStep_lower]
  exact ⟨if_neg fun hr => hzero.elim hr.1 hr.2.ne, if_neg fun hl => hzero.elim hl.1 hl.2.ne'⟩

/-- The current of the HITCH entry on the pilot of the flow's sign (R128). -/
theorem hitchStep_current {v : HitchCal} (hv : s.hitchCal = some v) (h : (hitchStep inp s).hitch.lift ≠ .stopped) :
    ((hitchStep inp s).hitch.report.q < 0 → (hitchStep inp s).chan.channels.hitchRaise.demand =
        min 1600 (v.iThr + (hitchStep inp s).hitch.report.q.natAbs * (v.iMax - v.iThr) / 1000)) ∧
      (0 < (hitchStep inp s).hitch.report.q → (hitchStep inp s).chan.channels.hitchLower.demand =
        min 1600 (v.iThr + (hitchStep inp s).hitch.report.q.natAbs * (v.iMax - v.iThr) / 1000)) := by
  rw [hitchStep_raise, hitchStep_lower]
  exact ⟨fun hq => (if_pos ⟨h, hq⟩).trans (clamp_pilotCurrent hv hq.ne),
    fun hq => (if_pos ⟨h, hq⟩).trans (clamp_pilotCurrent hv hq.ne')⟩

end

section
variable (inp : HitchInputs) (s : State)

/-! ### The stops of a step (R131, R137) -/

/-- What stops the hitch whatever its sensors read (R131). -/
def State.HitchBarred : Prop :=
  s.valveSupplyOk = false ∨ s.hitchCal = none ∨ s.build.serviceStrap = true ∨ s.gateOpen .hitch = false

theorem stopCause_of_barred (h : s.HitchBarred) : stopCause (s.gateOpen .hitch) (hitchSet inp s) = true := by
  obtain ⟨hstore, hbuild, -⟩ := hitchSet_frame inp s
  have hcal : (hitchSet inp s).hitchCal = s.hitchCal := by rw [State.hitchCal, hstore, State.hitchCal]
  rw [stopCause, (hitchSet_redrives inp s).valveSupplyOk, hcal, hbuild]
  rcases h with h | h | h | h <;> simp [h]

/-- A barred hitch is left in STOPPED with no lift command pending, HITCH_LIFT passed from a FENDER to PART (R131, R137). -/
theorem hitchStep_of_barred (h : s.HitchBarred) : (hitchStep inp s).hitch.lift = .stopped ∧
    (hitchStep inp s).hitch.pendingLift = none ∧
    (s.hitch.lift = .fender → (hitchStep inp s).holder .hitchLift = .part) := by
  obtain ⟨hstopped, hpart⟩ := liftStateStage_of_cause (fenderDemand inp.fenderLeft inp.fenderRight) inp.pedal
    (stopCause_of_barred inp s h)
  have hlift : (hitchJudged inp s).hitch.lift = .stopped := (hitchJudged_lift inp s).elim (·.trans hstopped) id
  refine ⟨(hitchStep_lift inp s).trans hlift, ?_, fun hfender => ?_⟩
  · have hpending : (hitchJudged inp s).hitch.pendingLift = (hitchMoved inp s).hitch.pendingLift :=
      runawayStage_pendingLift _ _
    rw [hitchStep_hitch]
    exact hpending.trans (liftStateStage_pendingLift _ _ _ _)
  · have hmoved : (hitchMoved inp s).FenderInHand := .inr (hpart ((hitchSet_holdsOn inp s).fender (.inl hfender)))
    have hjudged : (hitchJudged inp s).FenderInHand := (runawayStage_holdsOn _ (reportFlow inp _ _)).fender hmoved
    rw [hitchStep_holder]
    exact hjudged.resolve_left (by simp [hlift])

end

end Sys2Proof.Machine

/-! ### The obligations -/

namespace Sys2Proof.Proofs

/-- Settles O37: the records that stage 3 leaves are those of the step's end (`hitchStep_settled`), the flow is that of the
state the step leaves (`hitchStep_q_of_present`), and the pilots follow it. -/
theorem hitchPilotCurrents : Obligations.HitchPilotCurrents := by
  intro s dt inp hrun
  refine ⟨_, exec_of_running rfl hrun, ?_⟩
  have hcab (hh : s.holder .hitchSet = .cab) {p : Nat} := hitchStep_inUse_of_cab (inp := inp) (s := s.advance dt) (p := p) hh
  have himpl (hh : s.holder .hitchSet = .impl) := hitchStep_inUse_of_impl (inp := inp) (s := s.advance dt) hh
  have hreport {x : Setpoint} := hitchStep_report (inp := inp) (s := s.advance dt) (x := x)
  have hdUsed := hitchStep_dUsed (inp := inp) (s := s.advance dt)
  have habsent := hitchStep_q_of_absent (inp := inp) (s := s.advance dt)
  have hpresent {p : Nat} := hitchStep_q_of_present (inp := inp) (s := s.advance dt) (p := p)
  have hlimits {p : Nat} := hitchStep_limits (inp := inp) (s := s.advance dt) (p := p)
  have hone := hitchStep_one_pilot (inp := inp) (s := s.advance dt)
  have hnone := hitchStep_no_pilot (inp := inp) (s := s.advance dt)
  have hcurrent {v : HitchCal} := hitchStep_current (inp := inp) (s := s.advance dt) (v := v)
  obtain ⟨hseq, hspeed, hstore, hrunrec, hpower, hsvc⟩ : (hitchStep inp (s.advance dt)).seq = s.seq ∧
      (hitchStep inp (s.advance dt)).speed = s.speed ∧ (hitchStep inp (s.advance dt)).store = s.store ∧
      (hitchStep inp (s.advance dt)).run = s.run ∧ (hitchStep inp (s.advance dt)).power = s.power ∧
      (hitchStep inp (s.advance dt)).svc = s.svc := by simp
  generalize hitchStep inp (s.advance dt) = t at *
  intro raise lower h c u q v slip flow limited
  have hslip : slipTerm t = slip := by rw [slipTerm_eq, hspeed]
  have hflow (p pSet m : Nat) :
      flow p pSet m = loopFlow p pSet u.dSet m h.deadband h.gain c.qDrop h.dUsed (slipTerm t) := by
    rw [hslip, ← hdUsed]
    rfl
  have hq {p : Nat} (hp : h.pAct = some p) {l : LiftState} (hl : h.lift = l) (hne : l ≠ .stopped) :
      q = limited p (stateFlow (fenderDemand inp.fenderLeft inp.fenderRight) p t) :=
    (hpresent hp (hl ▸ hne)).trans (limitFlow_eq _ _ _)
  refine ⟨fun hh p => hcab hh, himpl, fun x hx => ?_, hdUsed, habsent,
    fun p hp => ⟨fun hl => ?_, fun hl => ?_, fun hl => ?_, fun hl => ?_, fun hl => ?_, hlimits hp⟩, hone, hnone,
    fun v hv => hcurrent hv, hseq, hspeed, hstore, hrunrec, hpower, hsvc⟩
  · obtain ⟨hpSet, hdSet, hmUsed⟩ := hreport hx
    refine ⟨hpSet, hdSet, fun hno => hmUsed.trans (if_pos ?_), fun hfit hok => hmUsed.trans (if_neg ?_)⟩
    · rcases hno with h | h <;> simp [h]
    · simp [hfit, hok]
  · have hne : h.lift ≠ .stopped := by rcases hl with h | h <;> simp [h]
    rw [hflow, ← stateFlow_of_loop _ p hl]
    exact hq hp rfl hne
  · rw [hflow, ← stateFlow_of_raised _ p hl]
    exact hq hp hl (by decide)
  · exact stateFlow_of_raising _ p hl ▸ hq hp hl (by decide)
  · exact (stateFlow_of_unmatched _ p hl ▸ hq hp hl (by decide)).trans (ite_self 0)
  · have hfender := hq hp hl (by decide)
    obtain ⟨hup, hdown, hboth⟩ := stateFlow_of_fender p hl
    refine ⟨fun hd hl hr => ?_, fun hd hl hr => ?_, fun hd => ?_⟩
    · rwa [fenderDemand_up hd hl hr, hup] at hfender
    · rwa [fenderDemand_down hd hl hr, hdown] at hfender
    · rw [fenderDemand_conflicting hd, hboth] at hfender
      exact hfender.trans (ite_self 0)

/-- Settles O38: the causes still hold at stage 4 (`stopCause_of_barred`), which leaves STOPPED, where no pilot is driven. -/
theorem hitchStops : Obligations.HitchStops := by
  intro s dt inp hrun hbarred
  obtain ⟨hlift, hpending, hpart⟩ := hitchStep_of_barred inp (s.advance dt) hbarred
  obtain ⟨hraise, hlower⟩ := hitchStep_no_pilot (.inl hlift)
  exact ⟨_, exec_of_running rfl hrun, hlift, (hitchStep_reports_lift _ _).trans hlift, hraise, hlower, hpending, hpart⟩

end Sys2Proof.Proofs
end

section
/-! PROOFS. The status frames (R139, R155, R176, R177): where a copy stands once it has been placed in its mailbox, and that
nothing else of the link moves but a copy that the transmitter takes. -/

open Sys2Proof Sys2Proof.Machine

namespace Sys2Proof.Machine

/-! ### A copy in its mailbox (R176) -/

/-- In mailboxes by rising identifier, a placed copy stands, and of the others those of another identifier. -/
theorem mem_insertMail_iff {m x : Mail} {ms : List Mail} (h : (ms.map Mail.ident).Pairwise (· < ·)) :
    x ∈ insertMail m ms ↔ x = m ∨ (x ∈ ms ∧ x.ident ≠ m.ident) := by
  induction ms with
  | nil => simp [insertMail]
  | cons y rest ih =>
    obtain ⟨hy, hrest⟩ := List.pairwise_cons.mp h
    have hlt : ∀ z ∈ rest, y.ident < z.ident := fun z hz => hy _ (List.mem_map_of_mem hz)
    unfold insertMail
    split
    next hm =>
      have hne : ∀ z ∈ y :: rest, z.ident ≠ m.ident := by
        intro z hz
        rcases List.mem_cons.mp hz with rfl | hz
        · omega
        · have := hlt z hz; omega
      rw [List.mem_cons]
      exact or_congr_right ⟨fun hx => ⟨hx, hne x hx⟩, And.left⟩
    next hm =>
      split
      next heq =>
        have hne : ∀ z ∈ rest, z.ident ≠ m.ident := fun z hz => by have := hlt z hz; omega
        rw [List.mem_cons, List.mem_cons]
        refine or_congr_right ⟨fun hx => ⟨.inr hx, hne x hx⟩, ?_⟩
        rintro ⟨rfl | hx, hident⟩
        · exact absurd heq.symm hident
        · exact hx
      next hne =>
        rw [List.mem_cons, ih hrest, List.mem_cons]
        refine ⟨?_, ?_⟩
        · rintro (rfl | rfl | ⟨hx, hident⟩)
          · exact .inr ⟨.inl rfl, Ne.symm hne⟩
          · exact .inl rfl
          · exact .inr ⟨.inr hx, hident⟩
        · rintro (rfl | ⟨rfl | hx, hident⟩)
          · exact .inr (.inl rfl)
          · exact .inl rfl
          · exact .inr (.inr ⟨hx, hident⟩)

/-! ### The transmitter's choice (R176) -/

/-- The transmitter takes no copy, or the first copy, and that with no frame in transmission. -/
theorem transmit_takes (l : Link) (k : LinkState) :
    ((transmit l k).mail = k.mail ∧
        ((transmit l k).tx = k.tx ∨ (k.tx = none ∧ (transmit l k).tx = some .event))) ∨
      ∃ m rest, k.mail = m :: rest ∧ k.tx = none ∧ (transmit l k).mail = rest ∧ (transmit l k).tx = some (.mail m) := by
  unfold transmit
  split
  · exact .inl ⟨rfl, .inl rfl⟩
  next hactive =>
    have htx : k.tx = none := by simp_all
    split
    · exact .inl ⟨rfl, .inl rfl⟩
    · exact .inl ⟨rfl, .inr ⟨htx, rfl⟩⟩
    next m rest hmail _ => exact .inr ⟨m, rest, hmail, htx, rfl, rfl⟩
    next m rest _ _ hmail _ =>
      split
      · exact .inr ⟨m, rest, hmail, htx, rfl, rfl⟩
      · exact .inl ⟨rfl, .inr ⟨htx, rfl⟩⟩

section
variable (l : Link) (k : LinkState)

/-- A waiting copy still waits after the choice, or is now in transmission. -/
theorem mem_mail_or_sent_of_transmit {x : Mail} (h : x ∈ k.mail) :
    x ∈ (transmit l k).mail ∨ (transmit l k).tx = some (.mail x) := by
  obtain ⟨hmail, -⟩ | ⟨m, rest, hk, -, hmail, htx⟩ := transmit_takes l k
  · exact .inl (hmail ▸ h)
  · rw [hmail, htx]
    rcases List.mem_cons.mp (hk ▸ h) with rfl | hx
    · exact .inr rfl
    · exact .inl hx

/-- What waits after the choice waited before it. -/
theorem mem_mail_of_mem_transmit {x : Mail} (h : x ∈ (transmit l k).mail) : x ∈ k.mail := by
  obtain ⟨hmail, -⟩ | ⟨m, rest, hk, -, hmail, -⟩ := transmit_takes l k
  · exact hmail ▸ h
  · exact hk ▸ List.mem_cons_of_mem m (hmail ▸ h)

/-- A frame in transmission stays. -/
theorem transmit_tx_of_some {x : InTransmission} (h : k.tx = some x) : (transmit l k).tx = some x := by
  simp [transmit, h]

/-- A copy whose transmission the choice begins waited before it. -/
theorem mem_mail_of_transmit_tx {x : Mail} (hnone : k.tx = none) (h : (transmit l k).tx = some (.mail x)) : x ∈ k.mail := by
  obtain ⟨-, htx | ⟨-, htx⟩⟩ | ⟨m, rest, hk, -, -, htx⟩ := transmit_takes l k
  · cases hnone.symm.trans (htx.symm.trans h)
  · cases htx.symm.trans h
  · cases htx.symm.trans h
    exact hk ▸ List.mem_cons_self

end

/-! ### A placed copy (R176) -/

/-- A copy of a link's mailboxes is placed: it stands in its mailbox or is in transmission, and nothing else of the link moves
but a copy that the transmitter takes. -/
structure LinkState.Placed (old k : LinkState) (copy : Mail) : Prop where
  stands : copy ∈ k.mail ∨ k.tx = some (.mail copy)
  single : ∀ m ∈ k.mail, m.ident = copy.ident → m = copy
  others : ∀ m ∈ old.mail, m.ident ≠ copy.ident → m ∈ k.mail ∨ k.tx = some (.mail m)
  noOther : ∀ m ∈ k.mail, m = copy ∨ m ∈ old.mail
  sending : ∀ x, old.tx = some x → k.tx = some x
  begun : old.tx = none → ∀ m, k.tx = some (.mail m) → m = copy ∨ m ∈ old.mail
  inbox : k.inbox = old.inbox
  outbox : k.outbox = old.outbox
  rejoin : k.rejoin = old.rejoin

theorem placed_of_bounded (l : Link) {k : LinkState} (h : k.bounded = true) (copy : Mail) :
    k.Placed (transmit l { k with mail := insertMail copy k.mail }) copy := by
  have hmem (m : Mail) : m ∈ insertMail copy k.mail ↔ m = copy ∨ (m ∈ k.mail ∧ m.ident ≠ copy.ident) :=
    mem_insertMail_iff (LinkState.mail_rising h)
  have hold {m : Mail} (hm : m ∈ insertMail copy k.mail) : m = copy ∨ m ∈ k.mail := ((hmem m).mp hm).imp_right And.left
  refine ⟨mem_mail_or_sent_of_transmit l _ ((hmem copy).mpr (.inl rfl)), fun m hm hident => ?_, fun m hm hident => ?_,
    fun m hm => hold (mem_mail_of_mem_transmit l _ hm), fun x hx => transmit_tx_of_some l _ hx,
    fun hnone m hm => hold (mem_mail_of_transmit_tx l { k with mail := insertMail copy k.mail } hnone hm),
    transmit_inbox l _, transmit_outbox l _, transmit_rejoin l _⟩
  · exact ((hmem m).mp (mem_mail_of_mem_transmit l _ hm)).resolve_right fun hne => hne.2 hident
  · exact mem_mail_or_sent_of_transmit l _ ((hmem m).mpr (.inr ⟨hm, hident⟩))

/-- The conjunction in which the statements write that a copy is placed. -/
theorem LinkState.Placed.and {old k : LinkState} {ident : Nat} {data : List Byte}
    (h : old.Placed k { ident := ident, data := data }) :
    let copy : Mail := { ident := ident, data := data }
    (copy ∈ k.mail ∨ k.tx = some (.mail copy)) ∧ (∀ m ∈ k.mail, m.ident = ident → m = copy) ∧
      (∀ m ∈ old.mail, m.ident ≠ ident → m ∈ k.mail ∨ k.tx = some (.mail m)) ∧
      (∀ m ∈ k.mail, m = copy ∨ m ∈ old.mail) ∧ (∀ x, old.tx = some x → k.tx = some x) ∧
      (old.tx = none → ∀ m, k.tx = some (.mail m) → m = copy ∨ m ∈ old.mail) ∧
      k.inbox = old.inbox ∧ k.outbox = old.outbox ∧ k.rejoin = old.rejoin :=
  ⟨h.stands, h.single, h.others, h.noOther, h.sending, h.begun, h.inbox, h.outbox, h.rejoin⟩

/-- A status frame of the vehicle link is placed, and nothing outside that link moves (R139, R155). -/
theorem State.placeMail_vehicle (s : State) (ident : Nat) (data : List Byte) : s.placeMail .vehicle ident data =
    { s with link := { s.link with vehicle := (s.placeMail .vehicle ident data).link.vehicle } } := rfl

/-! ### The report timer (R177) -/

section
variable (s : State)

theorem reportTimer_vehicle :
    (reportTimer s).link.vehicle = (s.placeMail .vehicle 0x300 (driveStatus s)).link.vehicle := by
  unfold reportTimer
  cases s.link.secondReport <;> rfl

theorem reportTimer_implement_of_second (h : s.link.secondReport = true) :
    (reportTimer s).link.implement = (s.placeMail .implement 0x1B8 (implStatus s)).link.implement := by
  simp only [reportTimer, h, if_true]
  rfl

theorem reportTimer_implement_of_first (h : s.link.secondReport = false) :
    (reportTimer s).link.implement = s.link.implement := by
  simp only [reportTimer, h, Bool.false_eq_true, if_false]
  rfl

theorem reportTimer_eq : reportTimer s =
    { s with link := { s.link with
        vehicle := (reportTimer s).link.vehicle
        implement := (reportTimer s).link.implement
        secondReport := !s.link.secondReport } } := by
  unfold reportTimer
  cases s.link.secondReport <;> rfl

end

end Sys2Proof.Machine

/-! ### The obligation -/

namespace Sys2Proof.Proofs

/-- Settles O53: each frame is placed in its mailbox (`placed_of_bounded`), and time passing changes none of the frames. -/
theorem statusCopiesArePlaced : Obligations.StatusCopiesArePlaced := by
  intro s dt hrun hvehicle himplement placed
  refine ⟨⟨_, exec_of_running rfl hrun, (placed_of_bounded .vehicle hvehicle _).and, rfl⟩,
    ⟨_, exec_of_running rfl hrun, (placed_of_bounded .vehicle hvehicle _).and, rfl⟩,
    ⟨_, exec_of_running rfl hrun, ?_, fun hsecond => ?_, reportTimer_implement_of_first (s.advance dt),
      reportTimer_eq (s.advance dt)⟩⟩
  · rw [reportTimer_vehicle]
    exact (placed_of_bounded .vehicle hvehicle _).and
  · rw [reportTimer_implement_of_second (s.advance dt) hsecond]
    exact (placed_of_bounded .implement himplement _).and

end Sys2Proof.Proofs
end

section
/-! PROOFS. The brake step: Brake Demand as its stages leave it (R143, R144), the map value that follows from it (R147), and
the recharge of LOST (R151). -/

open Sys2Proof Sys2Proof.Machine

namespace Sys2Proof.Machine

/-! ### The stages that leave Brake Demand and fault 8 -/

/-- Brake Demand and the state of fault 8, from which the map value follows, are as before. -/
structure State.KeepsDemand (s t : State) : Prop where
  demand : t.brake.demand = s.brake.demand
  sensor : t.active .brakePressureSensor = s.active .brakePressureSensor

namespace State.KeepsDemand
variable {s t u : State}

theorem trans (h : s.KeepsDemand t) (k : t.KeepsDemand u) : s.KeepsDemand u :=
  ⟨k.demand.trans h.demand, k.sensor.trans h.sensor⟩

theorem ite {p : Prop} [Decidable p] (h : s.KeepsDemand t) (k : s.KeepsDemand u) :
    s.KeepsDemand (if p then t else u) := by
  split
  · exact h
  · exact k

theorem raise {c : FaultCode} (h : s.KeepsDemand t) (hg : gatesOf c none = []) (hc : .brakePressureSensor ≠ c) :
    s.KeepsDemand (t.raise c none) :=
  h.trans ⟨by rw [t.raise_brake hg], by simp [hc]⟩

theorem reportInactive {c : FaultCode} (h : s.KeepsDemand t) (hc : .brakePressureSensor ≠ c) :
    s.KeepsDemand (t.reportInactive c) :=
  h.trans ⟨by simp, by simp [hc]⟩

theorem report {c : FaultCode} {v : Verdict} (h : s.KeepsDemand t) (hg : gatesOf c none = [])
    (hc : .brakePressureSensor ≠ c) : s.KeepsDemand (t.report c v) :=
  h.trans ⟨by rw [t.report_brake v hg], t.report_active_other v hc⟩

end State.KeepsDemand

section
variable (s : State)

theorem inputChecks_keepsDemand : s.KeepsDemand (inputChecks s) := by
  unfold inputChecks
  extract_lets d disagree r t park u
  have ht : s.KeepsDemand t := .report ⟨rfl, rfl⟩ rfl (by decide)
  have hu : s.KeepsDemand u := ht.trans ⟨rfl, rfl⟩
  exact .ite (.ite hu (hu.raise rfl (by decide))) (hu.reportInactive (by decide))

theorem chargingStep_keepsDemand (park closed : Bool) : s.KeepsDemand (chargingStep park closed s) := by
  refine .ite (.reportInactive ⟨rfl, rfl⟩ (by decide)) (.ite (.ite (.reportInactive ⟨rfl, rfl⟩ (by decide)) ?_) ⟨rfl, rfl⟩)
  split
  · exact ⟨rfl, rfl⟩
  · exact .ite (.raise ⟨rfl, rfl⟩ rfl (by decide)) ⟨rfl, rfl⟩

theorem readyStep_keepsDemand (park closed : Bool) : s.KeepsDemand (readyStep park closed s) :=
  .ite ⟨rfl, rfl⟩ (.ite (.raise ⟨rfl, rfl⟩ rfl (by decide)) ⟨rfl, rfl⟩)

theorem lostStep_keepsDemand (closed : Bool) : s.KeepsDemand (lostStep closed s) :=
  .ite (.reportInactive ⟨rfl, rfl⟩ (by decide)) ⟨rfl, rfl⟩

theorem supplyStage_keepsDemand (park closed : Bool) : s.KeepsDemand (supplyStage park closed s) := by
  unfold supplyStage
  split
  · exact ⟨rfl, rfl⟩
  · exact .ite ⟨rfl, rfl⟩ ⟨rfl, rfl⟩
  · exact chargingStep_keepsDemand s park closed
  · exact readyStep_keepsDemand s park closed
  · exact lostStep_keepsDemand s closed

theorem lineCommand_keepsDemand : s.KeepsDemand (lineCommand s) := ⟨rfl, rfl⟩

theorem deviationStage_keepsDemand : s.KeepsDemand (deviationStage s) := .report ⟨rfl, rfl⟩ rfl (by decide)

theorem trailerOutputs_keepsDemand : s.KeepsDemand (trailerOutputs s) := ⟨by simp, by simp [State.active]⟩

theorem storedReport_keepsDemand : s.KeepsDemand (s.onBrake (fun b => { b with report := b.trailer })) := ⟨rfl, rfl⟩

/-! ### Brake Demand of a brake step (R143, R144) -/

/-- While fault 8 is active P_brk is 0 (R143). -/
def State.FailedReadsZero (t : State) : Prop := t.active .brakePressureSensor = true → t.brake.demand.pBrk = 0

theorem transducerStage_failedReadsZero (raw : Nat) : (transducerStage raw s).FailedReadsZero := by
  refine iteInduction (fun _ => ?_) (fun hinactive => ?_)
  · exact iteInduction (fun _ h => by simp at h) (fun _ _ => rfl)
  · have hquiet {t : State} (hfault : t.fault = s.fault) : t.FailedReadsZero :=
      fun h => absurd (by simpa [State.active, hfault] using h) hinactive
    have hraised (t : State) (hzero : t.brake.demand.pBrk = 0) : (t.raise .brakePressureSensor none).FailedReadsZero :=
      fun _ => (congrArg (·.demand.pBrk) (State.raise_brake t rfl)).trans hzero
    exact iteInduction (fun _ => iteInduction (fun _ => hraised _ rfl) (fun _ => hquiet rfl)) (fun _ => hquiet rfl)

/-- A reading in range gives P_brk while fault 8 is inactive (R143). -/
theorem transducerStage_pBrk_of_inRange {raw : Nat} (hs : s.active .brakePressureSensor = false)
    (hr : rawOutOfRange raw = false) : (transducerStage raw s).brake.demand.pBrk = pressureOf raw := by
  simp [transducerStage, hs, hr, State.onDemand, State.onBrake]

/-- Brake Demand as stage 3 forms it (R144). -/
theorem demandStage_demand (left right park : Bool) : (demandStage left right park s).brake.demand =
    { pedalLeft := left, pedalRight := right, pBrk := s.brake.demand.pBrk
      sensorFailed := s.active .brakePressureSensor
      brakeActive := brakeActiveOf (s.active .brakePressureSensor) left right s.brake.demand.pBrk
      parkApplied := park } := by
  simp [demandStage, State.onDemand, State.onBrake]

variable (inp : BrakeInputs)

/-- The state after stages 1 and 2 of a brake step: the readings and the transducers. -/
def brakeTransduced : State :=
  transducerStage (clamp 0 4095 inp.rawBrake) (lineStage (clamp 0 4095 inp.rawLine) inp.supplyClosed
    (s.onBrake (fun b => { b with rawBrake := clamp 0 4095 inp.rawBrake })))

theorem brakeReadings_eq : brakeReadings inp s =
    inputChecks (demandStage inp.pedalLeft inp.pedalRight inp.parkApplied (brakeTransduced s inp)) := rfl

/-- The stages of the trailer keep the Brake Demand of the readings. -/
theorem brakeStep_keepsDemand : (brakeReadings inp s).KeepsDemand (brakeStep inp s) := by
  rw [brakeStep_eq]
  have htrailer := ((supplyStage_keepsDemand (brakeReadings inp s) inp.parkApplied inp.supplyClosed).trans
    (lineCommand_keepsDemand _)).trans (deviationStage_keepsDemand _)
  exact ((State.KeepsDemand.ite htrailer ⟨rfl, rfl⟩).trans (trailerOutputs_keepsDemand _)).trans (storedReport_keepsDemand _)

theorem brakeStep_sensor :
    (brakeStep inp s).active .brakePressureSensor = (brakeTransduced s inp).active .brakePressureSensor := by
  rw [(brakeStep_keepsDemand s inp).sensor, brakeReadings_eq, (inputChecks_keepsDemand _).sensor]
  simp [State.active]

/-- Brake Demand as a brake step leaves it (R144). -/
theorem brakeStep_demand : (brakeStep inp s).brake.demand =
    { pedalLeft := inp.pedalLeft, pedalRight := inp.pedalRight, pBrk := (brakeTransduced s inp).brake.demand.pBrk
      sensorFailed := (brakeStep inp s).active .brakePressureSensor
      brakeActive := brakeActiveOf ((brakeStep inp s).active .brakePressureSensor) inp.pedalLeft inp.pedalRight
        (brakeTransduced s inp).brake.demand.pBrk
      parkApplied := inp.parkApplied } := by
  rw [brakeStep_sensor, (brakeStep_keepsDemand s inp).demand, brakeReadings_eq, (inputChecks_keepsDemand _).demand,
    demandStage_demand]

theorem brakeTransduced_pBrk_of_active (h : (brakeStep inp s).active .brakePressureSensor = true) :
    (brakeTransduced s inp).brake.demand.pBrk = 0 :=
  transducerStage_failedReadsZero _ _ (brakeStep_sensor s inp ▸ h)

theorem brakeTransduced_pBrk_of_inRange (hs : s.active .brakePressureSensor = false) (hlow : 200 ≤ inp.rawBrake)
    (hhigh : inp.rawBrake ≤ 3895) : (brakeTransduced s inp).brake.demand.pBrk = pressureOf inp.rawBrake := by
  have hclamp : clamp 0 4095 inp.rawBrake = inp.rawBrake := by
    unfold clamp
    split_ifs <;> omega
  have hrange : rawOutOfRange inp.rawBrake = false := by simp [rawOutOfRange, hlow, hhigh]
  unfold brakeTransduced
  rw [hclamp]
  exact transducerStage_pBrk_of_inRange _ (by simpa [State.active] using hs) hrange

end

/-! ### The map value (R147) -/

/-- The map rises from P_lead and ends at 1500. -/
theorem mapValue_eq_min (c : TrailerCal) (p : Nat) : mapValue c p = min 1500 (c.pLead + (p * c.kTb + 32) / 64) := by
  unfold mapValue clamp
  split_ifs <;> omega

/-- What the trailer's stages write of the Trailer State stands at the end of the step. -/
theorem brakeStep_trailer (inp : BrakeInputs) (s : State) (h : s.brake.trailer.line ≠ .notFitted) :
    (brakeStep inp s).brake.trailer =
      (lineCommand (supplyStage inp.parkApplied inp.supplyClosed (brakeReadings inp s))).brake.trailer := by
  rw [brakeStep_of_fitted s inp h]
  simp [State.onBrake, deviationStage_trailer]

/-- P_map of a brake step is the map value of the state that the step leaves. -/
theorem brakeStep_pMap (inp : BrakeInputs) (s : State) (h : s.brake.trailer.line ≠ .notFitted) :
    (brakeStep inp s).brake.trailer.pMap = pMapNow (brakeStep inp s) := by
  have hstage := supplyStage_keepsDemand (brakeReadings inp s) inp.parkApplied inp.supplyClosed
  have hstep := brakeStep_keepsDemand s inp
  have hcal : (supplyStage inp.parkApplied inp.supplyClosed (brakeReadings inp s)).trailerCal =
      (brakeStep inp s).trailerCal := by
    simp [State.trailerCal, (brakeReadings_frame inp s).2.2]
  rw [brakeStep_trailer inp s h]
  change pMapNow _ = _
  rw [pMapNow, pMapNow, hcal, hstage.demand, hstage.sensor, hstep.demand, hstep.sensor]

/-! ### The supply line and its recharge (R149, R151) -/

/-- P_tc of a line that charges or is ready (R148). -/
theorem commandOf_of_live {l : SupplyLine} (h : l = .charging ∨ l = .ready) (pMap pAssist : Nat) (assist : Bool) :
    commandOf l pMap pAssist assist = if assist then max pMap pAssist else pMap := by
  rcases h with rfl | rfl <;> rfl

theorem supplyOn_of_live {l : SupplyLine} (h : l = .charging ∨ l = .ready) : supplyOn l = true := by
  rcases h with rfl | rfl <;> rfl

theorem brakeReadings_now (inp : BrakeInputs) (s : State) : (brakeReadings inp s).now = s.now := by simp [brakeReadings]

/-- Stages 1 to 4 write of the Trailer State the measured pressure alone (R143). -/
theorem brakeReadings_trailer (inp : BrakeInputs) (s : State) :
    ∃ m, (brakeReadings inp s).brake.trailer = { s.brake.trailer with pTcMeas := m } := by
  simp only [brakeReadings, inputChecks_trailer, demandStage_trailer, transducerStage_trailer, lineStage]
  split
  · exact ⟨_, rfl⟩
  · exact ⟨s.brake.trailer.pTcMeas, rfl⟩

section
variable (s : State) (closed : Bool)

/-- The recharge has lasted 500 ms and the acknowledgement has been taken (R151). -/
def State.latchClears (s : State) (closed : Bool) : Prop :=
  passed s.now 500 (holdSince s.now closed s.brake.trailer.closedSince) = true ∧ s.brake.trailer.ackSeen = true

theorem State.latchClears_iff : s.latchClears closed ↔ closed = true ∧
    (∃ u, s.brake.trailer.closedSince = some u ∧ u + 500 ≤ s.now) ∧ s.brake.trailer.ackSeen = true := by
  unfold State.latchClears
  cases closed <;> cases s.brake.trailer.closedSince <;> simp [holdSince, passed]

/-- In LOST the count goes on while the latch does not clear (R151). -/
theorem lostStep_of_held (h : ¬ s.latchClears closed) : (lostStep closed s).brake.trailer =
    { s.brake.trailer with closedSince := holdSince s.now closed s.brake.trailer.closedSince } :=
  congrArg (fun t : State => t.brake.trailer) (if_neg h)

/-- The latch clears: READY, without counts, and fault 4 is inactive (R151). -/
theorem lostStep_of_clears (h : s.latchClears closed) :
    (lostStep closed s).brake.trailer.line = .ready ∧ (lostStep closed s).brake.trailer.openSince = none ∧
      (lostStep closed s).active .trailerSupplyLost = false := by
  have hstep : lostStep closed s = State.clearLatch _ := if_pos h
  rw [hstep, State.clearLatch_eq]
  simp [BrakeState.unlatched, enterLine]

end

/-- Fault 4 stands after a brake step as stage 5 leaves it. -/
theorem brakeStep_trailerSupplyLost (inp : BrakeInputs) (s : State) (h : s.brake.trailer.line ≠ .notFitted) :
    (brakeStep inp s).active .trailerSupplyLost =
      (supplyStage inp.parkApplied inp.supplyClosed (brakeReadings inp s)).active .trailerSupplyLost := by
  have hkept := deviationStage_trailerSupplyLost
    (lineCommand (supplyStage inp.parkApplied inp.supplyClosed (brakeReadings inp s)))
  rw [brakeStep_of_fitted s inp h]
  simpa only [State.active, State.onBrake_fault, trailerOutputs_frame, lineCommand_frame] using hkept

/-- Channel 14 follows the supply-line state (R149). -/
theorem brakeStep_supply (inp : BrakeInputs) (s : State) (h : s.brake.trailer.line ≠ .notFitted) :
    (brakeStep inp s).chan.channels.trailerSupply.demand = bit (supplyOn (brakeStep inp s).brake.trailer.line) := by
  rw [brakeStep_trailer inp s h, brakeStep_of_fitted s inp h, State.onBrake_chan, trailerOutputs_supply,
    deviationStage_trailer]

/-- The readings leave the recharge to stage 5. -/
theorem brakeReadings_latchClears (inp : BrakeInputs) (s : State) (closed : Bool) :
    (brakeReadings inp s).latchClears closed ↔ s.latchClears closed := by
  obtain ⟨m, hm⟩ := brakeReadings_trailer inp s
  rw [State.latchClears, hm, brakeReadings_now, State.latchClears]

section
variable (inp : BrakeInputs) (s : State) (h : s.brake.trailer.line = .lost)
include h

/-- A brake step that begins in LOST is the step of the latch (R151). -/
theorem brakeStep_of_lost : (brakeStep inp s).brake.trailer =
      (lineCommand (lostStep inp.supplyClosed (brakeReadings inp s))).brake.trailer ∧
    (brakeStep inp s).active .trailerSupplyLost =
      (lostStep inp.supplyClosed (brakeReadings inp s)).active .trailerSupplyLost := by
  have hline : s.brake.trailer.line ≠ .notFitted := by simp [h]
  have hstage : supplyStage inp.parkApplied inp.supplyClosed (brakeReadings inp s) =
      lostStep inp.supplyClosed (brakeReadings inp s) := by
    rw [supplyStage, brakeReadings_line, h]
  rw [brakeStep_trailer inp s hline, brakeStep_trailerSupplyLost inp s hline, hstage]
  exact ⟨rfl, rfl⟩

/-- A step in LOST that does not clear the latch stays in LOST and counts on (R151). -/
theorem brakeStep_of_held (hheld : ¬ s.latchClears inp.supplyClosed) :
    (brakeStep inp s).brake.trailer.line = .lost ∧
      (brakeStep inp s).brake.trailer.closedSince = holdSince s.now inp.supplyClosed s.brake.trailer.closedSince ∧
      (brakeStep inp s).brake.trailer.ackSeen = s.brake.trailer.ackSeen := by
  obtain ⟨m, hm⟩ := brakeReadings_trailer inp s
  have hstep := lostStep_of_held _ _ (mt (brakeReadings_latchClears inp s inp.supplyClosed).mp hheld)
  rw [(brakeStep_of_lost inp s h).1]
  simp [lineCommand, hstep, hm, brakeReadings_now, h]

/-- A step in LOST that clears the latch leaves READY with fault 4 inactive (R151). -/
theorem brakeStep_of_clears (hclears : s.latchClears inp.supplyClosed) :
    (brakeStep inp s).brake.trailer.line = .ready ∧ (brakeStep inp s).brake.trailer.openSince = none ∧
      (brakeStep inp s).active .trailerSupplyLost = false := by
  obtain ⟨htrailer, hactive⟩ := brakeStep_of_lost inp s h
  rw [htrailer, hactive]
  exact lostStep_of_clears _ _ ((brakeReadings_latchClears inp s inp.supplyClosed).mpr hclears)

end

end Sys2Proof.Machine

/-! ### The obligations -/

namespace Sys2Proof.Proofs

/-- Settles O40: stage 3 forms Brake Demand from stage 2's P_brk and fault 8, and no later stage changes either. -/
theorem brakeDemandOfTheStep : Obligations.BrakeDemandOfTheStep := by
  intro s dt inp hrun
  refine ⟨_, exec_of_running rfl hrun, ?_⟩
  have hzero := brakeTransduced_pBrk_of_active (s.advance dt) inp
  have hvalue := brakeTransduced_pBrk_of_inRange (s.advance dt) inp
  have hdemand := brakeStep_demand (s.advance dt) inp
  generalize brakeStep inp (s.advance dt) = t at *
  rw [hdemand]
  refine ⟨rfl, rfl, rfl, rfl, hzero, hvalue, fun hworks => ?_, fun hfailed => ?_⟩
  · simp [brakeActiveOf, show t.active .brakePressureSensor = false from hworks, and_assoc]
  · simp [brakeActiveOf, show t.active .brakePressureSensor = true from hfailed]

/-- Settles O41: P_map is the map value of the Brake Demand that the step leaves (`brakeStep_pMap`). -/
theorem trailerMapValue : Obligations.TrailerMapValue := by
  intro s dt inp hrun hline
  have hmap := brakeStep_pMap inp (s.advance dt) hline
  have hcal : (brakeStep inp (s.advance dt)).trailerCal = s.trailerCal := by simp [State.trailerCal]
  refine ⟨_, exec_of_running rfl hrun, ?_⟩
  generalize brakeStep inp (s.advance dt) = t at *
  intro d c p
  have hactive (h : d.brakeActive = true) : t.brake.trailer.pMap = mapValue c p := by
    rw [hmap, pMapNow, if_pos h, hcal]
  have hworked (h : d.brakeActive = true) : t.brake.trailer.pMap = min 1500 (c.pLead + (p * c.kTb + 32) / 64) :=
    (hactive h).trans (mapValue_eq_min c p)
  refine ⟨hactive, fun h => ?_, fun h => ?_, fun hk hlead h => ?_, fun hk hp h => ?_, fun hk hlead h => ?_⟩
  · rw [hmap, pMapNow, if_neg (Bool.eq_false_iff.mp h)]
  · simp [c, State.trailerCal, h]
  · rw [hworked h, hk, hlead]
    refine ⟨fun hp => ?_, fun hp => ?_, fun hp => ?_, fun hp => ?_, fun hp => ?_⟩ <;> rw [hp] <;> rfl
  · rw [hworked h, hk, hp]
    omega
  · rw [hworked h, hk]
    omega

/-- Settles O42: P_tc and the two channels follow `commandOf` and `supplyOn`, and in LOST the recharge either holds the line
there (`brakeStep_of_held`) or clears the latch (`brakeStep_of_clears`). -/
theorem trailerLineCommand : Obligations.TrailerLineCommand := by
  intro s dt inp hrun hline
  obtain ⟨⟨hfitted, -, -, hcommand⟩, hcontrol⟩ := brakeStep_fitted inp (s.advance dt) hline
  have hsupply := brakeStep_supply inp (s.advance dt) hline
  have hheld := brakeStep_of_held inp (s.advance dt)
  have hclears := brakeStep_of_clears inp (s.advance dt)
  have hframe := brakeStep_frame inp (s.advance dt)
  refine ⟨_, exec_of_running rfl hrun, ?_⟩
  generalize brakeStep inp (s.advance dt) = t at *
  refine ⟨fun hl => ?_, fun hl => ?_, fun hl => ?_, fun hlost => ⟨fun hopen => ?_, fun hclosed =>
    ⟨fun hnone => ?_, fun u hsome hwait => ?_, fun u hsome hlong hack => ?_⟩, fun hl => ?_⟩, hfitted, hcontrol, ?_⟩
  · rw [hcommand, hsupply, hl]
    exact ⟨rfl, rfl⟩
  · rw [hcommand, hsupply, commandOf_of_live hl, supplyOn_of_live hl]
    refine ⟨fun ha => if_pos ha, fun ha => if_neg (by simp [ha]), ?_, rfl⟩
    split
    · exact le_max_left _ _
    · exact le_rfl
  · rw [hcommand, hsupply, hl]
    exact ⟨rfl, rfl⟩
  · obtain ⟨hstays, hcount, -⟩ := hheld hlost (by simp [State.latchClears_iff, hopen])
    exact ⟨hstays, by simpa [holdSince, hopen] using hcount⟩
  · obtain ⟨hstays, hcount, -⟩ := hheld hlost (by simp [State.latchClears_iff, hnone])
    exact ⟨hstays, by simpa [holdSince, hclosed, hnone] using hcount⟩
  · obtain ⟨hstays, hcount, -⟩ := hheld hlost (by
      intro h
      obtain ⟨-, ⟨v, hv, hlong⟩, hack⟩ := (State.latchClears_iff _ _).mp h
      obtain rfl : u = v := Option.some.inj (hsome.symm.trans hv)
      exact hwait.elim hlong.not_gt (by simp [show s.brake.trailer.ackSeen = true from hack]))
    exact ⟨hstays, by simpa [holdSince, hclosed, hsome] using hcount⟩
  · exact hclears hlost ((State.latchClears_iff _ _).mpr ⟨hclosed, ⟨u, hsome, hlong⟩, hack⟩)
  · have hnot : ¬ (s.advance dt).latchClears inp.supplyClosed := fun h => by simp [(hclears hlost h).1] at hl
    exact (hheld hlost hnot).2.2
  · obtain ⟨-, -, -, -, -, -, hspeed, hseq, hstore, hrunning, hpower, hsvc⟩ := hframe
    exact ⟨hseq, hspeed, hstore, hrunning, hpower, hsvc⟩

end Sys2Proof.Proofs
end

section
/-! PROOFS. The Fault List (09, R158 to R162): what its soundness asks, and that each way the list is changed keeps it: a
raise recorded, a report, an acknowledgement, a notice and a removal. -/

open Sys2Proof Sys2Proof.Machine

namespace Sys2Proof.Machine

/-! ### What a sound list asks -/

/-- The parts of `FaultState.sound` for a list of entries and the active codes (R158). -/
structure SoundList (active : List FaultCode) (l : List FaultEntry) : Prop where
  length_le : l.length ≤ 16
  nodup : (l.map FaultEntry.code).Nodup
  listed : ∀ c ∈ active, c.classA = true → ∃ e ∈ l, e.code = c
  entries : ∀ e ∈ l, e.sound active = true

theorem FaultState.sound_iff (f : FaultState) : f.sound = true ↔ SoundList f.active f.list := by
  have hparts : f.sound = true ↔ ((f.list.length ≤ 16 ∧ (f.list.map FaultEntry.code).Nodup) ∧
      ∀ c ∈ f.active, c.classA = true → ∃ e ∈ f.list, e.code = c) ∧ ∀ e ∈ f.list, e.sound f.active = true := by
    have himp (b : Bool) (p : Prop) : (b = false ∨ p) ↔ (b = true → p) := by cases b <;> simp
    simp [FaultState.sound, himp]
  rw [hparts]
  exact ⟨fun ⟨⟨⟨hlen, hnodup⟩, hlisted⟩, hentries⟩ => ⟨hlen, hnodup, hlisted, hentries⟩,
    fun ⟨hlen, hnodup, hlisted, hentries⟩ => ⟨⟨⟨hlen, hnodup⟩, hlisted⟩, hentries⟩⟩

theorem FaultEntry.sound_iff (active : List FaultCode) (e : FaultEntry) : e.sound active = true ↔
    e.active = decide (e.code ∈ active) ∧ 1 ≤ e.count ∧ e.count ≤ 255 ∧ e.removalDue.isSome = (!e.active && e.acked) := by
  simp [FaultEntry.sound, and_assoc]

/-- Soundness of an entry reads the active codes at its own code alone. -/
theorem FaultEntry.sound_congr {e : FaultEntry} {a b : List FaultCode} (h : e.code ∈ b ↔ e.code ∈ a) :
    e.sound b = e.sound a := by
  simp [FaultEntry.sound, h]

section
variable {a b : List FaultCode} {l : List FaultEntry} {e : FaultEntry} {c : FaultCode}

theorem SoundList.active_iff (h : SoundList a l) (he : e ∈ l) : e.active = true ↔ e.code ∈ a := by
  rw [((FaultEntry.sound_iff a e).mp (h.entries e he)).1, decide_eq_true_iff]

/-- A waiting removal belongs to an inactive entry (R160). -/
theorem SoundList.not_mem_of_removalDue (h : SoundList a l) (he : e ∈ l) (hr : e.removalDue.isSome = true) : e.code ∉ a := by
  obtain ⟨-, -, -, hdue⟩ := (FaultEntry.sound_iff a e).mp (h.entries e he)
  rw [hr, eq_comm, Bool.and_eq_true, Bool.not_eq_true'] at hdue
  rw [← h.active_iff he, hdue.1]
  exact Bool.false_ne_true

/-! ### Changes of a sound list -/

/-- Entries changed one by one, with their codes, under a set of active codes that gains listed codes at most. -/
theorem SoundList.map (h : SoundList a l) {g : FaultEntry → FaultEntry} (hcode : ∀ e, (g e).code = e.code)
    (hactive : ∀ c ∈ b, c ∈ a ∨ ∃ e ∈ l, e.code = c) (hg : ∀ e ∈ l, e.sound a = true → (g e).sound b = true) :
    SoundList b (l.map g) := by
  have hcodes : (l.map g).map FaultEntry.code = l.map FaultEntry.code := by
    rw [List.map_map]
    exact List.map_congr_left fun e _ => hcode e
  refine ⟨by simpa using h.length_le, hcodes ▸ h.nodup, fun c hc hA => ?_, fun e he => ?_⟩
  · obtain ⟨e, he, hec⟩ := (hactive c hc).elim (fun hc => h.listed c hc hA) id
    exact ⟨g e, List.mem_map_of_mem he, (hcode e).trans hec⟩
  · obtain ⟨x, hx, rfl⟩ := List.mem_map.mp he
    exact hg x hx (h.entries x hx)

/-- Entries of one code changed. -/
theorem SoundList.mapCode (h : SoundList a l) {g : FaultEntry → FaultEntry} (hcode : ∀ e, (g e).code = e.code)
    (hactive : ∀ d ∈ b, d ∈ a ∨ ∃ e ∈ l, e.code = d) (hother : ∀ d, d ≠ c → (d ∈ b ↔ d ∈ a))
    (hg : ∀ e ∈ l, e.code = c → e.sound a = true → (g e).sound b = true) : SoundList b (mapCode c g l) := by
  refine h.map (fun e => ?_) hactive fun e he hsound => ?_
  · split
    · exact hcode e
    · rfl
  · split
    next hc => exact hg e he hc hsound
    next hc => exact (FaultEntry.sound_congr (hother _ hc)).trans hsound

/-- The entry of a code that is no active class A fault is taken off the list. -/
theorem SoundList.remove (h : SoundList a l) (hc : c ∈ a → c.classA = false) : SoundList a (removeCode c l) := by
  refine ⟨(List.length_filter_le _ _).trans h.length_le, h.nodup.sublist (List.filter_sublist.map _), fun d hd hA => ?_,
    fun e he => h.entries e (List.mem_filter.mp he).1⟩
  obtain ⟨e, he, rfl⟩ := h.listed d hd hA
  refine ⟨e, List.mem_filter.mpr ⟨he, ?_⟩, rfl⟩
  rw [decide_eq_true_iff]
  rintro rfl
  exact Bool.false_ne_true ((hc hd).symm.trans hA)

/-- A class B code without an entry becomes active, and the list stays (R159 case 3). -/
theorem SoundList.unlisted (h : SoundList a l) (hc : ∀ e ∈ l, e.code ≠ c) (hB : c.classA = false) :
    SoundList (setActive c true a) l := by
  refine ⟨h.length_le, h.nodup, fun d hd hA => h.listed d ?_ hA, fun e he => ?_⟩
  · have hne : d ≠ c := by
      rintro rfl
      exact Bool.false_ne_true (hB.symm.trans hA)
    simpa [mem_setActive, hne] using hd
  · exact (FaultEntry.sound_congr (by simp [mem_setActive, hc e he])).trans (h.entries e he)

/-- A code without an entry becomes active with a new one (R159 cases 2 and 4). -/
theorem SoundList.append (h : SoundList a l) (hlen : l.length < 16) (hc : ∀ e ∈ l, e.code ≠ c) (now : Nat)
    (replaced : Option FaultCode) : SoundList (setActive c true a) (l ++ [newEntry now c replaced]) := by
  refine ⟨by simpa using hlen, ?_, fun d hd hA => ?_, fun e he => ?_⟩
  · rw [List.map_append, List.nodup_append]
    refine ⟨h.nodup, List.nodup_singleton _, fun x hx y hy => ?_⟩
    obtain ⟨e, he, rfl⟩ := List.mem_map.mp hx
    obtain rfl : y = c := by simpa [newEntry] using hy
    exact hc e he
  · by_cases hdc : d = c
    · exact ⟨_, List.mem_append_right l (List.mem_singleton_self _), hdc.symm⟩
    · obtain ⟨e, he, hed⟩ := h.listed d (by simpa [mem_setActive, hdc] using hd) hA
      exact ⟨e, List.mem_append_left _ he, hed⟩
  · rcases List.mem_append.mp he with he | he
    · exact (FaultEntry.sound_congr (by simp [mem_setActive, hc e he])).trans (h.entries e he)
    · obtain rfl := List.mem_singleton.mp he
      simp [FaultEntry.sound, newEntry, mem_setActive]

/-! ### The entry that a class A raise displaces (R159 case 4) -/

theorem mem_of_oldest {d : FaultEntry} (h : oldest l = some d) : d ∈ l := by
  induction l generalizing d with
  | nil => cases h
  | cons e rest ih =>
    unfold oldest at h
    split at h
    · exact Option.some.inj h ▸ List.mem_cons_self
    next hrest =>
      split at h
      · exact Option.some.inj h ▸ List.mem_cons_of_mem e (ih hrest)
      · exact Option.some.inj h ▸ List.mem_cons_self

theorem oldest_eq_none : oldest l = none ↔ l = [] := by
  cases l with
  | nil => simp [oldest]
  | cons e rest =>
    unfold oldest
    repeat' split
    all_goals simp

/-- What is displaced is an entry that is inactive or of class B. -/
theorem displaced_some {d : FaultEntry} (h : displaced l = some d) :
    d ∈ l ∧ (d.active = false ∨ d.code.classA = false) := by
  unfold displaced at h
  split at h
  next hinactive =>
    have hd := List.mem_filter.mp (mem_of_oldest (hinactive.trans h))
    exact ⟨hd.1, .inl (by simpa using hd.2)⟩
  next =>
    have hd := List.mem_filter.mp (mem_of_oldest h)
    exact ⟨hd.1, .inr (by simpa using hd.2)⟩

/-- Nothing is displaced from a list of class A entries alone. -/
theorem displaced_none (h : displaced l = none) : ∀ e ∈ l, e.code.classA = true := by
  unfold displaced at h
  split at h
  · cases h
  next => simpa [oldest_eq_none] using h

/-- There are eight codes of class A (R157), so that a full list of distinct codes holds one of class B. -/
theorem SoundList.length_le_of_classA (h : SoundList a l) (hA : ∀ e ∈ l, e.code.classA = true) : l.length ≤ 8 := by
  have hsub : l.map FaultEntry.code ⊆ allCodes.filter FaultCode.classA := by
    intro c hc
    obtain ⟨e, he, rfl⟩ := List.mem_map.mp hc
    have hmem : e.code ∈ allCodes := by cases e.code <;> decide
    exact List.mem_filter.mpr ⟨hmem, hA e he⟩
  have hle := (h.nodup.subperm hsub).length_le
  rw [List.length_map] at hle
  exact hle.trans (by decide)

end

/-! ### A raise recorded (R159) -/

theorem mergeRaise_sound {c : FaultCode} {e : FaultEntry} {a : List FaultCode} (hc : e.code = c) (h : e.sound a = true) :
    (mergeRaise c e).sound (setActive c true a) = true := by
  obtain ⟨-, hcount, -⟩ := (FaultEntry.sound_iff a e).mp h
  rw [FaultEntry.sound_iff]
  refine ⟨by simp [mergeRaise, mem_setActive, hc], ?_, ?_, by simp [mergeRaise]⟩
  · exact le_min (by omega) (by omega)
  · exact min_le_left _ _

/-- Each of the four cases of R159 keeps the list sound. -/
theorem record_sound {f : FaultState} (now : Nat) (c : FaultCode) (h : f.sound = true) :
    (record now c { f with active := setActive c true f.active }).sound = true := by
  rw [FaultState.sound_iff] at h ⊢
  unfold record
  dsimp only
  split
  next hany =>
    obtain ⟨e, he, hec⟩ := List.any_eq_true.mp hany
    refine h.mapCode (fun e => rfl) (fun d hd => ?_) (fun d hd => by simp [mem_setActive, hd])
      fun e _ hc hsound => mergeRaise_sound hc hsound
    by_cases hdc : d = c
    · exact .inr ⟨e, he, hdc ▸ of_decide_eq_true hec⟩
    · exact .inl (by simpa [mem_setActive, hdc] using hd)
  next hany =>
    have hfree : ∀ e ∈ f.list, e.code ≠ c := by simpa using hany
    split
    next hroom => exact h.append hroom hfree now none
    next hfull =>
      split
      next hB => exact h.unlisted hfree (by simpa using hB)
      next hA =>
        split
        next d hd =>
          obtain ⟨hmem, hgoes⟩ := displaced_some hd
          have hremoved : SoundList f.active (removeCode d.code f.list) := h.remove fun hactive =>
            hgoes.resolve_left (by simp [(h.active_iff hmem).mpr hactive])
          have hlen : (removeCode d.code f.list).length < f.list.length :=
            List.length_filter_lt_length_iff_exists.mpr ⟨d, hmem, by simp⟩
          exact hremoved.append (hlen.trans_le h.length_le) (fun e he => hfree e (List.mem_filter.mp he).1) now _
        next hnone => exact absurd (h.length_le_of_classA (displaced_none hnone)) (by omega)

/-! ### Notices and removals (R160, R162) -/

theorem isSome_of_passed {now d : Nat} {since : Option Nat} (h : passed now d since = true) : since.isSome = true := by
  cases since with
  | none => cases h
  | some t => rfl

theorem mem_of_nextNotice {l : List FaultEntry} {e : FaultEntry} (h : nextNotice l = some e) : e ∈ l := by
  have hfound {p : FaultCode → FaultEntry → Bool} {cs : List FaultCode}
      (h : cs.findSome? (fun c => l.find? (p c)) = some e) : e ∈ l := by
    obtain ⟨c, -, hc⟩ := List.exists_of_findSome?_eq_some h
    exact List.mem_of_find?_eq_some hc
  unfold nextNotice at h
  dsimp only at h
  split at h
  next hA => exact hfound (hA.trans h)
  next =>
    split at h
    · cases h
    · exact hfound h

/-- The faults once the notice of an entry is placed (R162). -/
def FaultState.noticed (f : FaultState) (c : FaultCode) : FaultState :=
  { f with list := mapCode c (fun e => { e with noticePending := false }) f.list }

/-- The faults once an entry has left the list (R159, R160). -/
def FaultState.without (f : FaultState) (c : FaultCode) : FaultState :=
  { f with
    list := removeCode c f.list
    listFull := if (removeCode c f.list).length = 15 then false else f.listFull }

/-- A placed notice is marked, and the entry leaves where it only waited for it. -/
theorem State.placeNotice_fault (s : State) (e : FaultEntry) : (s.placeNotice e).fault = s.fault.noticed e.code ∨
    passed s.now 0 e.removalDue = true ∧ (s.placeNotice e).fault = (s.fault.noticed e.code).without e.code := by
  have hpush : (s.pushOut .vehicle { kind := .notice, data := faultNotice s e }).fault = s.fault := by simp
  unfold State.placeNotice
  dsimp only
  split
  next hdue =>
    exact .inr ⟨by simpa using hdue, congrArg (fun f => (FaultState.noticed f e.code).without e.code) hpush⟩
  · exact .inl (congrArg (FaultState.noticed · e.code) hpush)

/-- What the placing of each notice keeps, the offer of notices keeps. -/
theorem offerNotices_of_places {P : State → Prop} {s : State}
    (hplace : ∀ (t : State) (e : FaultEntry), e ∈ t.fault.list → P t → P (t.placeNotice e)) (h : P s) :
    P s.offerNotices := by
  suffices hall : ∀ n (t : State), P t → P (offerNoticesUpTo n t) from hall 16 s h
  intro n
  induction n with
  | zero => exact fun _ ht => ht
  | succ n ih =>
    intro t ht
    unfold offerNoticesUpTo
    split
    · split
      next e hnext => exact ih _ (hplace t e (mem_of_nextNotice hnext) ht)
      · exact ht
    · exact ht

/-- An entry leaves once its removal waits (R160). -/
theorem FaultState.without_sound {f : FaultState} {c : FaultCode} (h : f.sound = true) (hc : c ∉ f.active) :
    (f.without c).sound = true := by
  rw [FaultState.sound_iff] at h ⊢
  exact h.remove fun hactive => absurd hactive hc

section
variable {s : State} (h : s.fault.sound = true)
include h

theorem State.placeNotice_sound {e : FaultEntry} (he : e ∈ s.fault.list) : (s.placeNotice e).fault.sound = true := by
  have hlist := (FaultState.sound_iff _).mp h
  have hnoticed : (s.fault.noticed e.code).sound = true := (FaultState.sound_iff _).mpr
    (hlist.mapCode (fun _ => rfl) (fun d hd => .inl hd) (fun _ _ => .rfl) fun _ _ _ hsound => hsound)
  obtain hfault | ⟨hdue, hfault⟩ := s.placeNotice_fault e <;> rw [hfault]
  · exact hnoticed
  · exact FaultState.without_sound hnoticed (hlist.not_mem_of_removalDue he (isSome_of_passed hdue))

theorem State.offerNotices_sound : s.offerNotices.fault.sound = true :=
  offerNotices_of_places (P := fun t => t.fault.sound = true) (fun _ _ he ht => State.placeNotice_sound ht he) h

theorem entryRemoval_sound (c : FaultCode) : (entryRemoval c s).fault.sound = true := by
  have hlist := (FaultState.sound_iff _).mp h
  unfold entryRemoval
  split
  next e hfind =>
    split
    next hgo =>
      obtain ⟨hdue, -⟩ := Bool.and_eq_true_iff.mp hgo
      have hcode : e.code = c := by simpa using List.find?_some hfind
      have hout := hlist.not_mem_of_removalDue (List.mem_of_find?_eq_some hfind) (isSome_of_passed hdue)
      exact State.offerNotices_sound (s := s.removeEntry c) (FaultState.without_sound h (hcode ▸ hout))
    · exact h
  · exact h

end

/-! ### Raises, reports and acknowledgements (R159 to R161, R164, R165) -/

/-- An inactive entry that is acknowledged has its removal set (R160). -/
theorem startRemoval_sound {e : FaultEntry} {a : List FaultCode} (now : Nat) (hactive : e.active = decide (e.code ∈ a))
    (hlow : 1 ≤ e.count) (hhigh : e.count ≤ 255) (hdue : e.removalDue.isSome = true → e.active = false ∧ e.acked = true) :
    (startRemoval now e).sound a = true := by
  rw [FaultEntry.sound_iff]
  unfold startRemoval
  split
  next hstart =>
    simp only [Bool.and_eq_true, Bool.not_eq_true'] at hstart
    exact ⟨hactive, hlow, hhigh, by simp [hstart]⟩
  next hno =>
    refine ⟨hactive, hlow, hhigh, Bool.eq_iff_iff.mpr ⟨fun hr => by simp [hdue hr], fun hr => ?_⟩⟩
    by_contra hnone
    exact hno (by simp_all)

theorem State.closeGate_list (s : State) (c : FaultCode) (g : Group) : (s.closeGate c g).fault.list = s.fault.list := by
  unfold State.closeGate
  dsimp only
  split <;> simp

/-- Soundness asks nothing of the gates. -/
theorem FaultState.sound_of_same {f g : FaultState} (h : f.sound = true) (hl : g.list = f.list) (ha : g.active = f.active) :
    g.sound = true := by
  rw [FaultState.sound_iff] at h ⊢
  rw [hl, ha]
  exact h

section
variable {s : State} (h : s.fault.sound = true)
include h

theorem State.closeGate_sound (c : FaultCode) (g : Group) : (s.closeGate c g).fault.sound = true :=
  FaultState.sound_of_same h (s.closeGate_list c g) (s.closeGate_active c g)

theorem State.updateGate_sound (f : Closing → Closing) (g : Group) : (s.updateGate f g).fault.sound = true :=
  FaultState.sound_of_same h (s.updateGate_list f g) (s.updateGate_active f g)

theorem State.updateGates_sound (f : Closing → Closing) :
    (allGroups.foldl (fun (t : State) g => t.updateGate f g) s).fault.sound = true :=
  foldl_keeps (fun t : State => t.fault.sound = true) _ allGroups s h fun _ g _ ht => State.updateGate_sound ht f g

theorem State.raise_sound (c : FaultCode) (named : Option Group) : (s.raise c named).fault.sound = true := by
  have hrecorded := record_sound s.now c h
  have hclosed := foldl_keeps (fun t : State => t.fault.sound = true) (fun t g => t.closeGate c g) (gatesOf c named)
    { s with fault := record s.now c { s.fault with active := setActive c true s.fault.active } } hrecorded
    fun t g _ ht => State.closeGate_sound ht c g
  exact State.offerNotices_sound (by simpa using hclosed)

theorem State.inactive_sound (c : FaultCode) : (s.inactive c).fault.sound = true := by
  have hmarked : SoundList (setActive c false s.fault.active) (mapCode c
      (fun e => startRemoval s.now { e with active := false, noticePending := true }) s.fault.list) := by
    refine ((FaultState.sound_iff _).mp h).mapCode (fun e => startRemoval_code _ _) (fun d hd => .inl ?_)
      (fun d hd => by simp [mem_setActive, hd]) fun e _ hc hsound => ?_
    · rw [mem_setActive] at hd
      split at hd
      · cases hd
      · exact hd
    · obtain ⟨-, hlow, hhigh, hdue⟩ := (FaultEntry.sound_iff _ e).mp hsound
      refine startRemoval_sound s.now (by simp [mem_setActive, hc]) hlow hhigh fun hr => ?_
      rw [hdue] at hr
      exact ⟨rfl, (Bool.and_eq_true_iff.mp hr).2⟩
  exact State.offerNotices_sound (State.updateGates_sound (by exact (FaultState.sound_iff _).mpr hmarked) _)

theorem State.reportInactive_sound (c : FaultCode) : (s.reportInactive c).fault.sound = true := by
  unfold State.reportInactive
  split
  · exact State.inactive_sound h c
  · exact h

theorem State.markAcked_sound (c : Option FaultCode) : (s.markAcked c).fault.sound = true := by
  have hmarked : SoundList s.fault.active (s.fault.list.map (FaultEntry.ackedBy s.now c)) := by
    refine ((FaultState.sound_iff _).mp h).map (fun e => ?_) (fun d hd => .inl hd) fun e _ hsound => ?_
    · unfold FaultEntry.ackedBy
      split
      · exact startRemoval_code _ _
      · rfl
    · unfold FaultEntry.ackedBy
      split
      · obtain ⟨hactive, hlow, hhigh, hdue⟩ := (FaultEntry.sound_iff _ e).mp hsound
        refine startRemoval_sound s.now hactive hlow hhigh fun hr => ?_
        rw [hdue] at hr
        exact ⟨by simpa using (Bool.and_eq_true_iff.mp hr).1, rfl⟩
      · exact hsound
  exact State.updateGates_sound (by exact (FaultState.sound_iff _).mpr hmarked) _

theorem State.acknowledge_sound (c : Option FaultCode) : (s.acknowledge c).fault.sound = true := by
  rw [State.acknowledge_eq]
  exact State.offerNotices_sound (State.tellAcked_keeps _ _ (P := fun t => t.fault.sound = true)
    (State.markAcked_sound h c) (fun _ _ ht => ht) fun _ ht => State.reportInactive_sound ht _)

theorem takeAck_sound : (takeAck s).fault.sound = true := by
  have hpopped : (s.popEvent .vehicle).fault.sound = true := by simpa using h
  unfold takeAck
  split
  · split
    · exact State.acknowledge_sound hpopped none
    · split
      · exact State.acknowledge_sound hpopped _
      · simpa using h
  · exact h

end

end Sys2Proof.Machine
end

section
/-! PROOFS. How the blocks reach the Fault List (09, R158 to R162): through raises, reports of inactivity and the offer of
notices alone. Speed Capture, the links, the channels, the store and the calibration run. -/

open Sys2Proof Sys2Proof.Machine

namespace Sys2Proof.Machine

/-! ### States whose faults raises and reports alone have moved -/

/-- From one state to another the faults move by raises, reports of inactivity and offers of notices alone. -/
inductive State.Refaults (r : State) : State → Prop where
  | refl : r.Refaults r
  | same {s t : State} (h : r.Refaults s) (hf : t.fault = s.fault) : r.Refaults t
  | raise {s : State} (h : r.Refaults s) (c : FaultCode) (named : Option Group) : r.Refaults (s.raise c named)
  | inactive {s : State} (h : r.Refaults s) (c : FaultCode) : r.Refaults (s.inactive c)
  | offerNotices {s : State} (h : r.Refaults s) : r.Refaults s.offerNotices

/-- What such moves keep of the Fault List: its soundness (R158). -/
theorem State.Refaults.sound {r s : State} (h : r.Refaults s) (hr : r.fault.sound = true) : s.fault.sound = true := by
  induction h with
  | refl => exact hr
  | same _ hf ih => exact hf ▸ ih
  | raise _ c named ih => exact State.raise_sound ih c named
  | inactive _ c ih => exact State.inactive_sound ih c
  | offerNotices _ ih => exact State.offerNotices_sound ih

theorem State.Refaults.ite {r s t : State} {p : Prop} [Decidable p] (hs : r.Refaults s) (ht : r.Refaults t) :
    r.Refaults (if p then s else t) := by split <;> assumption

section
variable {r s : State} (h : r.Refaults s)
include h

theorem State.reportInactive_refaults (c : FaultCode) : r.Refaults (s.reportInactive c) := .ite (h.inactive c) h

theorem State.report_refaults (c : FaultCode) (v : Verdict) : r.Refaults (s.report c v) := by
  cases v with
  | quiet => exact h
  | raise => exact h.raise c none
  | clear => exact State.reportInactive_refaults h c

/-! ### Speed Capture, the links and the channels -/

theorem publishSpeed_refaults : r.Refaults (publishSpeed s) := h.same (by simp)

theorem speedSample_refaults (pedal : Nat) : r.Refaults (speedSample pedal s) := by
  obtain ⟨t, hfault, heq⟩ := speedSample_reports pedal s
  rw [heq]
  exact publishSpeed_refaults
    (State.report_refaults (State.report_refaults (State.report_refaults (h.same hfault) _ _) _ _) _ _)

theorem linkCheck_refaults : r.Refaults (linkCheck s) :=
  .ite (State.reportInactive_refaults h _) (.ite h (h.raise _ none))

theorem State.onLink_refaults (l : Link) (f : LinkState → LinkState) : r.Refaults (s.onLink l f) :=
  h.same (by simp)

theorem frameSent_refaults (l : Link) : r.Refaults (frameSent l s) := by
  unfold frameSent
  split
  · exact h
  · cases l with
    | vehicle => exact State.onLink_refaults (.offerNotices (State.onLink_refaults h _ _)) _ _
    | implement => exact h.same (by simp)

theorem linkRejoin_refaults (l : Link) : r.Refaults (linkRejoin l s) := by
  cases l with
  | vehicle => exact .ite (State.onLink_refaults (.offerNotices (State.onLink_refaults h _ _)) _ _) h
  | implement => exact .ite (h.same (by simp)) h

theorem raiseChannel_refaults (i : Chan) : r.Refaults (raiseChannel s i) := by
  cases i <;> exact h.raise _ _

theorem channelStep_refaults (amps : PerChan Nat) (volts : Nat) : r.Refaults (channelStep amps volts s) := by
  obtain ⟨t, -, hfault, -, heq⟩ :=
    monitorStage_eq volts (s.onChans (fun i c => { c with measured := clamp 0 1600 (amps.get i) }))
  have hsupplied : r.Refaults (supplied amps volts s) := by
    rw [supplied, heq]
    exact State.report_refaults (h.same hfault) _ _
  have hchecked : r.Refaults (currentStage ((supplied amps volts s).onChans (fun _ c => holdStage s.now c))) :=
    currentStage_keeps (P := r.Refaults) (fun _ ht => ht.same (by simp)) (fun _ i ht => raiseChannel_refaults ht i)
      (hsupplied.same (by simp))
  have hidled : r.Refaults (idled amps volts s) :=
    idleStage_keeps (P := r.Refaults) (fun _ ht => ht.same (by simp))
      (fun _ c _ _ ht => State.reportInactive_refaults ht c) hchecked
  exact hidled.same rfl

/-! ### The store and adaptation -/

theorem endRunOf_refaults (w : Write) (reason : Option RunReason) : r.Refaults (endRunOf w reason s) := h.same (by simp)

theorem dropWrite_refaults : r.Refaults (dropWrite s) := by
  unfold dropWrite
  split
  · exact h
  next w _ _ =>
    have hrestored : r.Refaults (restoreOffsets w (s.onStore (fun t => { t with inFlight := none }))) := h.same (by simp)
    exact endRunOf_refaults (hrestored.raise .storeWrite none) _ _

theorem completeWrite_refaults (seq : Nat) : r.Refaults (completeWrite seq s) := by
  unfold completeWrite
  split
  · exact h
  next w _ _ =>
    have hput : r.Refaults (applyConversion w.record.key
        (s.onStore (fun t => { t with inFlight := none, cal := t.cal.put w.record seq }))) := h.same (by simp)
    have hended := endRunOf_refaults (State.reportInactive_refaults hput .storeWrite) w none
    exact .ite (hended.same (by simp)) hended

theorem startWrite_refaults : r.Refaults (startWrite s) := by
  unfold startWrite
  split
  · exact h
  · exact dropWrite_refaults h
  · exact .ite (h.same (by simp)) (h.same (by simp))

theorem takeNextUpTo_refaults (n : Nat) : r.Refaults (takeNextUpTo n s) := by
  induction n generalizing s with
  | zero => exact h
  | succ n ih =>
    unfold takeNextUpTo
    split
    · exact ih (startWrite_refaults (h.same (by simp)))
    · exact h

theorem State.takeNext_refaults : r.Refaults s.takeNext := takeNextUpTo_refaults h _

theorem State.handWrite_refaults (w : Write) : r.Refaults (s.handWrite w) := State.takeNext_refaults (h.same (by simp))

theorem abandon_refaults (next : Option StoreOp) : r.Refaults (abandon next s) := by
  cases next with
  | some o => exact (dropWrite_refaults h).same rfl
  | none => exact State.takeNext_refaults (dropWrite_refaults (h.same (by simp)))

theorem formatFails_refaults : r.Refaults (formatFails s) := State.takeNext_refaults (.raise (h.same (by simp)) _ none)

/-- What follows the program of a slot or a header follows a state with the same faults. -/
theorem State.Refaults.program {t : State} {p : Page} {slot : Nat} {meant : List Byte} {rb : ReadBack} {ok : Bool}
    (hp : programSlot p slot meant rb s = (t, ok)) : r.Refaults t :=
  h.same (congrArg (fun x => x.1.fault) hp).symm

theorem State.Refaults.erase {t : State} {p : Page} {rb : ReadBack} {ok : Bool} (he : eraseEnds p rb s = (t, ok)) :
    r.Refaults t := by
  obtain rfl : (eraseEnds p rb s).1 = t := congrArg Prod.fst he
  exact h.same (by simp)

theorem slotProgramEnds_refaults (rb : ReadBack) : r.Refaults (slotProgramEnds rb s) := by
  unfold slotProgramEnds
  split
  · split
    next hp => exact State.takeNext_refaults (completeWrite_refaults ((h.program hp).same (by simp)) _)
    next hp => exact .ite ((dropWrite_refaults (h.program hp)).same (by simp)) ((h.program hp).same (by simp))
  · split
    next hp => exact (h.program hp).same (by simp)
    next hp => exact .ite (abandon_refaults (h.program hp) _) ((h.program hp).same (by simp))
  · exact h

theorem voidProgramEnds_refaults : r.Refaults (voidProgramEnds s) := by
  unfold voidProgramEnds
  split
  · exact .ite (startWrite_refaults (h.same (by simp))) (State.takeNext_refaults (h.same (by simp)))
  · dsimp only
    split
    · exact h.same (by simp)
    · exact State.takeNext_refaults (h.same (by simp))
  · exact h

theorem pageEraseEnds_refaults (rb : ReadBack) : r.Refaults (pageEraseEnds rb s) := by
  unfold pageEraseEnds
  split
  · split
    next he => exact (h.erase he).same (by simp)
    next he => exact .ite (abandon_refaults (h.erase he) _) ((h.erase he).same (by simp))
  · split
    next he => exact (h.erase he).same (by simp)
    next he => exact .ite (formatFails_refaults (h.erase he)) ((h.erase he).same (by simp))
  · exact h

theorem headerProgramEnds_refaults (rb : ReadBack) : r.Refaults (headerProgramEnds rb s) := by
  have hraised {t : State} (ht : r.Refaults t) : r.Refaults (t.noOp.raise .storeWrite none) :=
    .raise (ht.same (by simp)) _ none
  unfold headerProgramEnds
  dsimp only
  split
  · split
    next hp => exact (h.program hp).same (by simp)
    next hp => exact .ite (abandon_refaults (h.program hp) _) ((h.program hp).same (by simp))
  · split
    next hp => exact (h.program hp).same (by simp)
    next hp => exact .ite (abandon_refaults (h.program hp) _) ((h.program hp).same (by simp))
  · split
    next hp => exact startWrite_refaults ((h.program hp).same (by simp))
    next hp => exact .ite (startWrite_refaults (hraised (h.program hp))) ((h.program hp).same (by simp))
  · split
    next hp => exact State.takeNext_refaults ((h.program hp).same (by simp))
    next hp => exact .ite (State.takeNext_refaults (hraised (h.program hp))) ((h.program hp).same (by simp))
  · split
    next hp => exact (h.program hp).same (by simp)
    next hp => exact .ite (formatFails_refaults (h.program hp)) ((h.program hp).same (by simp))
  · split
    next hp => exact State.takeNext_refaults ((h.program hp).same (by simp))
    next hp => exact .ite (formatFails_refaults (h.program hp)) ((h.program hp).same (by simp))
  · exact h

theorem handOffset_refaults (c : Clutch) : r.Refaults (handOffset c s) := by
  unfold handOffset
  split
  · exact State.handWrite_refaults h _
  · exact h

theorem handOffsets_refaults : r.Refaults (handOffsets s) :=
  foldl_keeps r.Refaults _ allClutches s h fun _ c _ ht => .ite (handOffset_refaults ht c) ht

theorem changeWorking_refaults (c : Clutch) (v : Int) : r.Refaults (changeWorking c v s) :=
  .ite (handOffset_refaults (h.same (by simp)) c) (h.same (by simp))

theorem oilTimer_refaults (temp : Int) : r.Refaults (oilTimer temp s) := State.report_refaults (h.same (by simp)) _ _

theorem adaptationOutcome_refaults (eligible : Bool) : r.Refaults (adaptationOutcome eligible s) := by
  unfold adaptationOutcome
  split
  · exact h
  · dsimp only
    split
    · exact .ite (changeWorking_refaults (h.same (by simp)) _ _) (h.same (by simp))
    · exact h.same (by simp)

/-! ### The calibration run -/

theorem enterWrite_refaults (c : Clutch) : r.Refaults (enterWrite c s) := State.handWrite_refaults (h.same (by simp)) _

theorem fillStep_refaults (c : Clutch) : r.Refaults (fillStep c s) := by
  have hwrite := enterWrite_refaults h c
  unfold fillStep
  dsimp only
  split
  · exact .ite (h.same (by simp)) h
  · exact .ite hwrite (.ite (h.same (by simp)) h)
  · exact .ite hwrite (.ite (.ite (h.same (by simp)) (h.same (by simp))) h)
  · exact .ite (h.same (by simp)) h

theorem runStep_refaults (pedal : Nat) : r.Refaults (runStep pedal s) := by
  unfold runStep
  split
  · exact h
  next c _ =>
    have hsearch : r.Refaults (match abortReason pedal s with
        | some a => s.abortRun a
        | none =>
          match s.run.phase with
          | .prepare => prepareStep s
          | .kissSearch => kissStep s
          | _ => fillStep c s) := by
      split
      · exact h.same (by simp)
      · split
        · exact h.same (by simp)
        · exact h.same (by simp)
        · exact fillStep_refaults h c
    split
    case h_1 | h_2 | h_3 | h_4 => exact h
    all_goals exact hsearch

end

end Sys2Proof.Machine
end

section
/-! PROOFS. How the blocks reach the Fault List (09, R158 to R162): the Shift Sequencer, the Axle Engagement block, the Hitch
Controller, the Trailer Brake Controller and the service line; and that every command keeps the list sound. -/

open Sys2Proof Sys2Proof.Machine

namespace Sys2Proof.Machine

section
variable {r s : State} (h : r.Refaults s)
include h

/-! ### The Shift Sequencer -/

theorem endShift_refaults (x : ShiftRec) : r.Refaults (endShift x s) := by
  unfold endShift
  extract_lets t u
  have ht : r.Refaults t := h.same (by simp [t])
  have hu : r.Refaults u := .ite ht (State.reportInactive_refaults ht _)
  exact .ite (adaptationOutcome_refaults hu _) hu

theorem finishStep_refaults (x : ShiftRec) : r.Refaults (finishStep x s) :=
  have hfilled : r.Refaults (if x.declutched then s.applyFilled (gearClutches x.onComing) else s) :=
    .ite (h.same (by simp)) h
  .ite (endShift_refaults hfilled x) hfilled

/-- A phase before FINISH moves clutches and the shift record alone. -/
theorem phaseStep_refaults (x : ShiftRec) : r.Refaults (phaseStep x s) := by
  unfold phaseStep
  split
  case h_9 => exact finishStep_refaults h x
  all_goals exact h.same (by simp)

theorem timeoutShift_refaults (pedal : Nat) (x : ShiftRec) : r.Refaults (timeoutShift pedal x s) := by
  unfold timeoutShift
  extract_lets on t u
  have hu : r.Refaults u := h.same (by simp [u, t])
  exact hu.raise _ none

theorem timeoutStage_refaults (pedal : Nat) : r.Refaults (timeoutStage pedal s) := by
  unfold timeoutStage
  split
  · exact .ite (timeoutShift_refaults h pedal _) h
  · exact h

theorem progressStage_refaults (pedal : Nat) : r.Refaults (progressStage pedal s) := by
  have hshake : r.Refaults (handshake s) := h.same (by simp)
  unfold progressStage
  dsimp only
  split
  · exact timeoutStage_refaults (phaseStep_refaults hshake _) pedal
  · exact hshake

theorem slipStage_refaults (pedal : Nat) : r.Refaults (slipStage pedal s) := by
  have hraised := h.raise .clutchSlip none
  have hneutral : r.Refaults ((neutralReaction (s.raise .clutchSlip none)).onSeq (fun q =>
      { q with slipSince := none, causes := { q.causes with gateClosed := true } })) := hraised.same (by simp)
  exact .ite (State.reportInactive_refaults hneutral _) (h.same (by simp))

theorem shiftStep_refaults (pedal : Nat) : r.Refaults (shiftStep pedal s) := by
  unfold shiftStep
  extract_lets early moved judged
  have hearly : r.Refaults (inhibitStage early) := h.same (by simp [early])
  have hmoved : r.Refaults (autoStage pedal moved) := (progressStage_refaults hearly pedal).same (by simp [moved])
  exact (slipStage_refaults hmoved pedal).same (by simp [judged])

/-! ### The Axle Engagement block -/

theorem failedRelease_refaults : r.Refaults (failedRelease s) := .raise (h.same (by simp)) _ none

theorem moveFwd_refaults (closed : Bool) : r.Refaults (moveFwd closed s) := by
  unfold moveFwd
  extract_lets a waited openSince t
  have ht : r.Refaults t := h.same rfl
  split
  · exact .ite ht (ht.same (by simp))
  · exact .ite (ht.same (by simp)) (.ite (failedRelease_refaults ht) ht)
  · exact .ite (ht.same (by simp)) (.ite (failedRelease_refaults ht) ht)
  · exact .ite (State.reportInactive_refaults (ht.same (by simp)) _) ht

theorem transmissionStage_refaults : r.Refaults (transmissionStage s) := State.report_refaults (h.same (by simp)) _ _

theorem axleStep_refaults (closed : Bool) : r.Refaults (axleStep closed s) := by
  have happlied : r.Refaults (appliedStage (engagementStage (modesStage s))) := h.same (by simp)
  unfold axleStep
  extract_lets t
  have ht : r.Refaults (lockStage (s.gateOpen .axle) t) := (moveFwd_refaults happlied closed).same (by simp [t])
  exact (transmissionStage_refaults ht).same (by simp)

/-! ### The Hitch Controller -/

theorem positionStage_refaults (adc : Nat) : r.Refaults (positionStage adc s) := by
  have hset (f : HitchState → HitchState) : r.Refaults (s.onHitch f) := h.same (by simp)
  unfold positionStage
  split
  · exact hset _
  · exact .ite (.ite (State.reportInactive_refaults (hset _) _) (hset _))
      (.ite (.ite ((hset _).raise _ none) (hset _)) (hset _))

theorem pinStage_refaults (x y : Int) : r.Refaults (pinStage x y s) := by
  have hset (f g : HitchState → HitchState) : r.Refaults ((s.onHitch f).onHitch g) := h.same (by simp)
  exact .ite (.ite (.ite (State.reportInactive_refaults (hset _ _) _) (hset _ _))
    (.ite (.ite ((hset _ _).raise _ none) (hset _ _)) (hset _ _))) (h.same (by simp))

theorem runawayStage_refaults (q : Int) : r.Refaults (runawayStage q s) := by
  unfold runawayStage
  extract_lets history cond full v t
  have ht : r.Refaults t := State.report_refaults (h.same (by simp)) _ _
  split
  · exact ht.same (by simp)
  · exact ht

theorem hitchStep_refaults (inp : HitchInputs) : r.Refaults (hitchStep inp s) := by
  unfold hitchStep
  extract_lets adc l p d sensed moved q t
  have hsensed : r.Refaults sensed := (pinStage_refaults (positionStage_refaults h adc) l p).same (by simp [sensed])
  have hmoved : r.Refaults (moved.onHitch (fun h =>
      { h with report := { h.report with q := q, eSlip := slipTerm moved, rawAdc := adc } })) :=
    hsensed.same (by simp [moved])
  have ht : r.Refaults t := (runawayStage_refaults hmoved q).same (by simp [t])
  exact ht.same (by simp)

/-! ### The Trailer Brake Controller -/

theorem transducerStage_refaults (raw : Nat) : r.Refaults (transducerStage raw s) := by
  have hset (f : BrakeState → BrakeState) (g : BrakeDemand → BrakeDemand) : r.Refaults ((s.onBrake f).onDemand g) :=
    h.same (by simp)
  exact .ite (.ite (State.reportInactive_refaults (hset _ _) _) (hset _ _))
    (.ite (.ite ((hset _ _).raise _ none) (h.same (by simp))) (hset _ _))

theorem inputChecks_refaults : r.Refaults (inputChecks s) := by
  unfold inputChecks
  extract_lets d disagree v t park u
  have ht : r.Refaults t := State.report_refaults (h.same (by simp)) _ _
  have hu : r.Refaults u := ht.same rfl
  exact .ite (.ite hu (hu.raise _ none)) (State.reportInactive_refaults hu _)

theorem chargingStep_refaults (park closed : Bool) : r.Refaults (chargingStep park closed s) := by
  have hset (f : TrailerRec → TrailerRec) : r.Refaults (s.onTrailer f) := h.same (by simp)
  refine .ite (State.reportInactive_refaults (hset _) _) (.ite (.ite (State.reportInactive_refaults (hset _) _) ?_) (hset _))
  split
  · exact h.same (by simp)
  · exact .ite (h.raise _ none) h

theorem breakaway_refaults : r.Refaults (breakaway s) := .raise (h.same (by simp)) _ none

theorem readyStep_refaults (park closed : Bool) : r.Refaults (readyStep park closed s) :=
  .ite (h.same (by simp)) (.ite (breakaway_refaults (h.same (by simp))) (h.same (by simp)))

theorem State.clearLatch_refaults : r.Refaults s.clearLatch :=
  have hready : r.Refaults (s.onBrake (·.unlatched s.now)) := h.same (by simp)
  State.reportInactive_refaults hready .trailerSupplyLost

theorem lostStep_refaults (closed : Bool) : r.Refaults (lostStep closed s) :=
  .ite (State.clearLatch_refaults (h.same (by simp))) (h.same (by simp))

theorem supplyStage_refaults (park closed : Bool) : r.Refaults (supplyStage park closed s) := by
  unfold supplyStage
  split
  · exact h
  · exact .ite h (h.same (by simp))
  · exact chargingStep_refaults h park closed
  · exact readyStep_refaults h park closed
  · exact lostStep_refaults h closed

theorem deviationStage_refaults : r.Refaults (deviationStage s) := State.report_refaults (h.same (by simp)) _ _

theorem brakeStep_refaults (inp : BrakeInputs) : r.Refaults (brakeStep inp s) := by
  unfold brakeStep
  extract_lets raw read braked t
  have hread : r.Refaults read := h.same (by simp [read])
  have hdemanded : r.Refaults
      (demandStage inp.pedalLeft inp.pedalRight inp.parkApplied (transducerStage raw read)) :=
    (transducerStage_refaults hread raw).same (by simp)
  have hbraked : r.Refaults braked := inputChecks_refaults hdemanded
  have hline : r.Refaults (lineCommand (supplyStage inp.parkApplied inp.supplyClosed braked)) :=
    (supplyStage_refaults hbraked inp.parkApplied inp.supplyClosed).same (by simp)
  have ht : r.Refaults t := .ite (deviationStage_refaults hline) hbraked
  exact ht.same (by simp)

/-! ### The service line and the power states -/

theorem writeOffset_refaults (i : Nat) (v : Int) : r.Refaults (writeOffset i v s).1 := by
  unfold writeOffset
  split
  · split
    · exact changeWorking_refaults h _ _
    · exact h
  · exact h

theorem writeCalField_refaults (k : Key) (i : Nat) (v : Int) : r.Refaults (writeCalField k i v s).1 := by
  unfold writeCalField
  split
  · exact State.handWrite_refaults h _
  · exact h

theorem putItem_refaults (item : Nat) (v : Int) : r.Refaults (putItem item v s).1 := by
  unfold putItem
  split
  · exact h.same (by simp)
  · split
    · exact h.same (by simp)
    · split
      · exact writeOffset_refaults h _ v
      · split
        · exact writeCalField_refaults h _ _ v
        · exact h

theorem judgeWrite_refaults (item : Nat) (value : List Byte) : r.Refaults (judgeWrite item value s).1 := by
  unfold judgeWrite
  split
  · exact h
  · split
    · exact h
    · split
      · exact putItem_refaults h item _
      · exact h

end

/-! ### Starts and power states (R72, R167 to R169) -/

section
variable {s : State}

/-- A start has no fault active and no entry (R72). -/
theorem startFrom_sound (pending : List Instr) (free now : Nat) (b : BuildRecord) (mem : List Host.Cell) (risen : Bool) :
    (startFrom pending free now b mem risen).fault.sound = true := rfl

theorem sound_ite {t u : State} {p : Prop} [Decidable p] (ht : t.fault.sound = true) (hu : u.fault.sound = true) :
    (if p then t else u).fault.sound = true := by split <;> assumption

variable (h : s.fault.sound = true)
include h

theorem endFlush_sound (rbs : List ReadBack) : (endFlush rbs s).fault.sound = true :=
  sound_ite (startFrom_sound ..) h

theorem judgePhase_sound (rbs : List ReadBack) : (judgePhase rbs s).fault.sound = true := by
  unfold judgePhase
  split
  · exact sound_ite ((handOffsets_refaults (r := s) (.same .refl (by simp))).sound h) h
  · exact sound_ite (endFlush_sound h rbs) h
  all_goals exact h

theorem powerStep_sound (ignition : Bool) (rbs : List ReadBack) : (powerStep ignition rbs s).fault.sound = true := by
  have hjudged : (judgeIgnition ignition s).fault.sound = true := by simpa using h
  exact sound_ite (judgePhase_sound hjudged rbs) hjudged

theorem applySupply_sound (ignition : Bool) : (applySupply ignition s).fault.sound = true := by
  unfold applySupply
  split
  · exact sound_ite h h
  · exact sound_ite h h
  all_goals exact h

/-! ### Every command -/

/-- A command that is an event keeps the list sound where the event does. -/
theorem sound_of_event {t : State} {dt : Nat} {f : State → State}
    (he : (.next (s.event dt f) : Host.Outcome State Fault Refusal) = .next t)
    (hf : ∀ u : State, u.fault.sound = true → (f u).fault.sound = true) : t.fault.sound = true :=
  Host.Outcome.next.inj he ▸ sound_ite (hf (s.advance dt) h) h

theorem sound_of_refaults {t : State} {dt : Nat} {f : State → State}
    (he : (.next (s.event dt f) : Host.Outcome State Fault Refusal) = .next t) (hf : ∀ u : State, u.Refaults (f u)) :
    t.fault.sound = true := sound_of_event h he fun u hu => (hf u).sound hu

/-- Every command keeps the Fault List sound: the blocks' own events since they reach it by raises, reports and notices
alone, an acknowledgement, a removal and the starts by their own lemmas, and any other since it leaves the faults. -/
theorem exec_sound {c : Instr} {t : State} (he : exec c s = .next t) : t.fault.sound = true := by
  cases c with
  | cabCommandAck dt => exact sound_of_event h he fun u hu => takeAck_sound hu
  | entryRemoval dt code => exact sound_of_event h he fun u hu => entryRemoval_sound hu code
  | powerStep dt ignition rbs =>
    have hadvanced : (s.advance dt).fault.sound = true := h
    exact Host.Outcome.next.inj he ▸ sound_ite (powerStep_sound hadvanced ignition rbs) h
  | storeDrained dt => exact sound_of_event h he fun u hu => sound_ite (endFlush_sound hu []) hu
  | strapWindowEnd dt readings => exact Host.Outcome.next.inj he ▸ sound_ite (startFrom_sound ..) h
  | lossOfSupply dt untouched => exact Host.Outcome.next.inj he ▸ rfl
  | supplyApplied dt ignition =>
    exact Host.Outcome.next.inj he ▸ applySupply_sound (s := s.advance dt) h ignition
  | answerSent dt rbs => exact sound_of_event h he fun u hu => sound_ite (sound_ite (startFrom_sound ..) hu) hu
  | speedSample dt pedal => exact sound_of_refaults h he fun u => speedSample_refaults .refl pedal
  | linkCheck dt => exact sound_of_refaults h he fun u => linkCheck_refaults .refl
  | frameSent dt l => exact sound_of_refaults h he fun u => frameSent_refaults .refl l
  | linkRejoin dt l => exact sound_of_refaults h he fun u => linkRejoin_refaults .refl l
  | channelStep dt amps volts => exact sound_of_refaults h he fun u => channelStep_refaults .refl amps volts
  | shiftStep dt pedal => exact sound_of_refaults h he fun u => shiftStep_refaults .refl pedal
  | axleStep dt closed => exact sound_of_refaults h he fun u => axleStep_refaults .refl closed
  | hitchStep dt inp => exact sound_of_refaults h he fun u => hitchStep_refaults .refl inp
  | brakeStep dt inp => exact sound_of_refaults h he fun u => brakeStep_refaults .refl inp
  | oilTimer dt temp => exact sound_of_refaults h he fun u => oilTimer_refaults .refl temp
  | runStep dt pedal => exact sound_of_refaults h he fun u => runStep_refaults .refl pedal
  | slotProgramComplete dt rb => exact sound_of_refaults h he fun u => .ite (slotProgramEnds_refaults .refl rb) .refl
  | voidProgramComplete dt => exact sound_of_refaults h he fun u => .ite (voidProgramEnds_refaults .refl) .refl
  | pageEraseComplete dt rb => exact sound_of_refaults h he fun u => .ite (pageEraseEnds_refaults .refl rb) .refl
  | headerProgramComplete dt rb => exact sound_of_refaults h he fun u => .ite (headerProgramEnds_refaults .refl rb) .refl
  | writeItem dt =>
    refine sound_of_refaults h he fun u => withFrame_of_judged u .refl fun x t hx => ?_
    split at hx
    next item value => exact Option.some.inj hx ▸ (judgeWrite_refaults .refl item value).same (by simp [answered])
    · cases hx
  | storeNow dt =>
    refine sound_of_refaults h he fun u => withFrame_of_judged u .refl fun x t hx => ?_
    split at hx
    · exact Option.some.inj hx ▸ .ite ((handOffsets_refaults .refl).same (by simp)) (.same .refl (by simp))
    · cases hx
  | sync dt | key dt | cancel dt | lock dt | readItem dt | take dt | release dt | calRun dt pedal | calAbort dt
  | restart dt =>
    refine sound_of_refaults h he fun u => withFrame_of_judged u .refl fun x t hx => ?_
    split at hx
    · obtain rfl := Option.some.inj hx
      exact .same .refl (by simp [unlockedOnly, withCalib, answered, apply_ite State.fault])
    · cases hx
  | _ => exact sound_of_refaults h he fun u => .same .refl (by simp)

end

end Sys2Proof.Machine

/-! ### The obligations -/

namespace Sys2Proof.Proofs

/-- Settles O3: a step runs the command at the front of the queue, which keeps the list sound. -/
theorem faultListStaysSound : Obligations.FaultListStaysSound := by
  intro s t hs h
  unfold step at h
  split at h
  · exact Host.Outcome.next.inj h ▸ hs
  next c rest _ =>
    have hrest : (State.fault { s with pending := rest }).sound = true := hs
    exact exec_sound hrest h

/-- Settles O8: every law reads records that are empty, in N or without current right after reset. -/
theorem resetIsSound : Obligations.ResetIsSound :=
  ⟨rfl, rfl, rfl, rfl, rfl, rfl⟩

end Sys2Proof.Proofs
end

section
/-! PROOFS. The removal of an entry at its time (09, R159, R160), and the end of a transmission (10, R176, R178): the
notices for which a sent frame makes room, and the choice of the lowest identifier. -/

open Sys2Proof Sys2Proof.Machine

namespace Sys2Proof.Machine

/-! ### What an offer of notices leaves of the list (R160, R162) -/

theorem mem_mapCode_code {c : FaultCode} {f : FaultEntry → FaultEntry} {l : List FaultEntry} {e : FaultEntry}
    (hcode : ∀ e, (f e).code = e.code) (h : e ∈ mapCode c f l) : ∃ d ∈ l, d.code = e.code := by
  obtain ⟨d, hd, rfl⟩ := List.mem_map.mp h
  exact ⟨d, hd, by split <;> simp [hcode]⟩

section
variable {s : State} {c : FaultCode}

/-- An offer of notices adds no entry. -/
theorem State.offerNotices_removed (h : ∀ d ∈ s.fault.list, d.code ≠ c) : ∀ d ∈ s.offerNotices.fault.list, d.code ≠ c := by
  refine offerNotices_of_places (P := fun t : State => ∀ d ∈ t.fault.list, d.code ≠ c) (fun t e _ ht => ?_) h
  have hmarked : ∀ d ∈ (t.fault.noticed e.code).list, d.code ≠ c := fun d hd => by
    obtain ⟨x, hx, hcode⟩ := mem_mapCode_code (f := fun e => { e with noticePending := false }) (fun _ => rfl) hd
    exact hcode ▸ ht x hx
  obtain hfault | ⟨-, hfault⟩ := t.placeNotice_fault e <;> rw [hfault]
  · exact hmarked
  · exact fun d hd => hmarked d (List.mem_filter.mp hd).1

theorem State.offerNotices_listFull (h : s.fault.listFull = false) : s.offerNotices.fault.listFull = false := by
  refine offerNotices_of_places (P := fun t : State => t.fault.listFull = false) (fun t e _ ht => ?_) h
  obtain hfault | ⟨-, hfault⟩ := t.placeNotice_fault e <;> rw [hfault]
  · exact ht
  · simp [FaultState.without, FaultState.noticed, ht]

/-! ### ENTRY_REMOVAL (R160) -/

variable {e : FaultEntry} (h : s.fault.list.find? (fun d => decide (d.code = c)) = some e)
include h

theorem entryRemoval_of_due (hdue : passed s.now 0 e.removalDue = true) (hsent : e.noticePending = false) :
    entryRemoval c s = (s.removeEntry c).offerNotices := by
  simp [entryRemoval, h, hdue, hsent]

theorem entryRemoval_of_kept (hkept : passed s.now 0 e.removalDue = false ∨ e.noticePending = true) :
    entryRemoval c s = s := by
  rcases hkept with hkept | hkept <;> simp [entryRemoval, h, hkept]

end

theorem entryRemoval_keeps (c : FaultCode) (s : State) :
    (entryRemoval c s).fault.gates = s.fault.gates ∧ (entryRemoval c s).fault.active = s.fault.active := by
  unfold entryRemoval
  split
  · split <;> simp [State.removeEntry]
  · exact ⟨rfl, rfl⟩

/-! ### The transmitter's choice on an idle link (R176) -/

section
variable {l : Link} {k : LinkState} (hactive : k.rejoin = none) (hidle : k.tx = none)
include hactive hidle

/-- The transmitter of an ACTIVE link that sends nothing stays idle where nothing waits, takes the first copy where it lies
below the head of the queue, or takes the head. -/
theorem transmit_choice :
    (k.mail = [] ∧ k.outbox = [] ∧ transmit l k = k) ∨
    (∃ m rest, k.mail = m :: rest ∧ (∀ e, k.outbox.head? = some e → m.ident < outIdent l e.kind) ∧
      transmit l k = { k with mail := rest, tx := some (.mail m) }) ∨
    ∃ e, k.outbox.head? = some e ∧ (∀ m, k.mail.head? = some m → outIdent l e.kind ≤ m.ident) ∧
      transmit l k = { k with tx := some .event } := by
  unfold transmit
  rw [if_neg (by simp [hactive, hidle])]
  split
  next hmail hout => exact .inl ⟨hmail, hout, rfl⟩
  next hmail hout => exact .inr (.inr ⟨_, by rw [hout]; rfl, by simp [hmail], rfl⟩)
  next m rest hmail hout => exact .inr (.inl ⟨m, rest, hmail, by simp [hout], rfl⟩)
  next m rest e _ hmail hout =>
    split
    next hlt => exact .inr (.inl ⟨m, rest, hmail, by simpa [hout] using hlt, rfl⟩)
    next hge => exact .inr (.inr ⟨e, by rw [hout]; rfl, by simpa [hmail] using hge, rfl⟩)

/-- With an event frame waiting the transmitter sends. -/
theorem transmit_busy (hout : k.outbox ≠ []) : (transmit l k).tx.isSome = true := by
  obtain ⟨-, hempty, -⟩ | ⟨m, rest, -, -, heq⟩ | ⟨e, -, -, heq⟩ := transmit_choice (l := l) hactive hidle
  · exact absurd hempty hout
  · rw [heq]; rfl
  · rw [heq]; rfl

end

/-- A chosen copy has the lowest identifier of what waits, a chosen event frame's lies above that of no copy, and the
transmitter is idle only where nothing waits (R176). -/
theorem transmit_lowest {l : Link} {k : LinkState} (hactive : k.rejoin = none) (hidle : k.tx = none)
    (hrising : (k.mail.map Mail.ident).Pairwise (· < ·)) :
    (∀ m, (transmit l k).tx = some (.mail m) →
      m ∈ k.mail ∧ (transmit l k).mail = k.mail.filter (fun y => decide (y ≠ m)) ∧
        (∀ y ∈ (transmit l k).mail, m.ident < y.ident) ∧ ∀ e, k.outbox.head? = some e → m.ident < outIdent l e.kind) ∧
    ((transmit l k).tx = some .event → (transmit l k).mail = k.mail ∧
      ∃ e, k.outbox.head? = some e ∧ ∀ y ∈ (transmit l k).mail, outIdent l e.kind ≤ y.ident) ∧
    ((transmit l k).tx = none → k.mail = [] ∧ (transmit l k).mail = [] ∧ k.outbox = []) := by
  obtain ⟨hmail, hout, heq⟩ | ⟨m, rest, hmail, hlow, heq⟩ | ⟨e, hout, hlow, heq⟩ := transmit_choice (l := l) hactive hidle
  · rw [heq, hidle]
    exact ⟨nofun, nofun, fun _ => ⟨hmail, hmail, hout⟩⟩
  · rw [heq]
    refine ⟨fun x hx => ?_, nofun, nofun⟩
    obtain rfl : m = x := InTransmission.mail.inj (Option.some.inj hx)
    rw [hmail, List.map_cons, List.pairwise_cons] at hrising
    have habove : ∀ y ∈ rest, m.ident < y.ident := fun y hy => hrising.1 _ (List.mem_map_of_mem hy)
    have hrest : rest.filter (fun y => decide (y ≠ m)) = rest := List.filter_eq_self.mpr fun y hy => by
      refine decide_eq_true ?_
      rintro rfl
      exact lt_irrefl _ (habove y hy)
    exact ⟨hmail ▸ List.mem_cons_self, by rw [hmail, List.filter_cons_of_neg (by simp), hrest], habove, hlow⟩
  · rw [heq]
    refine ⟨nofun, fun _ => ⟨rfl, e, hout, fun y hy => ?_⟩, nofun⟩
    obtain ⟨m, rest, hmail⟩ : ∃ m rest, k.mail = m :: rest := List.exists_cons_of_ne_nil (List.ne_nil_of_mem hy)
    have hfirst := hlow m (by simp [hmail])
    rw [hmail, List.map_cons, List.pairwise_cons] at hrising
    rcases List.mem_cons.mp (hmail ▸ hy) with rfl | hy
    · exact hfirst
    · exact hfirst.trans (hrising.1 _ (List.mem_map_of_mem hy)).le

theorem transmit_of_busy {l : Link} {k : LinkState} (h : k.tx.isSome = true) : transmit l k = k :=
  if_pos (by simp [h])

/-- Frames that join a queue behind its head do not change the choice. -/
theorem transmit_append {l : Link} {k : LinkState} (hout : k.outbox ≠ []) (es : List OutEvent) :
    transmit l { k with outbox := k.outbox ++ es } = { transmit l k with outbox := k.outbox ++ es } := by
  obtain ⟨e, rest, he⟩ := List.exists_cons_of_ne_nil hout
  unfold transmit
  rw [he]
  dsimp only [List.cons_append]
  split
  · rfl
  · cases k.mail with
    | nil => rfl
    | cons m ms =>
      dsimp only
      split <;> rfl

/-! ### Notices in the room of a sent frame (R178) -/

/-- A link that waits, or that has chosen with notices behind what waited. -/
def LinkState.Noticed (j k : LinkState) : Prop :=
  k = j ∨ ∃ es : List OutEvent, es ≠ [] ∧ (∀ e ∈ es, e.kind = .notice) ∧
    k = transmit .vehicle { j with outbox := j.outbox ++ es }

section
variable {j k : LinkState} (hactive : j.rejoin = none) (hidle : j.tx = none)
include hactive hidle

/-- The transmitter has chosen by the time a further notice joins the queue. -/
theorem LinkState.Noticed.append (h : j.Noticed k) {e : OutEvent} (he : e.kind = .notice) :
    j.Noticed (transmit .vehicle { k with outbox := k.outbox ++ [e] }) := by
  obtain rfl | ⟨es, hes, hkind, rfl⟩ := h
  · exact .inr ⟨[e], by simp, by simpa using he, rfl⟩
  · set waiting : LinkState := { j with outbox := j.outbox ++ es } with hwaiting
    have hbusy := transmit_busy (l := .vehicle) (k := waiting) hactive hidle (by simp [hwaiting, hes])
    refine .inr ⟨es ++ [e], by simp, fun x hx => ?_, ?_⟩
    · rcases List.mem_append.mp hx with hx | hx
      · exact hkind x hx
      · exact List.mem_singleton.mp hx ▸ he
    · have hmore : transmit .vehicle { waiting with outbox := waiting.outbox ++ [e] } =
          { transmit .vehicle waiting with outbox := waiting.outbox ++ [e] } := transmit_append (by simp [hwaiting, hes]) _
      rw [transmit_outbox, ← hmore, transmit_of_busy (by rw [hmore]; exact hbusy)]
      simp [hwaiting]

/-- Once the notices are placed the transmitter chooses as if all had stood in the queue before. -/
theorem LinkState.Noticed.transmit (h : j.Noticed k) : ∃ es : List OutEvent, (∀ e ∈ es, e.kind = .notice) ∧
    Machine.transmit .vehicle k = Machine.transmit .vehicle { j with outbox := j.outbox ++ es } := by
  obtain rfl | ⟨es, hes, hkind, rfl⟩ := h
  · exact ⟨[], by simp, by simp⟩
  · exact ⟨es, hkind, transmit_of_busy (transmit_busy hactive hidle (by simp [hes]))⟩

end

/-- An offer of notices reaches the vehicle link alone, and places notices there. -/
theorem State.offerNotices_noticed {s : State} (hactive : s.link.vehicle.rejoin = none) (hidle : s.link.vehicle.tx = none) :
    ∃ k, s.link.vehicle.Noticed k ∧ s.offerNotices.link = { s.link with vehicle := k } := by
  refine offerNotices_of_places (P := fun t : State => ∃ k, s.link.vehicle.Noticed k ∧ t.link = { s.link with vehicle := k })
    (fun t e _ ⟨k, hnoticed, hlink⟩ => ?_) ⟨_, .inl rfl, rfl⟩
  rw [State.placeNotice_link, State.pushOut, State.onLink, hlink]
  refine ⟨_, ?_, rfl⟩
  split
  · exact hnoticed.append hactive hidle rfl
  · exact hnoticed

/-! ### FRAME_SENT (R176, R178) -/

theorem frameSent_of_sending {l : Link} {s : State} {x : InTransmission} (h : (s.link.get l).tx = some x) :
    frameSent l s = (tellFaultManager l (s.onLink l (·.sent x))).onLink l (transmit l) := by
  unfold frameSent
  rw [h]
  cases l <;> rfl

/-- A link whose frame has been sent chooses with the notices behind what waits, and the other link stands. -/
theorem frameSent_link {l : Link} {s : State} {x : InTransmission} (hactive : (s.link.get l).rejoin = none)
    (hsending : (s.link.get l).tx = some x) :
    (∃ es : List OutEvent, (∀ e ∈ es, e.kind = .notice) ∧ (l = .implement → es = []) ∧ (frameSent l s).link.get l =
      transmit l { (s.link.get l).sent x with outbox := ((s.link.get l).sent x).outbox ++ es }) ∧
    (∀ j, j ≠ l → (frameSent l s).link.get j = s.link.get j) ∧
    (frameSent l s).link =
      { s.link with vehicle := (frameSent l s).link.vehicle, implement := (frameSent l s).link.implement } := by
  rw [frameSent_of_sending hsending]
  cases l with
  | vehicle =>
    obtain ⟨k, hnoticed, hoffered⟩ := State.offerNotices_noticed (s := s.onLink .vehicle (·.sent x)) hactive rfl
    obtain ⟨es, hkind, hchosen⟩ := LinkState.Noticed.transmit (j := s.link.vehicle.sent x) hactive rfl hnoticed
    have hlink : ((tellFaultManager .vehicle (s.onLink .vehicle (·.sent x))).onLink .vehicle (transmit .vehicle)).link =
        { s.link with vehicle := transmit .vehicle k } := by
      rw [tellFaultManager, State.onLink, hoffered]
      rfl
    rw [hlink]
    refine ⟨⟨es, hkind, nofun, hchosen⟩, fun j hj => ?_, rfl⟩
    cases j with
    | vehicle => exact absurd rfl hj
    | implement => rfl
  | implement =>
    refine ⟨⟨[], by simp, fun _ => rfl, ?_⟩, fun j hj => ?_, rfl⟩
    · rw [List.append_nil]
      rfl
    · cases j with
      | vehicle => rfl
      | implement => exact absurd rfl hj

end Sys2Proof.Machine

/-! ### The obligations -/

namespace Sys2Proof.Proofs

/-- Settles O45: an entry whose removal is due goes with the notices that then follow, and any other stays. -/
theorem entryRemoval : Obligations.EntryRemoval := by
  intro s dt e hrun hfind
  set u := s.advance dt with hu
  have hfind : u.fault.list.find? (fun d => decide (d.code = e.code)) = some e := hfind
  obtain ⟨hgates, hactive⟩ := entryRemoval_keeps e.code u
  have hkept (h : passed u.now 0 e.removalDue = false ∨ e.noticePending = true) := entryRemoval_of_kept hfind h
  refine ⟨Machine.entryRemoval e.code u, exec_of_running rfl hrun, fun v hv hdue hsent => ?_, fun v hv hearly => hkept ?_,
    fun h => hkept (h.imp_left fun hnone => ?_), hgates, hactive, State.eq_but_fault_link (by simp)⟩
  · rw [entryRemoval_of_due hfind (by simpa [passed, hv, hu] using hdue) hsent]
    refine ⟨State.offerNotices_removed (s := u.removeEntry e.code) fun d hd => ?_, fun hlen => ?_⟩
    · exact of_decide_eq_true (List.mem_filter.mp hd).2
    · exact State.offerNotices_listFull (s := u.removeEntry e.code) (if_pos hlen)
  · exact .inl (by simpa [passed, hv, hu] using hearly)
  · simp [hnone, passed]

/-- Settles O51: the link chooses (`transmit_choice`) with the sent frame gone and the notices in the queue. -/
theorem transmitterChoosesLowest : Obligations.TransmitterChoosesLowest := by
  intro s dt l x hrun hbounded hactive hsending
  obtain ⟨⟨es, hkind, hnone, hlink⟩, hother, hblock⟩ := frameSent_link (s := s.advance dt) hactive hsending
  have hrising : (((s.link.get l).sent x).mail.map Mail.ident).Pairwise (· < ·) :=
    LinkState.mail_rising (sent_bounded hbounded x)
  obtain ⟨hcopy, hevent, hidle⟩ := transmit_lowest (l := l)
    (k := { (s.link.get l).sent x with outbox := ((s.link.get l).sent x).outbox ++ es }) hactive rfl hrising
  refine ⟨frameSent l (s.advance dt), exec_of_running rfl hrun, ?_⟩
  dsimp only
  rw [show (frameSent l (s.advance dt)).link.get l = _ from hlink, transmit_outbox, transmit_inbox, transmit_rejoin]
  refine ⟨⟨es, ?_, hkind, hnone⟩, hcopy, hevent, hidle, rfl, hactive, hother, hblock, State.eq_but_fault_link (by simp)⟩
  cases x <;> rfl

end Sys2Proof.Proofs
end

section
/-! PROOFS. The frames that the links receive (10, R172, R173, R175, R181): the coded fields of the periodic frames and the
mailbox copy that one of them replaces, and the queue that an event frame joins or is refused. -/

open Sys2Proof Sys2Proof.Machine

namespace Sys2Proof.Machine

/-! ### Fields of bytes (R181) -/

/-- A field at bit 0 that fits a byte lies in the first byte. -/
theorem field_leNat_cons (b : Byte) (rest : List Byte) {width : Nat} (h : width ≤ 8) :
    field (leNat (b :: rest)) 0 width = b.toNat % 2 ^ width := by
  obtain ⟨q, hq⟩ := Nat.pow_dvd_pow 2 h
  rw [leNat, field, pow_zero, Nat.div_one, show (256 : Nat) = 2 ^ width * q from hq, Nat.mul_assoc, Nat.add_mul_mod_self_left]

/-- One-byte fields packed and written as bytes are the fields' values. -/
theorem leBytes_pack_bytes (vs : List Nat) :
    leBytes vs.length (pack (vs.map (·, 8))) = vs.map (BitVec.ofNat 8) := by
  induction vs with
  | nil => rfl
  | cons v vs ih =>
    have hlow : BitVec.ofNat 8 (v % 256 + 256 * pack (vs.map (·, 8))) = BitVec.ofNat 8 v := BitVec.eq_of_toNat_eq (by simp)
    have hhigh : (v % 256 + 256 * pack (vs.map (·, 8))) / 256 = pack (vs.map (·, 8)) := by omega
    simp only [List.map_cons, List.length_cons, pack, leBytes, Nat.reducePow, hlow, hhigh, ih]

/-! ### The periodic frames (R173, R181) -/

theorem decodeEngineReport_of_length {data : List Byte} (h : data.length ≠ 4) : decodeEngineReport data = none := if_neg h

theorem decodeEngineReport_bytes (a b c d : Byte) : decodeEngineReport [a, b, c, d] =
    some { eng := a.toNat + 256 * b.toNat, load := c.toNat, limitAck := decide (d.toNat % 2 = 1) } := by
  have hspeed : field (leNat [a, b, c, d]) 0 16 = a.toNat + 256 * b.toNat := by simp only [leNat, field]; omega
  have hload : field (leNat [a, b, c, d]) 16 8 = c.toNat := by simp only [leNat, field]; omega
  have hack : field (leNat [a, b, c, d]) 24 1 = d.toNat % 2 := by simp only [leNat, field]; omega
  rw [decodeEngineReport, hspeed, hload, hack]
  exact if_pos rfl

theorem decodeDemandA_of_length {data : List Byte} (h : data.length ≠ 8) : decodeDemandA data = none := if_neg h

/-- The lever value 3 lies outside the lever's list. -/
theorem decodeDemandA_of_lever {b : Byte} {rest : List Byte} (h : b.toNat % 4 = 3) : decodeDemandA (b :: rest) = none := by
  have hlever : leverOf (field (leNat (b :: rest)) 0 2) = none := by
    rw [field_leNat_cons b rest (by decide), show b.toNat % 2 ^ 2 = 3 from h]
    rfl
  simp [decodeDemandA, hlever]

theorem decodeDemandB_of_length {data : List Byte} (h : data.length ≠ 8) : decodeDemandB data = none := if_neg h

/-- P_lever is the first byte, in steps of 5. -/
theorem decodeDemandB_pLever {data : List Byte} {v : DemandB} (h : decodeDemandB data = some v) :
    v.pLever = 5 * (data.headD 0).toNat := by
  cases data with
  | nil => exact absurd h (by simp [decodeDemandB_of_length])
  | cons b rest =>
    have hbyte : field (leNat (b :: rest)) 0 8 = b.toNat :=
      (field_leNat_cons b rest le_rfl).trans (Nat.mod_eq_of_lt b.isLt)
    dsimp only [decodeDemandB] at h
    split at h
    · split at h
      · obtain rfl := Option.some.inj h
        exact congrArg (5 * ·) hbyte
      · cases h
    · cases h

/-! ### The mailbox of a periodic frame (R172, R173) -/

section
variable {α : Type}

/-- A periodic frame received: the copy of its decoded value is put into its mailbox, while the vehicle link is ACTIVE. -/
def State.takePeriodic (decoded : Option α) (put : Copy α → LinkBlock → LinkBlock) (s : State) : State :=
  if s.receives .vehicle then decoded.elim s fun v => { s with link := put { val := v, arrived := s.now } s.link } else s

variable {decoded : Option α} {put : Copy α → LinkBlock → LinkBlock} {s : State}

theorem State.takePeriodic_of_discarded (h : s.link.vehicle.rejoin ≠ none ∨ decoded = none) :
    s.takePeriodic decoded put = s := by
  obtain h | rfl := h
  · exact if_neg (by simpa [State.receives, LinkBlock.get] using h)
  · exact ite_self s

theorem State.takePeriodic_of_taken {v : α} (hactive : s.link.vehicle.rejoin = none) (hv : decoded = some v) :
    s.takePeriodic decoded put = { s with link := put { val := v, arrived := s.now } s.link } := by
  subst hv
  exact if_pos (by simp [State.receives, LinkBlock.get, hactive])

end

theorem receiveEngineReport_eq (data : List Byte) :
    receiveEngineReport data = State.takePeriodic (decodeEngineReport data) fun c b => { b with engine := some c } := by
  funext s
  unfold receiveEngineReport State.takePeriodic
  cases decodeEngineReport data <;> rfl

theorem receiveDemandA_eq (data : List Byte) :
    receiveDemandA data = State.takePeriodic (decodeDemandA data) fun c b => { b with demandA := some c } := by
  funext s
  unfold receiveDemandA State.takePeriodic
  cases decodeDemandA data <;> rfl

theorem receiveDemandB_eq (data : List Byte) :
    receiveDemandB data = State.takePeriodic (decodeDemandB data) fun c b => { b with demandB := some c } := by
  funext s
  unfold receiveDemandB State.takePeriodic
  cases decodeDemandB data <;> rfl

/-! ### A whole frame refused (R178, R179) -/

/-- A REFUSAL joins the tail of a transmit queue that has room on an ACTIVE link. -/
theorem State.refuse_outbox (s : State) (l : Link) (message part func : Nat) (r : Reason)
    (hactive : (s.link.get l).rejoin = none) (hroom : (s.link.get l).outbox.length < 8) :
    ((s.refuse l message part func r).link.get l).outbox =
      (s.link.get l).outbox ++ [outFrame .refusal [message, part, func, reasonCode r]] := by
  rw [State.refuse, s.pushOut_outbox l _ hactive hroom, outFrame]
  exact congrArg (fun bytes => _ ++ [OutEvent.mk .refusal bytes]) (leBytes_pack_bytes [message, part, func, reasonCode r])

/-! ### The queue of an event frame (R173, R175) -/

section
variable {l : Link} {ident : Nat} {data : List Byte} {s : State}

theorem receiveEvent_of_ignored (h : eventKind l ident = none ∨ (s.link.get l).rejoin ≠ none) :
    receiveEvent l ident data s = s := by
  obtain h | h := h
  · simp [receiveEvent, h]
  · simp [receiveEvent, State.receives, h]

/-- A received frame changes its own link alone. -/
theorem receiveEvent_onLink (l : Link) (ident : Nat) (data : List Byte) (s : State) :
    ∃ f, receiveEvent l ident data s = s.onLink l f := by
  have hsame : s = s.onLink l id := by cases l <;> rfl
  unfold receiveEvent
  split
  · split
    · exact ⟨id, hsame⟩
    · split
      · exact ⟨_, by rw [State.refuse, State.pushOut]⟩
      · split
        · exact ⟨_, rfl⟩
        · exact ⟨_, by rw [State.refuse, State.pushOut]⟩
  · exact ⟨id, hsame⟩

variable {k : EventKind} (hactive : (s.link.get l).rejoin = none) (hkind : eventKind l ident = some k)
include hactive hkind

theorem receiveEvent_of_malformed (h : decodeEvent k data = none) :
    receiveEvent l ident data s = s.refuse l k.message (refusedPart k data) 0 .unknown := by
  simp [receiveEvent, State.receives, hactive, hkind, h]

theorem receiveEvent_of_room {e : EventFrame} (h : decodeEvent k data = some e) (hroom : (s.link.get l).inbox.length < 8) :
    receiveEvent l ident data s = s.onLink l fun b => { b with inbox := b.inbox ++ [e] } := by
  simp [receiveEvent, State.receives, hactive, hkind, h, hroom]

theorem receiveEvent_of_full {e : EventFrame} (h : decodeEvent k data = some e) (hfull : 8 ≤ (s.link.get l).inbox.length) :
    receiveEvent l ident data s = s.refuse l k.message (refusedPart k data) 0 .busy := by
  simp [receiveEvent, State.receives, hactive, hkind, h, hfull.not_gt]

end

end Sys2Proof.Machine

/-! ### The obligations -/

namespace Sys2Proof.Proofs

/-- Settles O49: each mailbox takes the frame or discards it (`State.takePeriodic`), and the frames decode as their bytes
say. -/
theorem periodicFrames : Obligations.PeriodicFrames := by
  intro s dt data hrun
  refine ⟨⟨_, exec_of_running rfl hrun, ?_⟩, ⟨_, exec_of_running rfl hrun, ?_⟩, ⟨_, exec_of_running rfl hrun, ?_⟩⟩
  · rw [receiveEngineReport_eq]
    refine ⟨fun h => State.takePeriodic_of_discarded (h.imp_right decodeEngineReport_of_length), ?_⟩
    rintro a b c d hactive rfl
    exact State.takePeriodic_of_taken (s := s.advance dt) hactive (decodeEngineReport_bytes a b c d)
  · rw [receiveDemandA_eq]
    refine ⟨State.takePeriodic_of_discarded (s := s.advance dt),
      fun h => State.takePeriodic_of_discarded (.inr (decodeDemandA_of_length h)), ?_,
      fun v => State.takePeriodic_of_taken (s := s.advance dt)⟩
    rintro b rest rfl h
    exact State.takePeriodic_of_discarded (.inr (decodeDemandA_of_lever h))
  · rw [receiveDemandB_eq]
    exact ⟨State.takePeriodic_of_discarded (s := s.advance dt),
      fun h => State.takePeriodic_of_discarded (.inr (decodeDemandB_of_length h)),
      fun v hactive hv => ⟨decodeDemandB_pLever hv, State.takePeriodic_of_taken (s := s.advance dt) hactive hv⟩⟩

/-- Settles O50: what `receiveEvent` does in each case, and that it changes its own link alone. -/
theorem eventFramesQueue : Obligations.EventFramesQueue := by
  intro s dt l ident data hrun
  refine ⟨receiveEvent l ident data (s.advance dt), exec_of_running rfl hrun, receiveEvent_of_ignored (s := s.advance dt),
    fun k hactive hkind => ⟨fun hbad => ?_, fun e he hroom => ?_, fun e he hfull => ?_⟩, ?_⟩
  · rw [receiveEvent_of_malformed (s := s.advance dt) hactive hkind hbad]
    exact ⟨State.refuse_inbox .., (s.advance dt).refuse_outbox l _ _ _ _ hactive⟩
  · rw [receiveEvent_of_room (s := s.advance dt) hactive hkind he hroom, State.onLink_get]
    exact ⟨rfl, rfl⟩
  · rw [receiveEvent_of_full (s := s.advance dt) hactive hkind he hfull]
    exact ⟨State.refuse_inbox .., (s.advance dt).refuse_outbox l _ _ _ _ hactive⟩
  · obtain ⟨f, hf⟩ := receiveEvent_onLink l ident data (s.advance dt)
    rw [hf]
    exact ⟨fun m hm => State.onLink_get_other _ l m f hm, by cases l <;> rfl⟩

end Sys2Proof.Proofs
end

section
/-! PROOFS. The receiver of the service line (11, R182, R187), byte by byte, and the unlock sequence (R185): what SYNC and
KEY do in each unlock state. -/

open Sys2Proof Sys2Proof.Machine

namespace Sys2Proof.Machine

/-- A state that differs in the Service Port's records alone. -/
theorem State.eq_but_svc {s t : State}
    (h : t.pending = s.pending ∧ t.life = s.life ∧ t.now = s.now ∧ t.start = s.start ∧ t.free = s.free ∧
      t.build = s.build ∧ t.speed = s.speed ∧ t.auth = s.auth ∧ t.seq = s.seq ∧ t.chan = s.chan ∧ t.store = s.store ∧
      t.run = s.run ∧ t.axle = s.axle ∧ t.hitch = s.hitch ∧ t.brake = s.brake ∧ t.fault = s.fault ∧ t.power = s.power ∧
      t.link = s.link) :
    t = { s with svc := t.svc } := by
  cases s; cases t; simp_all

/-! ### The receiver (R182, R187) -/

section
variable {s : State} {b : Byte}

/-- No byte is taken before the line's first rise, nor while an answer is under way. -/
theorem serviceByte_of_ignored (h : s.svc.lineRisen = false ∨ s.svc.rx = .answering) : serviceByte b s = s := by
  unfold serviceByte
  rcases h with hline | hrx
  · rw [hline]; exact if_neg Bool.false_ne_true
  · rw [hrx]; exact ite_self s

theorem serviceByte_of_idle (hline : s.svc.lineRisen = true) (hrx : s.svc.rx = .idle) : serviceByte b s =
    if 32 < b.toNat then s else s.onSvc fun v => { v with rx := .receiving, buf := [b], lastByte := s.now } := by
  rw [serviceByte, if_pos hline, hrx]

theorem serviceByte_of_receiving (hline : s.svc.lineRisen = true) (hrx : s.svc.rx = .receiving) :
    serviceByte b s = frameByte (s.svc.buf ++ [b]) s := by
  rw [serviceByte, if_pos hline, hrx]

theorem gapExpiry_of_due (hrx : s.svc.rx = .receiving) (hdue : s.svc.lastByte + 5 ≤ s.now) :
    gapExpiry s = s.onSvc fun v => { v with rx := .idle, buf := [] } := if_pos ⟨hrx, hdue⟩

theorem gapExpiry_of_not_due (h : s.svc.rx ≠ .receiving ∨ s.now < s.svc.lastByte + 5) : gapExpiry s = s :=
  if_neg fun ⟨hrx, hdue⟩ => h.elim (· hrx) (Nat.not_lt.mpr hdue)

end

section
variable {n : Byte} {bs : List Byte} {s : State}

/-- The first byte is the length of the payload: the frame is complete with three bytes more. -/
theorem frameByte_of_short (h : (n :: bs).length < n.toNat + 3) :
    frameByte (n :: bs) s = s.onSvc fun v => { v with buf := n :: bs, lastByte := s.now } :=
  if_neg (Nat.not_le.mpr h)

theorem frameByte_of_complete (h : n.toNat + 3 ≤ (n :: bs).length) : frameByte (n :: bs) s =
    if (n :: bs).foldl (· + ·) 0 = 0 then frameComplete (n :: bs) s
    else s.onSvc fun v => { v with rx := .idle, buf := [] } :=
  if_pos h

end

/-- A frame that is taken leaves the receiver in ANSWERING and the unlock state as it was, and outside strap service moves
the silence deadline, whether its kind is known or not. -/
theorem frameComplete_svc (bs : List Byte) (s : State) :
    (frameComplete bs s).svc.rx = .answering ∧ (frameComplete bs s).svc.buf = [] ∧
      (frameComplete bs s).svc.unlock = s.svc.unlock ∧
      (frameComplete bs s).svc.silence = if s.build.serviceStrap then none else some (s.now + 5000) := by
  unfold frameComplete
  dsimp only
  split <;> exact ⟨rfl, rfl, rfl, rfl⟩

/-! ### The waiting SYNC or KEY (R185) -/

section
variable {s : State} {dt word : Nat} (hrun : s.running = true)
include hrun

theorem exec_sync_of_frame (h : s.svc.frame = some (.sync word)) :
    exec (.sync dt) s = .next (judgeSync word (s.advance dt)) := by
  rw [exec_of_running rfl hrun, withFrame, State.advance_svc, h]; rfl

theorem exec_key_of_frame (h : s.svc.frame = some (.key word)) :
    exec (.key dt) s = .next (judgeKey word (s.advance dt)) := by
  rw [exec_of_running rfl hrun, withFrame, State.advance_svc, h]; rfl

end

/-! ### SYNC (R185) -/

theorem judgeSync_of_wrong {s : State} {word : Nat} (h : word ≠ 0x4B2D) : judgeSync word s = s.answerRefused .unknown :=
  if_pos h

section
variable {s : State}

theorem judgeSync_of_unlocked (h : s.svc.unlock = .unlocked) :
    judgeSync 0x4B2D s = s.answer 0x81 (leBytes 2 0x4BAD) := by
  simp [judgeSync, h]

theorem judgeSync_of_blocked (hlock : s.svc.unlock ≠ .unlocked) (hblock : s.svc.syncBlock ≠ none) :
    judgeSync 0x4B2D s = s.answerRefused .locked := by
  simp [judgeSync, hlock, Option.isSome_iff_ne_none.mpr hblock]

theorem judgeSync_of_free (hlock : s.svc.unlock ≠ .unlocked) (hblock : s.svc.syncBlock = none) : judgeSync 0x4B2D s =
    (s.onSvc fun v => { v with unlock := .synced, words := [] }).answer 0x81 (leBytes 2 0x4BAD) := by
  simp [judgeSync, hlock, hblock]

end

theorem judgeSync_syncBlock (word : Nat) (s : State) : (judgeSync word s).svc.syncBlock = s.svc.syncBlock := by
  unfold judgeSync
  dsimp only
  split_ifs <;> rfl

/-! ### KEY (R185) -/

section
variable {s : State} {word : Nat}

theorem judgeKey_of_outside (h : s.svc.unlock = .locked ∨ s.svc.unlock = .unlocked) :
    judgeKey word s = s.answerRefused .locked := by
  rcases h with h | h <;> simp [judgeKey, h]

variable {u : Nat} (hseq : s.svc.unlock = .synced ∨ s.svc.unlock = .keying) (hlast : s.svc.lastAnswer = some u)
include hseq hlast

theorem judgeKey_of_early (h : s.now < u + 50) : judgeKey word s = s.answer 0x82 [] := by
  rcases hseq with hseq | hseq <;> simp [judgeKey, hseq, hlast, h]

variable (htime : u + 50 ≤ s.now)
include htime

/-- A KEY in time: a word short of the fifth is kept, and the fifth decides. -/
theorem judgeKey_of_timely : judgeKey word s =
    if (s.svc.words ++ [word]).length < 5 then
      (s.onSvc fun v => { v with unlock := .keying, words := s.svc.words ++ [word] }).answerResult none
    else if s.svc.words ++ [word] = keyWords s.serviceKey then
      (s.onSvc fun v => { v with unlock := .unlocked, words := [] }).answerResult none
    else (s.onSvc fun v => { v with unlock := .locked, words := [], syncBlock := some s.now }).answerRefused .locked := by
  rcases hseq with hseq | hseq <;> simp [judgeKey, hseq, hlast, htime]

theorem judgeKey_of_word (hlen : s.svc.words.length < 4) : judgeKey word s =
    (s.onSvc fun v => { v with unlock := .keying, words := s.svc.words ++ [word] }).answerResult none :=
  (judgeKey_of_timely hseq hlast htime).trans (if_pos (by rw [List.length_append]; exact Nat.succ_lt_succ hlen))

variable (hlen : s.svc.words.length = 4)
include hlen

theorem judgeKey_of_right_words (hwords : s.svc.words ++ [word] = keyWords s.serviceKey) : judgeKey word s =
    (s.onSvc fun v => { v with unlock := .unlocked, words := [] }).answerResult none := by
  rw [judgeKey_of_timely hseq hlast htime, if_neg (by simp [hlen]), if_pos hwords]

theorem judgeKey_of_wrong_words (hwords : s.svc.words ++ [word] ≠ keyWords s.serviceKey) : judgeKey word s =
    (s.onSvc fun v => { v with unlock := .locked, words := [], syncBlock := some s.now }).answerRefused .locked := by
  rw [judgeKey_of_timely hseq hlast htime, if_neg (by simp [hlen]), if_neg hwords]

end

end Sys2Proof.Machine

/-! ### The obligations -/

namespace Sys2Proof.Proofs

/-- Settles O54: each receiver state's equation for a byte, and what a frame that is taken leaves (`frameComplete_svc`). -/
theorem serviceReceiver : Obligations.ServiceReceiver := by
  intro s dt b hrun
  set u := s.advance dt with hu
  refine ⟨⟨serviceByte b u, exec_of_running rfl hrun, serviceByte_of_ignored (s := u), fun hline hrx => ?_,
      fun n rest hline hrx hbuf => ?_⟩,
    ⟨gapExpiry u, exec_of_running rfl hrun, gapExpiry_of_due (s := u), gapExpiry_of_not_due (s := u)⟩,
    ⟨_, exec_of_running rfl hrun, rfl⟩⟩
  · rw [serviceByte_of_idle (s := u) hline hrx]
    exact ⟨fun hlong => if_pos hlong, fun hfit => if_neg (Nat.not_lt.mpr hfit)⟩
  · have hbyte : serviceByte b u = frameByte (n :: rest ++ [b]) u :=
      (serviceByte_of_receiving (s := u) hline hrx).trans (congrArg (fun bs => frameByte (bs ++ [b]) u) hbuf)
    have hlen : (n :: rest ++ [b]).length = rest.length + 2 := by simp
    rw [hbyte]
    refine ⟨fun hshort => frameByte_of_short (hlen ▸ hshort), fun hfull => ?_⟩
    have hcomplete := frameByte_of_complete (n := n) (bs := rest ++ [b]) (s := u) (hlen ▸ hfull)
    refine ⟨fun hsum => hcomplete.trans (if_neg hsum), fun hsum => ?_⟩
    have htaken : frameByte (n :: rest ++ [b]) u = frameComplete (n :: rest ++ [b]) u := hcomplete.trans (if_pos hsum)
    obtain ⟨hanswering, hempty, hunlock, hsilence⟩ := frameComplete_svc (n :: rest ++ [b]) u
    rw [htaken]
    exact ⟨hanswering, hempty, hunlock, fun hstrap => hsilence.trans (by simp [hu, hstrap]),
      State.eq_but_svc (frameComplete_frame _ u)⟩

/-- Settles O56: SYNC and KEY in each unlock state (`judgeKey_of_timely` for a word in time). -/
theorem syncAndKey : Obligations.SyncAndKey := by
  intro s dt word hrun
  set u := s.advance dt with hu
  refine ⟨fun hframe => ⟨_, exec_sync_of_frame hrun hframe, fun hwrong => ?_, ?_, ?_, ?_, judgeSync_syncBlock word u,
      State.eq_but_svc (judgeSync_frame word u)⟩,
    fun hframe => ⟨_, exec_key_of_frame hrun hframe, fun hout => ?_, fun hseq => ⟨fun v hlast hearly => ?_,
      fun v hlast htime => ⟨fun hlen => ?_, fun hlen => ⟨fun hwords => ?_, fun hwords => ?_⟩⟩⟩,
      State.eq_but_svc (judgeKey_frame word u)⟩⟩
  · rw [judgeSync_of_wrong hwrong]
    exact ⟨State.answeredRefused_of_answerRefused .., rfl, rfl⟩
  · rintro rfl hunlocked
    rw [judgeSync_of_unlocked (s := u) hunlocked]
    exact ⟨hunlocked, rfl⟩
  · rintro rfl hlock hblock
    rw [judgeSync_of_blocked (s := u) hlock hblock]
    exact ⟨State.answeredRefused_of_answerRefused .., rfl, rfl⟩
  · rintro rfl hlock hblock
    rw [judgeSync_of_free (s := u) hlock hblock]
    exact ⟨rfl, rfl, rfl⟩
  · rw [judgeKey_of_outside (s := u) hout]
    exact ⟨State.answeredRefused_of_answerRefused .., rfl⟩
  · rw [judgeKey_of_early (s := u) hseq hlast hearly]
    exact ⟨rfl, rfl, rfl⟩
  · rw [judgeKey_of_word (s := u) hseq hlast htime hlen]
    exact ⟨rfl, rfl, State.answeredOk_of_answerResult _⟩
  · rw [judgeKey_of_right_words (s := u) hseq hlast htime hlen hwords]
    exact ⟨rfl, rfl, State.answeredOk_of_answerResult _, rfl⟩
  · rw [judgeKey_of_wrong_words (s := u) hseq hlast htime hlen hwords]
    exact ⟨rfl, rfl, rfl, State.answeredRefused_of_answerRefused ..⟩

end Sys2Proof.Proofs
end

section
/-! PROOFS. The queue of commands: the step takes its front command (log 21), and every command answers a next state with the
queue it was given, the power states and the starts included (R71, R105, R167 to R169). -/

open Sys2Proof Sys2Proof.Machine

namespace Sys2Proof.Machine

/-! ### The step -/

/-- A step with a command in front runs it on the queue's rest (log 21). -/
theorem step_of_front {c : Instr} {rest : List Instr} (s : State) (h : s.pending = c :: rest) :
    step s = exec c { s with pending := rest } := by simp [step, h]

/-! ### Starts and power states -/

section
variable (s : State)

theorem softRestart_pending (rbs : List ReadBack) : (softRestart rbs s).pending = s.pending := rfl

theorem unpowered_pending (mask : List Byte) : (unpowered mask s).pending = s.pending := rfl

theorem endFlush_pending (rbs : List ReadBack) : (endFlush rbs s).pending = s.pending := by
  unfold endFlush
  split
  · exact softRestart_pending s rbs
  · simp

theorem judgePhase_pending (rbs : List ReadBack) : (judgePhase rbs s).pending = s.pending := by
  unfold judgePhase
  split
  · split <;> simp
  · split
    · exact endFlush_pending s rbs
    · rfl
  · rfl
  · rfl

theorem powerStep_pending (ignition : Bool) (rbs : List ReadBack) : (powerStep ignition rbs s).pending = s.pending := by
  have hjudged : (judgeIgnition ignition s).pending = s.pending := by simp
  unfold powerStep
  dsimp only
  split
  · exact (judgePhase_pending _ rbs).trans hjudged
  · exact hjudged

theorem applySupply_pending (ignition : Bool) : (applySupply ignition s).pending = s.pending := by
  unfold applySupply
  split
  · split <;> rfl
  · split <;> rfl
  · rfl
  · rfl

theorem endWindow_pending (readings : List StrapReading) : (endWindow readings s).pending = s.pending := by
  unfold endWindow
  split <;> rfl

theorem answerSent_pending (rbs : List ReadBack) : (answerSent rbs s).pending = s.pending := by
  unfold answerSent
  split
  · split
    · exact softRestart_pending s rbs
    · simp
  · rfl

theorem storeDrained_pending : (storeDrained s).pending = s.pending := by
  unfold storeDrained
  split
  · exact endFlush_pending s []
  · rfl

/-! ### Every command -/

/-- An event leaves the queue where its effect does. -/
theorem State.event_pending (dt : Nat) {f : State → State} (hf : ∀ u : State, (f u).pending = u.pending) :
    (s.event dt f).pending = s.pending := by
  unfold State.event
  split
  · exact hf (s.advance dt)
  · rfl

/-- A command of the service line leaves the queue where the judgement of its frame does. -/
theorem State.serviceEvent_pending (dt : Nat) {f : State → SvcFrame → Option State}
    (hf : ∀ (u : State) x t, f u x = some t → t.pending = u.pending) :
    (s.event dt fun u => withFrame u (f u)).pending = s.pending :=
  s.event_pending dt fun u => withFrame_of_judged u (motive := fun t => t.pending = u.pending) rfl (hf u)

theorem unlockedOnly_pending {f : State → State} (hf : (f s).pending = s.pending) :
    (unlockedOnly s f).pending = s.pending := by
  unfold unlockedOnly
  split
  · exact hf
  · simp

theorem withCalib_pending {f : State → State × Option Reason} (hf : (f s).1.pending = s.pending) :
    (withCalib s f).pending = s.pending := by
  unfold withCalib
  split
  · simp [answered, hf]
  · simp

/-- No command faults or is refused: each has a meaning that answers a next state. -/
theorem exec_completes (c : Instr) : ∃ t, exec c s = .next t := by
  cases c <;> exact ⟨_, rfl⟩

variable {s}

/-- Every command leaves the queue of commands: the power states and the starts by the lemmas above, the service line by what
judges its frame, and any other since no block's event reaches the queue. -/
theorem exec_pending {c : Instr} {t : State} (h : exec c s = .next t) : t.pending = s.pending := by
  cases c with
  | powerStep dt ignition rbs =>
    obtain rfl := Host.Outcome.next.inj h
    split
    · exact powerStep_pending (s.advance dt) ignition rbs
    · rfl
  | supplyApplied dt ignition => exact Host.Outcome.next.inj h ▸ applySupply_pending (s.advance dt) ignition
  | strapWindowEnd dt readings => exact Host.Outcome.next.inj h ▸ endWindow_pending (s.advance dt) readings
  | lossOfSupply dt untouched => exact Host.Outcome.next.inj h ▸ unpowered_pending (s.advance dt) untouched
  | storeDrained dt => exact Host.Outcome.next.inj h ▸ s.event_pending dt storeDrained_pending
  | answerSent dt rbs => exact Host.Outcome.next.inj h ▸ s.event_pending dt fun u => answerSent_pending u rbs
  | slotProgramComplete dt rb | voidProgramComplete dt | pageEraseComplete dt rb | headerProgramComplete dt rb =>
    refine Host.Outcome.next.inj h ▸ s.event_pending dt fun u => ?_
    split
    · simp
    · rfl
  | calRun dt _ | calAbort dt =>
    refine Host.Outcome.next.inj h ▸ s.serviceEvent_pending dt fun u x t hx => ?_
    split at hx
    · exact Option.some.inj hx ▸ unlockedOnly_pending u (withCalib_pending u (by simp))
    · cases hx
  | take dt | release dt | storeNow dt | restart dt =>
    refine Host.Outcome.next.inj h ▸ s.serviceEvent_pending dt fun u x t hx => ?_
    split at hx
    · exact Option.some.inj hx ▸ unlockedOnly_pending u (by simp)
    · cases hx
  | sync dt | key dt | cancel dt | lock dt | readItem dt | writeItem dt =>
    refine Host.Outcome.next.inj h ▸ s.serviceEvent_pending dt fun u x t hx => ?_
    split at hx
    · exact Option.some.inj hx ▸ by simp [answered]
    · cases hx
  | _ =>
    obtain rfl := Host.Outcome.next.inj h
    exact s.event_pending _ fun u => by simp

end

end Sys2Proof.Machine

/-! ### The obligations -/

namespace Sys2Proof.Proofs

/-- Settles O1: the front command runs on the queue's rest. -/
theorem stepRunsFrontCommand : Obligations.StepRunsFrontCommand := fun _ _ _ => step_of_front _ rfl

/-- Settles O2: each command's meaning answers a next state, which has the queue given. -/
theorem everyCommandCompletes : Obligations.EveryCommandCompletes := by
  intro c s
  obtain ⟨t, ht⟩ := exec_completes s c
  exact ⟨t, ht, exec_pending ht⟩

end Sys2Proof.Proofs
end
